-- ==== Sys2Proof/Word.lean ====
section
/-! DEFINITION. The word types of the MF6120: bytes, the 16-bit and 32-bit counters and sequence values, part time,
and the slot index. Conversions and comparisons live in files under Machine/. -/

namespace Sys2Proof

/-- One byte of a frame, of the template pool, of the profile store or of a message. -/
abbrev Byte := BitVec 8

/-- A 16-bit per-slot counter (section 6.6). -/
abbrev Count16 := BitVec 16

/-- A 32-bit global counter (section 6.6). -/
abbrev Count32 := BitVec 32

/-- A sequence, acknowledgement, capture or send-counter value, taken modulo 2^32 (section 6.4). -/
abbrev SeqValue := BitVec 32

/-- A part time: a count of ticks of 1/16 second modulo 2^32 (section 6.3). -/
abbrev Time := BitVec 32

/-- A frame check sequence (R40). -/
abbrev Fcs := BitVec 32

/-- The index 0 … 127 of a slot of the presence table (R1). -/
abbrev SlotIx := Fin 128

end Sys2Proof
end

