-- ==== Sys2Proof/Config.lean ====
section
/-! DEFINITION. The capacities fixed in silicon (section 6.7) and the one value the manual leaves open: which bytes of an
interrupted store program had already been written (R187). -/

namespace Sys2Proof.Config

/-- Claims the table holds at most (R2). -/
abbrev maxClaims : Nat := 16

/-- Streams the table holds at most (R2). -/
abbrev maxStreams : Nat := 32

/-- Exchanges the table holds at most (R2). -/
abbrev maxExchanges : Nat := 16

/-- Bytes of the template pool (R25). -/
abbrev poolBytes : Nat := 16384

/-- Bytes of one pool block (R25). -/
abbrev blockBytes : Nat := 64

/-- Answers the answer queue holds at most (R151). -/
abbrev answerPlaces : Nat := 8

/-- Items the own-traffic queue holds at most, a carried own-traffic frame's kept place among them (R152). -/
abbrev ownPlaces : Nat := 16

/-- Frames the held queue holds at most (R161). -/
abbrev heldFrames : Nat := 32

/-- Bytes of frame data the held queue holds at most (R161). -/
abbrev heldBytes : Nat := 24576

/-- Bytes of the receive staging buffer (R64). -/
abbrev stagingBytes : Nat := 4096

/-- The longest frame, and the room a starting line frame needs (R64, R65). -/
abbrev maxFrame : Nat := 1518

/-- The shortest good frame (R65). -/
abbrev minFrame : Nat := 14

/-- The length to which a built frame is padded (R39). -/
abbrev minBuilt : Nat := 60

/-- Places of the station buffer (R156). -/
abbrev stationPlaces : Nat := 2

/-- Entries of the wake report's cause list (R167). -/
abbrev causePlaces : Nat := 8

/-- The largest payload a request may declare (R180). -/
abbrev maxPayload : Nat := 1024

/-- Quiet ticks after which the part enters DOZE (R183). -/
abbrev quietTicks : Nat := 4

/-- Half of the 32-bit range: the bound of every half-range comparison (sections 6.3 and 6.4). -/
abbrev halfRange : Nat := 2 ^ 31

/-- The longest delay in ticks (section 6.3). -/
abbrev maxDelay : Nat := 2 ^ 30

/-- FREE VALUE (log entry 1). Whether the `draw`-th interrupted store program had already written the byte at an offset of
its page: R187 says that bytes 2 … 255 "may hold any mix of the new data and 0xFF". It has no body, so nothing can be
proved of the mix. -/
opaque tornByteWritten (draw offset : Nat) : Bool

end Sys2Proof.Config
end

