-- ==== Sys2Proof/Syntax.lean ====
section
/-! DEFINITION. The commands of the MF6120: one constructor of `Instr` for each row of spec/opcode_table.json, with its
operands. A request row carries the port it came on and its payload bytes (R180); an event row carries what the event
brings (a received frame, a slot whose due time came, a pin's new level). -/

namespace Sys2Proof

/-- The two ports (R180): the system port of the host and the platform port of the embedded controller. -/
inductive Port where
  | system
  | platform
  deriving DecidableEq, Repr

/-- The requests of R180's code table. -/
inductive RequestKind where
  | putSlot | getSlot | clearSlot | poolWrite | poolRead | lend | reclaim | recall | setPolicy | getPolicy
  | readStatus | readChanges | readReport | takeSample | releaseSample | storeRead | storeErase | storeProgram
  | softReset
  deriving DecidableEq, Repr

/-- The events that start warm-up from DOZE (R184). -/
inductive WakeCause where
  | lineFrame
  | stationFrame
  | request (port : Port)
  | linkChange
  | wakeDue
  deriving DecidableEq, Repr

/-- The commands, in the order of spec/opcode_table.json. -/
inductive Instr where
  | putSlot (port : Port) (payload : List Byte)
  | getSlot (port : Port) (payload : List Byte)
  | clearSlot (port : Port) (payload : List Byte)
  | poolWrite (port : Port) (payload : List Byte)
  | poolRead (port : Port) (payload : List Byte)
  | lend (port : Port) (payload : List Byte)
  | reclaim (port : Port) (payload : List Byte)
  | recall (port : Port) (payload : List Byte)
  | setPolicy (port : Port) (payload : List Byte)
  | getPolicy (port : Port) (payload : List Byte)
  | readStatus (port : Port) (payload : List Byte)
  | readChanges (port : Port) (payload : List Byte)
  | readReport (port : Port) (payload : List Byte)
  | takeSample (port : Port) (payload : List Byte)
  | releaseSample (port : Port) (payload : List Byte)
  | storeRead (port : Port) (payload : List Byte)
  | storeErase (port : Port) (payload : List Byte)
  | storeProgram (port : Port) (payload : List Byte)
  | softReset (port : Port) (payload : List Byte)
  /-- A system-port transaction with request code 0x00 that clocks `count` bytes (R180). -/
  | poll (count : Nat)
  /-- A message whose bytes fail the framing tests or carry an unknown code (R180). -/
  | unknownRequest (port : Port) (message : List Byte)
  /-- A read of `count` bytes of a port's request slot (R181). -/
  | responseRead (port : Port) (count : Nat)
  | lendCheckStep
  | powerOn
  | rstN
  | resetRelease
  | profileRecord
  | storeEraseDone
  | storeProgramDone
  | lineFrameStart
  /-- A line frame's last FCS byte is received: its bytes from offset 0 without the FCS, and the FCS (R64). -/
  | lineFrameArrival (bytes : List Byte) (fcs : Fcs)
  | frameTaking
  | stationFrameStart
  /-- A station frame is whole in its place: its bytes without the FCS, and the FCS the MAC sent (R156). -/
  | stationFrameTaking (bytes : List Byte) (fcs : Fcs)
  | grant
  | transmitComplete
  | lineLinkDrop
  | lineLinkReturn
  /-- STN_RDY takes a new level, `true` for high (R157). -/
  | stnRdyChange (high : Bool)
  | deliveryEnd
  | tick
  | dueItemPlacement
  | probeSpacingExpiry (slot : SlotIx)
  | defenceWindowExpiry (slot : SlotIx)
  | streamPeriodExpiry (slot : SlotIx)
  | retrySpacingExpiry (slot : SlotIx)
  | exchangeNextDue (slot : SlotIx)
  | replyWaitExpiry (slot : SlotIx)
  | floodWindowEnd
  | dozeEntry
  | warmUpStart (cause : WakeCause)
  | warmUpEnd
  | powerLoss
  deriving DecidableEq, Repr

end Sys2Proof
end

