-- ==== Sys2Proof/Decode.lean ====
section
/-! DEFINITION. Reading a message of a port (R180), and the host's word decoder. spec/opcode_table.json gives bits for no
row (`"fields": []` throughout), so no word spells a command. -/

namespace Sys2Proof

/-- The command a word spells by the table's bits: the table gives bits for no row, so none. -/
def decodeTableWord (_nbits _w : Nat) : Option Instr := none

/-- The request code table of R180; an unknown code names no request. -/
def requestOfCode (code : Byte) : Option RequestKind :=
  match code.toNat with
  | 0x01 => some .putSlot
  | 0x02 => some .getSlot
  | 0x03 => some .clearSlot
  | 0x04 => some .poolWrite
  | 0x05 => some .poolRead
  | 0x06 => some .lend
  | 0x07 => some .reclaim
  | 0x08 => some .recall
  | 0x09 => some .setPolicy
  | 0x0A => some .getPolicy
  | 0x0B => some .readStatus
  | 0x0C => some .readChanges
  | 0x0D => some .readReport
  | 0x0E => some .takeSample
  | 0x0F => some .releaseSample
  | 0x10 => some .storeRead
  | 0x11 => some .storeErase
  | 0x12 => some .storeProgram
  | 0x13 => some .softReset
  | _ => none

/-- What a port makes of the bytes of one message (R180). -/
inductive Framed where
  /-- No request is taken: a poll, or a transaction that carries no byte. -/
  | noRequest
  /-- The framing tests refuse the message with MALFORMED. -/
  | malformed
  /-- A request goes to its owner. -/
  | request (kind : RequestKind) (payload : List Byte)
  deriving DecidableEq, Repr

/-- The framing tests of R180. A system-port message may be followed by more bytes than its header declares; a platform
write may not. -/
def frameMessage (port : Port) (message : List Byte) : Framed :=
  match message with
  | [] => .noRequest
  | code :: rest =>
    if port = .system ∧ code = 0 then .noRequest
    else
      match rest with
      | hi :: lo :: body =>
        let declared := hi.toNat * 256 + lo.toNat
        if declared > Config.maxPayload then .malformed
        else if body.length < declared then .malformed
        else if port = .platform ∧ declared < body.length then .malformed
        else
          match requestOfCode code with
          | none => .malformed
          | some kind => .request kind (body.take declared)
      | _ => .malformed

end Sys2Proof
end

