-- ==== Sys2Proof/Machine/Records.lean ====
section
/-! DEFINITION. What a slot of the presence table can hold (Chapters 1 and 2): probes, templates and the five record kinds,
each with its configuration fields, its state fields (section 1.4) and the values its engine holds inside. -/

namespace Sys2Proof.Machine

/-- A probe of a descriptor (R3, R5). The value and mask bytes of a masked probe stand as pairs, so that there are as many
of the one as of the other. -/
inductive Probe where
  | masked (offset : Nat) (valueMask : List (Byte × Byte))
  | equalsCounter (offset len : Nat)
  deriving DecidableEq, Repr

/-- A descriptor: 1 … 4 probes a frame must all pass (R4). -/
abbrev Descriptor := List Probe

/-- A link: another slot by index, or absent (R6). -/
abbrev Link := Option SlotIx

/-- One piece of a template's segment chain (R28, R30). -/
structure Segment where
  startBlock : Nat
  len : Nat
  endFlag : Bool
  deriving DecidableEq, Repr

/-- Where a substitution's value comes from (R34). -/
inductive Source where
  | rx (offset : Nat)
  | claimAddr
  | stationAddr
  | seqOut
  | seqOutLess1
  | seqIn
  | capture (k : Nat)
  | counter
  | time
  deriving DecidableEq, Repr

/-- A place in a template where a value is written at assembly (R28). -/
structure Subst where
  offset : Nat
  len : Nat
  source : Source
  deriving DecidableEq, Repr

/-- One 16-bit ones' complement checksum of a template (R28, R37). An absent span end is "to end". -/
structure ChecksumSpec where
  spanStart : Nat
  spanEnd : Option Nat
  fieldOffset : Nat
  baseSum : BitVec 16
  zeroAsOnes : Bool
  deriving DecidableEq, Repr

/-- A template record (R28). -/
structure Template where
  totalLen : Nat
  segments : List Segment
  substs : List Subst
  checksums : List ChecksumSpec
  deriving DecidableEq, Repr

/-- A claim's state (R7). -/
inductive ClaimState where
  | held | probing | contested | lost
  deriving DecidableEq, Repr

/-- The purpose of a claim's own-traffic item (R82). -/
inductive Purpose where
  | probe | announcement
  deriving DecidableEq, Repr

/-- A claim's timer with its due time (R82). While the line link is down no expiry is taken for it. -/
inductive ClaimTimer where
  | probeSpacing (due : Time)
  | defenceWindow (due : Time)
  deriving DecidableEq, Repr

/-- A CLAIM's configuration fields (R7). -/
structure ClaimConfig where
  address : List Byte
  assertion : Descriptor
  assertionOffset : Nat
  probeTemplate : Option Template
  announceTemplate : Option Template
  probeCount : Nat
  probeSpacing : Nat
  defenceWindow : Nat
  exchangeLink : Link
  deriving DecidableEq, Repr

/-- A CLAIM record (R7, R82). `dueItem` is the claim's item due with its purpose; the purpose of a queued item stands in
the own-traffic queue (R152). -/
structure Claim where
  cfg : ClaimConfig
  state : ClaimState
  probesRemaining : Nat
  conflictsSeen : Count16
  reprobePending : Bool
  dueItem : Option Purpose
  timer : Option ClaimTimer
  deriving DecidableEq, Repr

/-- A responder's class (R8). -/
inductive ResponderClass where
  | essential | courtesy
  deriving DecidableEq, Repr

/-- A RESPONDER's configuration fields (R8). -/
structure ResponderConfig where
  descriptor : Descriptor
  answerTemplate : Template
  claimLink : Link
  cls : ResponderClass
  deriving DecidableEq, Repr

/-- A RESPONDER record (R8). -/
structure Responder where
  cfg : ResponderConfig
  answersSent : Count16
  answersSuppressed : Count16
  deriving DecidableEq, Repr

/-- A filter's action (R9). -/
inductive FilterAction where
  | rouse | discard
  deriving DecidableEq, Repr

/-- A FILTER's configuration fields (R9). -/
structure FilterConfig where
  descriptor : Descriptor
  action : FilterAction
  deriving DecidableEq, Repr

/-- A FILTER record (R9). -/
structure Filter where
  cfg : FilterConfig
  hits : Count16
  deriving DecidableEq, Repr

/-- A stream's state (R10). -/
inductive StreamState where
  | idle | probeDue | outstanding | ended
  deriving DecidableEq, Repr

/-- A stream's timer; its due time is the record's next due (R113). -/
inductive StreamTimer where
  | period | retrySpacing
  deriving DecidableEq, Repr

/-- A STREAM's configuration fields (R10). -/
structure StreamConfig where
  inbound : Descriptor
  outbound : Descriptor
  seqOffset : Nat
  ackOffset : Nat
  headerLen : Nat
  closeProbe : Option Probe
  tracking : Bool
  probeTemplate : Template
  replyTemplate : Template
  period : Nat
  retrySpacing : Nat
  missLimit : Nat
  claimLink : Link
  deriving DecidableEq, Repr

/-- A STREAM record (R10, R113). Its item is present while the own-traffic queue holds one of its slot. -/
structure Stream where
  cfg : StreamConfig
  ourSeq : SeqValue
  peerSeq : SeqValue
  valuesValid : Bool
  state : StreamState
  nextDue : Time
  misses : Nat
  probesSent : Count16
  acksSeen : Count16
  repliesSent : Count16
  staleFrames : Count16
  itemDue : Bool
  timer : Option StreamTimer
  deriving DecidableEq, Repr

/-- A capture spec (R11). -/
structure CaptureSpec where
  offset : Nat
  len : Nat
  deriving DecidableEq, Repr

/-- The schedule mode with the fields of its own mode (R11). -/
inductive Schedule where
  | fixed (period : Nat)
  | captured (index fraction minDelay maxDelay : Nat)
  deriving DecidableEq, Repr

/-- An exchange's state (R11). -/
inductive ExchangeState where
  | waiting | queued | awaiting | rest | halted
  deriving DecidableEq, Repr

/-- A halt reason (R11). -/
inductive HaltReason where
  | failed | declined
  deriving DecidableEq, Repr

/-- An exchange's timer; its due time is the record's next due (R132). -/
inductive ExchangeTimer where
  | nextDue | replyWait
  deriving DecidableEq, Repr

/-- An EXCHANGE's configuration fields (R11). -/
structure ExchangeConfig where
  requestTemplate : Template
  reply : Descriptor
  decline : Option Descriptor
  captureSpecs : List CaptureSpec
  firstDelay : Nat
  schedule : Schedule
  replyTimeout : Nat
  retryLimit : Nat
  claimLink : Link
  deriving DecidableEq, Repr

/-- An EXCHANGE record (R11, R132). Its item is present while the own-traffic queue holds one of its slot. -/
structure Exchange where
  cfg : ExchangeConfig
  captures : Vector SeqValue 4
  sendCounter : SeqValue
  state : ExchangeState
  haltReason : Option HaltReason
  attempts : Nat
  nextDue : Time
  openAtReturn : Bool
  sends : Count16
  replies : Count16
  itemDue : Bool
  resend : Bool
  timer : Option ExchangeTimer
  deriving DecidableEq, Repr

/-- A record: the contents of a slot (R1). -/
inductive Record where
  | claim (c : Claim)
  | responder (r : Responder)
  | filter (f : Filter)
  | stream (t : Stream)
  | exchange (x : Exchange)
  deriving DecidableEq, Repr

/-- The configuration fields of a record, whatever its kind. -/
inductive RecordConfig where
  | claim (c : ClaimConfig)
  | responder (r : ResponderConfig)
  | filter (f : FilterConfig)
  | stream (t : StreamConfig)
  | exchange (x : ExchangeConfig)
  deriving DecidableEq, Repr

/-- What PUT_SLOT fixes of a record: its kind and its configuration fields (R1). -/
def Record.config : Record → RecordConfig
  | .claim c => .claim c.cfg
  | .responder r => .responder r.cfg
  | .filter f => .filter f.cfg
  | .stream t => .stream t.cfg
  | .exchange x => .exchange x.cfg

end Sys2Proof.Machine
end

