-- ==== Sys2Proof/Machine/State.lean ====
section
/-! DEFINITION. The state of the MF6120, block by block as section 4 of the scope file draws it, the reasons a command can
stop, the state after reset, and one named update for each block. -/

namespace Sys2Proof.Machine

/-- The supply and the reset line (R185, R187). -/
inductive Power where
  /-- No supply. -/
  | off
  /-- Supply present, a power-on or RST_N reset held. -/
  | resetHeld
  /-- Reset released. -/
  | running
  deriving DecidableEq, Repr

/-- The clock state (R183). -/
inductive ClockState where
  | active | doze | warmUp
  deriving DecidableEq, Repr

/-- What came in DOZE or warm-up and waits for its taking (R184). A station frame stands in the station buffer meanwhile
(`StationPath.untaken`). -/
inductive Waiting where
  | request (port : Port) (kind : RequestKind) (payload : List Byte)
  | linkDrop
  | linkReturn
  | stationFrame
  | stnRdy (high : Bool)
  | deliveryEnd
  deriving DecidableEq, Repr

/-- The clock unit (R182 to R184), with the supply, and with what waits for the end of warm-up. -/
structure ClockUnit where
  power : Power
  state : ClockState
  quietTicks : Nat
  wakeDue : Option Time
  partTime : Time
  waiting : List Waiting
  deriving DecidableEq, Repr

/-- The input lines the part follows: LINK (high is up) and STN_RDY (high is ready). -/
structure Pins where
  link : Bool
  stnRdy : Bool
  deriving DecidableEq, Repr

/-- The result codes of R180. -/
inductive Result where
  | done | accepted | notReady | busy | wrongState | outOfRange | malformed | notPermitted | locked | checkFailed
  | cancelled
  deriving DecidableEq, Repr

/-- A response: a result code and a payload (R180). -/
structure Response where
  result : Result
  payload : List Byte
  deriving DecidableEq, Repr

/-- A request slot (R181). -/
inductive RequestSlot where
  | empty
  | working
  | ready (response : Response)
  deriving DecidableEq, Repr

/-- A port unit (R181): its request slot, the refusal note (`true` holds BUSY), and `out`, the bytes the master last
shifted out. `out` is the MODEL's own field (log entry 4). -/
structure PortUnit where
  slot : RequestSlot
  note : Bool
  out : List Byte
  deriving DecidableEq, Repr

/-- The two port units. -/
structure Ports where
  sys : PortUnit
  plat : PortUnit
  deriving DecidableEq, Repr

/-- A store operation in progress (R186). -/
inductive StoreOp where
  | erase (page : Nat)
  | program (page : Nat) (data : List Byte)
  deriving DecidableEq, Repr

/-- A profile load in progress: the place reached in the profile stream, and whether a SOFT_RESET waits for its end
(R181, R189). -/
structure ProfileLoad where
  position : Nat
  answers : Bool
  deriving DecidableEq, Repr

/-- The profile store (R186 to R189). `cells` holds the 2,048 nonvolatile bytes: page p, byte b at address 256 p + b. -/
structure StoreUnit where
  cells : List Host.Cell
  op : Option StoreOp
  fault : Bool
  load : Option ProfileLoad
  deriving DecidableEq, Repr

/-- The three kind counts (R2). -/
structure KindCounts where
  claims : Nat
  streams : Nat
  exchanges : Nat
  deriving DecidableEq, Repr

/-- The presence table: the slots, the kind counts and the station address, all-zero for unset (R1, R2, R13). -/
structure Table where
  slots : Vector (Option Record) 128
  counts : KindCounts
  stationAddr : BitVec 48
  deriving DecidableEq, Repr

/-- The custody states (R44). -/
inductive Custody where
  | home | checking | proxy | roused | quiesce | drain
  deriving DecidableEq, Repr

/-- The next step of the LEND check (R44, R46). -/
inductive CheckCursor where
  | station
  | slot (i : SlotIx)
  deriving DecidableEq, Repr

/-- The custody unit (R44), with WAKE_N (`true` is asserted, R52). -/
structure CustodyUnit where
  state : Custody
  cursor : Option CheckCursor
  discard : Bool
  wake : Bool
  deriving DecidableEq, Repr

/-- The default dispositions (R76). -/
inductive Disposition where
  | discard | hold | inspect
  deriving DecidableEq, Repr

/-- The policy items (R170) but the station address, which stands beside the table. Bit n of a flag word is the flag of the
condition class with code n. -/
structure Policy where
  retain : BitVec 12
  rouse : BitVec 12
  notify : BitVec 12
  conflictWatch : Bool
  floodEnable : Bool
  windowLength : Nat
  highMark : Nat
  lowMark : Nat
  debounce : Nat
  disposition : Disposition
  dozeEnable : Bool
  deriving DecidableEq, Repr

/-- The flood guard's two states (R105). -/
inductive GuardState where
  | normal | flooded
  deriving DecidableEq, Repr

/-- The flood guard's state (R105). -/
structure FloodGuard where
  state : GuardState
  demand : Count16
  run : Nat
  windowEnd : Option Time
  deriving DecidableEq, Repr

/-- A frame: its bytes from offset 0 without the FCS, and the FCS it carries (section 6.5, R64). -/
structure Frame where
  bytes : List Byte
  fcs : Fcs
  deriving DecidableEq, Repr

/-- A frame that has started and not yet ended: with a place kept for it, or being discarded as it arrives (R64, R156). -/
inductive Arriving where
  | staged | refused
  deriving DecidableEq, Repr

/-- The frame in the inspection slot (R79). -/
structure Sample where
  frame : Frame
  ordinal : Count32
  time : Time
  deriving DecidableEq, Repr

/-- The frame classifier (Chapter 4): frames on their way in, the staging buffer in arrival order, the inspection slot. -/
structure Classifier where
  arriving : List Arriving
  staged : List Frame
  sample : Option Sample
  deriving DecidableEq, Repr

/-- The seven global counters (section 6.6). -/
structure Counters where
  framesSeen : Count32
  framesBad : Count32
  answersSent : Count32
  answersDropped : Count32
  heldDiscards : Count32
  dozeDiscards : Count32
  inspectDiscards : Count32
  deriving DecidableEq, Repr

/-- An answer's origin (R151). -/
inductive AnswerOrigin where
  | responder | stream
  deriving DecidableEq, Repr

/-- An entry of the answer queue (R151). -/
structure Answer where
  bytes : List Byte
  slot : SlotIx
  origin : AnswerOrigin
  deriving DecidableEq, Repr

/-- An item of the own-traffic queue: a slot index, for a claim with its purpose (R152). -/
inductive OwnItem where
  | claim (slot : SlotIx) (purpose : Purpose)
  | stream (slot : SlotIx)
  | exchange (slot : SlotIx)
  deriving DecidableEq, Repr

/-- The slot an own-traffic item refers to. -/
def OwnItem.slot : OwnItem → SlotIx
  | .claim i _ => i
  | .stream i => i
  | .exchange i => i

/-- A carried frame (R150): what it is, and its bytes with the FCS that goes out behind them. -/
inductive Carried where
  | station (frame : Frame)
  | answer (slot : SlotIx) (origin : AnswerOrigin) (frame : Frame)
  | own (item : OwnItem) (frame : Frame)
  deriving DecidableEq, Repr

/-- The arbiter's two classes (R150). -/
inductive TxClass where
  | station | part
  deriving DecidableEq, Repr

/-- The line transmitter with the part's two queues (R150 to R152). -/
structure Transmitter where
  linkUp : Bool
  carried : Option Carried
  nextClass : TxClass
  answers : List Answer
  own : List OwnItem
  deriving DecidableEq, Repr

/-- A frame being delivered to the station (R157, R163): one from the station output's own place, or the copy of the held
queue's head, which stays in the queue until its delivery ends. -/
inductive Delivery where
  | passing (frame : Frame)
  | heldHead (frame : Frame)
  deriving DecidableEq, Repr

/-- The station path: the station buffer (frames on their way in, good frames that wait for their taking after warm-up,
frames that wait for their grant) and the station output's two places (R156, R157, R184). -/
structure StationPath where
  arriving : List Arriving
  untaken : List Frame
  buffer : List Frame
  delivering : Option Delivery
  waiting : Option Frame
  deriving DecidableEq, Repr

/-- The condition classes (R165). -/
inductive ConditionClass where
  | conflict | claimLost | streamData | streamEnded | streamSilent | exchangeFailed | exchangeDeclined | filterHit
  | linkDown | heldFull | flood | inspect
  deriving DecidableEq, Repr

/-- An entry of the held queue: a frame and its cause, absent for "none" (R77, R161). -/
structure HeldEntry where
  frame : Frame
  cause : Option (ConditionClass × SlotIx)
  deriving DecidableEq, Repr

/-- The held queue with its full latch (R161, R162). -/
structure HeldQueue where
  entries : List HeldEntry
  fullLatch : Bool
  deriving DecidableEq, Repr

/-- A record of the change list: a slot index and the sum of its marks' codes (R174). -/
structure ChangeRecord where
  slot : SlotIx
  marks : BitVec 8
  deriving DecidableEq, Repr

/-- A cause: a condition class, a slot index or "none", and a part time (R167, R168). -/
structure Cause where
  cls : ConditionClass
  slot : Option SlotIx
  time : Time
  deriving DecidableEq, Repr

/-- The wake report (R176). -/
structure WakeReport where
  roused : Bool
  firstCause : Option Cause
  causes : List Cause
  further : Count32
  linkSteady : Bool
  floodSeen : Bool
  snapshot : Counters
  deriving DecidableEq, Repr

/-- The condition unit: change list, wake report, notice flags (bit n for class code n) and lend count (R169, R174, R176).
ATTN_N is asserted while a notice flag is set; it has no storage of its own. -/
structure ConditionUnit where
  changes : List ChangeRecord
  report : WakeReport
  notices : BitVec 12
  lendCount : Count32
  deriving DecidableEq, Repr

/-- The state of the machine. `pool` holds the template pool (R25) in the canonical form of Machine/Ops.lean. `draws` and
`pending` are the MODEL's own: how many free values have been drawn, and the commands that wait, first in, first out. -/
structure State where
  clk : ClockUnit
  pins : Pins
  ports : Ports
  store : StoreUnit
  table : Table
  pool : List Host.Cell
  custody : CustodyUnit
  policy : Policy
  guard : FloodGuard
  rx : Classifier
  counters : Counters
  tx : Transmitter
  stn : StationPath
  held : HeldQueue
  cond : ConditionUnit
  draws : Nat
  pending : List Instr
  deriving DecidableEq, Repr

/-- The reasons a command can stop the machine with a fault: the manual gives the block none. -/
inductive Fault where
  /-- Raised by no command: the manual describes no event that stops the part for good. Safe, since it is never raised. -/
  | noneDescribed
  deriving DecidableEq, Repr

/-- The reasons a command can be refused without an effect. -/
inductive Refusal where
  /-- Raised by `exec` for a command that has no meaning yet; no arm raises it now. Safe: the machine stops. -/
  | notModelled (mnemonic : String)
  deriving DecidableEq, Repr

/-- The seven counters at 0. -/
def Counters.zero : Counters := ⟨0, 0, 0, 0, 0, 0, 0⟩

/-- An EMPTY request slot with the note clear (R181). -/
def PortUnit.reset : PortUnit := { slot := .empty, note := false, out := [] }

/-- The built-in policy (R170): rousing are CLAIM_LOST, STREAM_DATA, STREAM_ENDED, STREAM_SILENT, EXCHANGE_FAILED,
EXCHANGE_DECLINED and FILTER_HIT, codes 1 … 7. -/
def Policy.builtIn : Policy :=
  { retain := 0xFFF, rouse := 0x0FE, notify := 0xFFF, conflictWatch := true, floodEnable := true, windowLength := 4,
    highMark := 200, lowMark := 50, debounce := 1, disposition := .discard, dozeEnable := false }

/-- The wake report after a reset (R176). -/
def WakeReport.reset : WakeReport :=
  { roused := false, firstCause := none, causes := [], further := 0, linkSteady := false, floodSeen := false,
    snapshot := Counters.zero }

/-- The store as the model takes it to be when nothing has been written to it: the part code of page 0 (section 11.5), and
every other byte 0xFF (DESIGN CHOICE, log entry 2). -/
def StoreUnit.shipped : StoreUnit := { cells := [(0, 0x61), (1, 0x20)], op := none, fault := false, load := none }

/-- The machine right after a power-on or RST_N reset with an erased user store: the values each chapter gives (R24, R25,
R44, R64, R79, R105, R150 to R164, R171, R179, R181 to R183). The two input lines are low (DESIGN CHOICE, log entry 3). -/
def State.reset : State :=
  { clk := { power := .running, state := .active, quietTicks := 0, wakeDue := none, partTime := 0, waiting := [] }
    pins := { link := false, stnRdy := false }
    ports := { sys := PortUnit.reset, plat := PortUnit.reset }
    store := StoreUnit.shipped
    table := { slots := Vector.replicate 128 none, counts := ⟨0, 0, 0⟩, stationAddr := 0 }
    pool := []
    custody := { state := .home, cursor := none, discard := false, wake := false }
    policy := Policy.builtIn
    guard := { state := .normal, demand := 0, run := 0, windowEnd := none }
    rx := { arriving := [], staged := [], sample := none }
    counters := Counters.zero
    tx := { linkUp := false, carried := none, nextClass := .station, answers := [], own := [] }
    stn := { arriving := [], untaken := [], buffer := [], delivering := none, waiting := none }
    held := { entries := [], fullLatch := false }
    cond := { changes := [], report := WakeReport.reset, notices := 0, lendCount := 0 }
    draws := 0
    pending := [] }

/-! One named update per block. -/

def State.setClk (s : State) (x : ClockUnit) : State := { s with clk := x }
def State.setPins (s : State) (x : Pins) : State := { s with pins := x }
def State.setPorts (s : State) (x : Ports) : State := { s with ports := x }
def State.setStore (s : State) (x : StoreUnit) : State := { s with store := x }
def State.setTable (s : State) (x : Table) : State := { s with table := x }
def State.setPool (s : State) (x : List Host.Cell) : State := { s with pool := x }
def State.setCustody (s : State) (x : CustodyUnit) : State := { s with custody := x }
def State.setPolicy (s : State) (x : Policy) : State := { s with policy := x }
def State.setGuard (s : State) (x : FloodGuard) : State := { s with guard := x }
def State.setRx (s : State) (x : Classifier) : State := { s with rx := x }
def State.setCounters (s : State) (x : Counters) : State := { s with counters := x }
def State.setTx (s : State) (x : Transmitter) : State := { s with tx := x }
def State.setStn (s : State) (x : StationPath) : State := { s with stn := x }
def State.setHeld (s : State) (x : HeldQueue) : State := { s with held := x }
def State.setCond (s : State) (x : ConditionUnit) : State := { s with cond := x }
def State.setDraws (s : State) (x : Nat) : State := { s with draws := x }

end Sys2Proof.Machine
end

