-- ==== Sys2Proof/Machine/Flags.lean ====
section
/-! DEFINITION. Saturating counters, half-range comparisons, flag words and the codes of the condition classes. -/

namespace Sys2Proof.Machine

/-- A saturating 16-bit counter raised by 1 (section 6.6). -/
def bump16 (c : Count16) : Count16 := if c = 0xFFFF then c else c + 1

/-- A saturating 32-bit counter raised by 1 (R65, R164, R167). -/
def bump32 (c : Count32) : Count32 := if c = 0xFFFFFFFF then c else c + 1

/-- A saturating 32-bit counter raised by 1 for each of `n` events. -/
def bump32By (c : Count32) : Nat → Count32
  | 0 => c
  | n + 1 => bump32By (bump32 c) n

/-- A due time `due` has come at part time `now` (section 6.3). -/
def dueCome (now due : Time) : Bool := decide ((now - due).toNat < Config.halfRange)

/-- `x` equals `y` or is ahead of it (section 6.4). -/
def aheadOrEqual (x y : SeqValue) : Bool := decide ((x - y).toNat < Config.halfRange)

/-- `x` is ahead of `y`: the difference lies in 1 … 2^31 − 1 (section 6.4). -/
def ahead (x y : SeqValue) : Bool := decide (x ≠ y) && aheadOrEqual x y

/-- The part time `delay` ticks after `now`. -/
def timeAfter (now : Time) (delay : Nat) : Time := now + BitVec.ofNat 32 delay

/-- The code of a condition class (R165). -/
def ConditionClass.code : ConditionClass → Nat
  | .conflict => 0
  | .claimLost => 1
  | .streamData => 2
  | .streamEnded => 3
  | .streamSilent => 4
  | .exchangeFailed => 5
  | .exchangeDeclined => 6
  | .filterHit => 7
  | .linkDown => 8
  | .heldFull => 9
  | .flood => 10
  | .inspect => 11

/-- Flag n of a flag word. -/
def flagAt (flags : BitVec 12) (n : Nat) : Bool := flags.getLsbD n

/-- A flag word with flag n set or cleared. -/
def withFlag (flags : BitVec 12) (n : Nat) (on : Bool) : BitVec 12 :=
  if on then flags ||| (1#12 <<< n) else flags &&& ~~~(1#12 <<< n)

/-- ATTN_N is asserted while any notice flag is set (R169). -/
def State.attn (s : State) : Bool := decide (s.cond.notices ≠ 0)

/-- The marks of the change list (R174). -/
def markState : BitVec 8 := 0x01
def markValues : BitVec 8 := 0x02
def markCounters : BitVec 8 := 0x04
def markOpenAtReturn : BitVec 8 := 0x08
def markTakeover : BitVec 8 := 0x10

/-- The result codes of R180. -/
def Result.code : Result → Byte
  | .done => 0x00
  | .accepted => 0x01
  | .notReady => 0x02
  | .busy => 0x03
  | .wrongState => 0x04
  | .outOfRange => 0x05
  | .malformed => 0x06
  | .notPermitted => 0x07
  | .locked => 0x08
  | .checkFailed => 0x09
  | .cancelled => 0x0A

/-- The custody codes of READ_STATUS (R178). -/
def Custody.code : Custody → Nat
  | .home => 0
  | .checking => 1
  | .proxy => 2
  | .roused => 3
  | .quiesce => 4
  | .drain => 5

/-- The engines run, and line frames are classified, in PROXY and ROUSED (R51). -/
def Custody.lent : Custody → Bool
  | .proxy | .roused => true
  | .home | .checking | .quiesce | .drain => false

end Sys2Proof.Machine
end

