-- ==== Sys2Proof/Machine/Operands.lean ====
section
/-! DEFINITION. The forms in which data travels on the ports: numbers most significant byte first (R180), the elements of a
slot image (R14), the template image (R28), the walk of a PUT_SLOT payload with its refusals (R15, R16, R29) and its
clamping (R17), and the image a read returns (R14, section 1.4). -/

namespace Sys2Proof.Machine

/-- A number of `width` bytes, most significant byte first. -/
def beBytes : Nat → Nat → List Byte
  | 0, _ => []
  | width + 1, n => BitVec.ofNat 8 (n / 256 ^ width) :: beBytes width n

/-- The number a byte string spells, most significant byte first. -/
def natOfBytes (bytes : List Byte) : Nat := bytes.foldl (fun acc b => acc * 256 + b.toNat) 0

/-- A flag byte. -/
def flagByte (b : Bool) : Byte := if b then 1 else 0

/-! ## The walk of a payload -/

/-- A fault met in the walk: the result code, and the payload offset of the field where it was met (R15). -/
structure WalkFault where
  result : Result
  offset : Nat
  deriving DecidableEq, Repr

/-- A place in the payload: the offset reached and the bytes left. -/
structure WalkPlace where
  offset : Nat
  rest : List Byte
  deriving DecidableEq, Repr

/-- A walk over part of a payload. -/
abbrev Walk := StateT WalkPlace (Except WalkFault)

/-- The offset of the next field. -/
def walkHere : Walk Nat := fun p => .ok (p.offset, p)

/-- The walk meets a fault at an offset. -/
def walkFail {α : Type} (result : Result) (offset : Nat) : Walk α := fun _ => .error ⟨result, offset⟩

/-- The next field is `n` bytes; a payload that ends inside it is MALFORMED (R15). -/
def walkBytes (n : Nat) : Walk (List Byte) := fun p =>
  if p.rest.length < n then .error ⟨.malformed, p.offset⟩
  else .ok (p.rest.take n, ⟨p.offset + n, p.rest.drop n⟩)

/-- The next field is a number of `width` bytes. -/
def walkNat (width : Nat) : Walk Nat := do
  let bytes ← walkBytes width
  return natOfBytes bytes

/-- The next field is a number in `low … high`; another value is OUT_OF_RANGE (R16). -/
def walkWithin (width low high : Nat) : Walk Nat := do
  let at_ ← walkHere
  let n ← walkNat width
  if low ≤ n ∧ n ≤ high then return n else walkFail .outOfRange at_

/-- The next field is a flag; a byte other than 0 or 1 is MALFORMED (R15). -/
def walkFlag : Walk Bool := do
  let at_ ← walkHere
  let n ← walkNat 1
  if n = 0 then return false else if n = 1 then return true else walkFail .malformed at_

/-- The next field is an enumeration; an unknown code is MALFORMED (R15). -/
def walkCode {α : Type} (codes : Nat → Option α) : Walk α := do
  let at_ ← walkHere
  let n ← walkNat 1
  match codes n with
  | some x => return x
  | none => walkFail .malformed at_

/-- The next field is a link; a byte from 128 to 254 is OUT_OF_RANGE (R14, R16). -/
def walkLink : Walk Link := do
  let at_ ← walkHere
  let n ← walkNat 1
  if h : n < 128 then return some ⟨n, h⟩
  else if n = 0xFF then return none
  else walkFail .outOfRange at_

/-- An optional part: a presence byte and, when it is 1, the part (R14). -/
def walkOptional {α : Type} (part : Walk α) : Walk (Option α) := do
  let present ← walkFlag
  if present then
    let x ← part
    return some x
  else return none

/-- A part repeated `n` times. -/
def walkTimes {α : Type} (part : Walk α) : Nat → Walk (List α)
  | 0 => pure []
  | n + 1 => do
    let x ← part
    let xs ← walkTimes part n
    return x :: xs

/-- Bytes left over after the last field are MALFORMED (R15). -/
def walkEnd : Walk Unit := fun p => if p.rest = [] then .ok ((), p) else .error ⟨.malformed, p.offset⟩

/-- A probe (R14, R16). The length is tested in its own place, with the bound of the form that follows it (log entry 9). -/
def walkProbe (counterAllowed : Bool) : Walk Probe := do
  let offset ← walkWithin 2 0 1517
  let lenAt ← walkHere
  let len ← walkWithin 1 1 16
  let formAt ← walkHere
  let form ← walkNat 1
  if form = 0 then
    let value ← walkBytes len
    let mask ← walkBytes len
    return .masked offset (value.zip mask)
  else if form = 1 then
    if len > 4 then walkFail .outOfRange lenAt
    else if counterAllowed then return .equalsCounter offset len
    else walkFail .outOfRange formAt
  else walkFail .malformed formAt

/-- A descriptor: a probe count of 1 … 4 and the probes (R14, R16). -/
def walkDescriptor (counterAllowed : Bool) : Walk Descriptor := do
  let n ← walkWithin 1 1 4
  walkTimes (walkProbe counterAllowed) n

/-- A segment (R28, R29). -/
def walkSegment : Walk Segment := do
  let startBlock ← walkNat 1
  let len ← walkWithin 2 1 1514
  let endFlag ← walkFlag
  return { startBlock, len, endFlag }

/-- A substitution (R28, R29); an RX source is OUT_OF_RANGE in an own-traffic template (R12, R16). -/
def walkSubst (rxAllowed : Bool) : Walk Subst := do
  let offset ← walkWithin 2 0 1513
  let len ← walkWithin 1 1 16
  let sourceAt ← walkHere
  let code ← walkNat 1
  if code > 8 then walkFail .malformed sourceAt
  else if code = 0 ∧ rxAllowed = false then walkFail .outOfRange sourceAt
  else
    let argAt ← walkHere
    let arg ← walkNat 2
    match code with
    | 0 => if arg > 1517 then walkFail .outOfRange argAt else return { offset, len, source := .rx arg }
    | 6 => if arg > 3 then walkFail .outOfRange argAt else return { offset, len, source := .capture arg }
    | _ =>
      if arg ≠ 0 then walkFail .malformed argAt
      else
        match code with
        | 1 => return { offset, len, source := .claimAddr }
        | 2 => return { offset, len, source := .stationAddr }
        | 3 => return { offset, len, source := .seqOut }
        | 4 => return { offset, len, source := .seqOutLess1 }
        | 5 => return { offset, len, source := .seqIn }
        | 7 => return { offset, len, source := .counter }
        | _ => return { offset, len, source := .time }

/-- A checksum spec (R28, R29). -/
def walkChecksum : Walk ChecksumSpec := do
  let spanStart ← walkWithin 2 0 1513
  let endAt ← walkHere
  let spanEnd ← walkNat 2
  if spanEnd = 0 ∨ (1515 ≤ spanEnd ∧ spanEnd ≤ 0xFFFE) then walkFail .outOfRange endAt
  else
    let fieldOffset ← walkWithin 2 0 1512
    let baseSum ← walkNat 2
    let zeroAsOnes ← walkFlag
    return { spanStart, spanEnd := if spanEnd = 0xFFFF then none else some spanEnd, fieldOffset,
             baseSum := BitVec.ofNat 16 baseSum, zeroAsOnes }

/-- A template image (R16, R28, R29). -/
def walkTemplate (rxAllowed : Bool) : Walk Template := do
  let totalLen ← walkWithin 2 14 1514
  let nSegments ← walkWithin 1 1 8
  let segments ← walkTimes walkSegment nSegments
  let nSubsts ← walkWithin 1 0 6
  let substs ← walkTimes (walkSubst rxAllowed) nSubsts
  let nChecksums ← walkWithin 1 0 2
  let checksums ← walkTimes walkChecksum nChecksums
  return { totalLen, segments, substs, checksums }

/-- A value brought into `low … high` (R17). -/
def clamp (low high n : Nat) : Nat := if n < low then low else if high < n then high else n

/-- A number of `width` bytes clamped into `low … high` as it is stored (R17). -/
def walkClamped (width low high : Nat) : Walk Nat := do
  let n ← walkNat width
  return clamp low high n

/-- A CLAIM as PUT_SLOT writes it, with its initial state (R7, R18, R82). -/
def Claim.fresh (cfg : ClaimConfig) : Claim :=
  { cfg, state := .held, probesRemaining := 0, conflictsSeen := 0, reprobePending := false, dueItem := none,
    timer := none }

/-- A RESPONDER as PUT_SLOT writes it (R8, R18). -/
def Responder.fresh (cfg : ResponderConfig) : Responder := { cfg, answersSent := 0, answersSuppressed := 0 }

/-- A FILTER as PUT_SLOT writes it (R9, R18). -/
def Filter.fresh (cfg : FilterConfig) : Filter := { cfg, hits := 0 }

/-- A STREAM as PUT_SLOT writes it, with the values the host supplied, if any (R10, R18, R113). -/
def Stream.fresh (cfg : StreamConfig) (values : Option (SeqValue × SeqValue)) : Stream :=
  { cfg
    ourSeq := (values.map Prod.fst).getD 0
    peerSeq := (values.map Prod.snd).getD 0
    valuesValid := values.isSome
    state := .idle, nextDue := 0, misses := 0, probesSent := 0, acksSeen := 0, repliesSent := 0, staleFrames := 0,
    itemDue := false, timer := none }

/-- An EXCHANGE as PUT_SLOT writes it, with the values the host supplied (R11, R18, R132). -/
def Exchange.fresh (cfg : ExchangeConfig) (captures : Vector SeqValue 4) (sendCounter : SeqValue) : Exchange :=
  { cfg, captures, sendCounter, state := .waiting, haltReason := none, attempts := 0, nextDue := 0,
    openAtReturn := false, sends := 0, replies := 0, itemDue := false, resend := false, timer := none }

/-- The fields of a CLAIM (R7). -/
def walkClaim : Walk Record := do
  let len ← walkWithin 1 1 16
  let address ← walkBytes len
  let assertion ← walkDescriptor false
  let assertionOffset ← walkWithin 2 0 1517
  let probeTemplate ← walkOptional (walkTemplate false)
  let announceTemplate ← walkOptional (walkTemplate false)
  let probeCount ← walkClamped 1 0 7
  let probeSpacing ← walkClamped 4 1 Config.maxDelay
  let defenceWindow ← walkClamped 4 1 Config.maxDelay
  let exchangeLink ← walkLink
  return .claim (Claim.fresh { address, assertion, assertionOffset, probeTemplate, announceTemplate, probeCount,
                               probeSpacing, defenceWindow, exchangeLink })

/-- The fields of a RESPONDER (R8). -/
def walkResponder : Walk Record := do
  let descriptor ← walkDescriptor false
  let answerTemplate ← walkTemplate true
  let claimLink ← walkLink
  let cls ← walkCode fun n =>
    match n with
    | 0 => some ResponderClass.essential
    | 1 => some .courtesy
    | _ => none
  return .responder (Responder.fresh { descriptor, answerTemplate, claimLink, cls })

/-- The fields of a FILTER (R9). -/
def walkFilter : Walk Record := do
  let descriptor ← walkDescriptor false
  let action ← walkCode fun n =>
    match n with
    | 0 => some FilterAction.rouse
    | 1 => some .discard
    | _ => none
  return .filter (Filter.fresh { descriptor, action })

/-- The optional value pair of a STREAM: our_seq, then peer_seq (R10). -/
def walkValues : Walk (SeqValue × SeqValue) := do
  let ourSeq ← walkNat 4
  let peerSeq ← walkNat 4
  return (BitVec.ofNat 32 ourSeq, BitVec.ofNat 32 peerSeq)

/-- The fields of a STREAM (R10, R16). -/
def walkStream : Walk Record := do
  let inbound ← walkDescriptor false
  let outbound ← walkDescriptor false
  let seqOffset ← walkWithin 2 0 1514
  let ackOffset ← walkWithin 2 0 1514
  let headerAt ← walkHere
  let headerLen ← walkNat 2
  if headerLen > 1518 ∨ headerLen < seqOffset + 4 ∨ headerLen < ackOffset + 4 then walkFail .outOfRange headerAt
  else
    let closeProbe ← walkOptional (walkProbe false)
    let tracking ← walkFlag
    let probeTemplate ← walkTemplate false
    let replyTemplate ← walkTemplate true
    let period ← walkClamped 4 16 (2 ^ 20)
    let retrySpacing ← walkClamped 4 1 (2 ^ 16)
    let missLimit ← walkClamped 1 1 15
    let claimLink ← walkLink
    let values ← walkOptional walkValues
    return .stream (Stream.fresh { inbound, outbound, seqOffset, ackOffset, headerLen, closeProbe, tracking,
                                   probeTemplate, replyTemplate, period, retrySpacing, missLimit, claimLink } values)

/-- A capture spec (R11, R16). -/
def walkCapture : Walk CaptureSpec := do
  let offset ← walkWithin 2 0 1517
  let len ← walkWithin 1 1 4
  return { offset, len }

/-- The fields of an EXCHANGE's schedule mode (R11, R17): the minimum is clamped first, and the maximum against it. -/
def walkSchedule : Walk Schedule := do
  let captured ← walkCode fun n =>
    match n with
    | 0 => some false
    | 1 => some true
    | _ => none
  if captured then
    let index ← walkWithin 1 0 3
    let fraction ← walkClamped 1 1 255
    let minDelay ← walkClamped 4 1 Config.maxDelay
    let maxDelay ← walkClamped 4 minDelay Config.maxDelay
    return .captured index fraction minDelay maxDelay
  else
    let period ← walkClamped 4 1 Config.maxDelay
    return .fixed period

/-- The fields of an EXCHANGE (R11). Each of the four capture values, and the offset and the length of each capture spec, is a
field of its own for the offset of a fault (DESIGN CHOICE, log entry 9). -/
def walkExchange : Walk Record := do
  let requestTemplate ← walkTemplate false
  let reply ← walkDescriptor true
  let decline ← walkOptional (walkDescriptor false)
  let nCaptures ← walkWithin 1 0 4
  let captureSpecs ← walkTimes walkCapture nCaptures
  let v0 ← walkNat 4
  let v1 ← walkNat 4
  let v2 ← walkNat 4
  let v3 ← walkNat 4
  let firstDelay ← walkClamped 4 1 Config.maxDelay
  let schedule ← walkSchedule
  let replyTimeout ← walkClamped 4 1 (2 ^ 16)
  let retryLimit ← walkClamped 1 0 15
  let sendCounter ← walkNat 4
  let claimLink ← walkLink
  return .exchange (Exchange.fresh { requestTemplate, reply, decline, captureSpecs, firstDelay, schedule,
                                     replyTimeout, retryLimit, claimLink }
    #v[BitVec.ofNat 32 v0, BitVec.ofNat 32 v1, BitVec.ofNat 32 v2, BitVec.ofNat 32 v3]
    (BitVec.ofNat 32 sendCounter))

/-- The slot index of an image: above 127 it is OUT_OF_RANGE (R15). -/
def walkSlotIx : Walk SlotIx := do
  let at_ ← walkHere
  let n ← walkNat 1
  if h : n < 128 then return ⟨n, h⟩ else walkFail .outOfRange at_

/-- A whole PUT_SLOT image (R14, R15): slot, kind, the kind's fields, and nothing after them. A kind of EMPTY or an unknown
kind is MALFORMED. -/
def walkImage : Walk (SlotIx × Record) := do
  let slot ← walkSlotIx
  let kindAt ← walkHere
  let kind ← walkNat 1
  let record ←
    match kind with
    | 1 => walkClaim
    | 2 => walkResponder
    | 3 => walkFilter
    | 4 => walkStream
    | 5 => walkExchange
    | _ => walkFail .malformed kindAt
  walkEnd
  return (slot, record)

/-- The walk of a whole payload from offset 0. -/
def readImage (payload : List Byte) : Except WalkFault (SlotIx × Record) :=
  match walkImage ⟨0, payload⟩ with
  | .ok (x, _) => .ok x
  | .error e => .error e

/-! ## Images -/

/-- A link's byte (R14). -/
def linkBytes (link : Link) : List Byte :=
  match link with
  | some i => beBytes 1 i.val
  | none => [0xFF]

/-- An optional part (R14). -/
def optionalBytes {α : Type} (part : α → List Byte) (x : Option α) : List Byte :=
  match x with
  | some a => 1 :: part a
  | none => [0]

/-- A probe (R14). -/
def probeBytes (p : Probe) : List Byte :=
  match p with
  | .masked offset valueMask =>
    beBytes 2 offset ++ beBytes 1 valueMask.length ++ [0] ++ valueMask.map Prod.fst ++ valueMask.map Prod.snd
  | .equalsCounter offset len => beBytes 2 offset ++ beBytes 1 len ++ [1]

/-- A descriptor (R14). -/
def descriptorBytes (d : Descriptor) : List Byte := beBytes 1 d.length ++ d.flatMap probeBytes

/-- A segment (R28). -/
def segmentBytes (g : Segment) : List Byte := beBytes 1 g.startBlock ++ beBytes 2 g.len ++ [flagByte g.endFlag]

/-- A source's code and argument (R28). -/
def sourceBytes (src : Source) : List Byte :=
  match src with
  | .rx o => 0 :: beBytes 2 o
  | .claimAddr => 1 :: beBytes 2 0
  | .stationAddr => 2 :: beBytes 2 0
  | .seqOut => 3 :: beBytes 2 0
  | .seqOutLess1 => 4 :: beBytes 2 0
  | .seqIn => 5 :: beBytes 2 0
  | .capture k => 6 :: beBytes 2 k
  | .counter => 7 :: beBytes 2 0
  | .time => 8 :: beBytes 2 0

/-- A substitution (R28). -/
def substBytes (u : Subst) : List Byte := beBytes 2 u.offset ++ beBytes 1 u.len ++ sourceBytes u.source

/-- A checksum spec (R28). -/
def checksumBytes (c : ChecksumSpec) : List Byte :=
  beBytes 2 c.spanStart ++ beBytes 2 (c.spanEnd.getD 0xFFFF) ++ beBytes 2 c.fieldOffset ++ beBytes 2 c.baseSum.toNat ++
    [flagByte c.zeroAsOnes]

/-- A template image (R28). -/
def templateBytes (t : Template) : List Byte :=
  beBytes 2 t.totalLen ++ beBytes 1 t.segments.length ++ t.segments.flatMap segmentBytes ++
    beBytes 1 t.substs.length ++ t.substs.flatMap substBytes ++
    beBytes 1 t.checksums.length ++ t.checksums.flatMap checksumBytes

/-- The codes of section 1.4. -/
def ClaimState.code : ClaimState → Nat
  | .held => 0
  | .probing => 1
  | .contested => 2
  | .lost => 3

def ResponderClass.code : ResponderClass → Nat
  | .essential => 0
  | .courtesy => 1

def FilterAction.code : FilterAction → Nat
  | .rouse => 0
  | .discard => 1

def StreamState.code : StreamState → Nat
  | .idle => 0
  | .probeDue => 1
  | .outstanding => 2
  | .ended => 3

def ExchangeState.code : ExchangeState → Nat
  | .waiting => 0
  | .queued => 1
  | .awaiting => 2
  | .rest => 3
  | .halted => 4

def HaltReason.code : HaltReason → Nat
  | .failed => 0
  | .declined => 1

/-- The configuration fields of a CLAIM (R7). -/
def claimConfigBytes (c : ClaimConfig) : List Byte :=
  beBytes 1 c.address.length ++ c.address ++ descriptorBytes c.assertion ++ beBytes 2 c.assertionOffset ++
    optionalBytes templateBytes c.probeTemplate ++ optionalBytes templateBytes c.announceTemplate ++
    beBytes 1 c.probeCount ++ beBytes 4 c.probeSpacing ++ beBytes 4 c.defenceWindow ++ linkBytes c.exchangeLink

/-- The fields of a CLAIM image (R7). -/
def claimBytes (c : Claim) : List Byte :=
  claimConfigBytes c.cfg ++ beBytes 1 c.state.code ++ beBytes 1 c.probesRemaining ++
    beBytes 2 c.conflictsSeen.toNat ++ [flagByte c.reprobePending]

/-- The configuration fields of a RESPONDER (R8). -/
def responderConfigBytes (r : ResponderConfig) : List Byte :=
  descriptorBytes r.descriptor ++ templateBytes r.answerTemplate ++ linkBytes r.claimLink ++ beBytes 1 r.cls.code

/-- The fields of a RESPONDER image (R8). -/
def responderBytes (r : Responder) : List Byte :=
  responderConfigBytes r.cfg ++ beBytes 2 r.answersSent.toNat ++ beBytes 2 r.answersSuppressed.toNat

/-- The configuration fields of a FILTER (R9). -/
def filterConfigBytes (f : FilterConfig) : List Byte := descriptorBytes f.descriptor ++ beBytes 1 f.action.code

/-- The fields of a FILTER image (R9). -/
def filterBytes (f : Filter) : List Byte := filterConfigBytes f.cfg ++ beBytes 2 f.hits.toNat

/-- The configuration fields of a STREAM (R10). -/
def streamConfigBytes (t : StreamConfig) : List Byte :=
  descriptorBytes t.inbound ++ descriptorBytes t.outbound ++ beBytes 2 t.seqOffset ++ beBytes 2 t.ackOffset ++
    beBytes 2 t.headerLen ++ optionalBytes probeBytes t.closeProbe ++ [flagByte t.tracking] ++
    templateBytes t.probeTemplate ++ templateBytes t.replyTemplate ++ beBytes 4 t.period ++
    beBytes 4 t.retrySpacing ++ beBytes 1 t.missLimit ++ linkBytes t.claimLink

/-- The fields of a STREAM image (R10). -/
def streamBytes (t : Stream) : List Byte :=
  streamConfigBytes t.cfg ++ beBytes 4 t.ourSeq.toNat ++ beBytes 4 t.peerSeq.toNat ++ [flagByte t.valuesValid] ++
    beBytes 1 t.state.code ++ beBytes 4 t.nextDue.toNat ++ beBytes 1 t.misses ++ beBytes 2 t.probesSent.toNat ++
    beBytes 2 t.acksSeen.toNat ++ beBytes 2 t.repliesSent.toNat ++ beBytes 2 t.staleFrames.toNat

/-- The schedule fields: the mode and the fields of its own mode (R11). -/
def scheduleBytes (m : Schedule) : List Byte :=
  match m with
  | .fixed period => 0 :: beBytes 4 period
  | .captured index fraction minDelay maxDelay =>
    1 :: (beBytes 1 index ++ beBytes 1 fraction ++ beBytes 4 minDelay ++ beBytes 4 maxDelay)

/-- The fields of an EXCHANGE that the host writes: configuration, capture values and send counter (R11). -/
def exchangeHostBytes (x : Exchange) : List Byte :=
  templateBytes x.cfg.requestTemplate ++ descriptorBytes x.cfg.reply ++ optionalBytes descriptorBytes x.cfg.decline ++
    beBytes 1 x.cfg.captureSpecs.length ++
    x.cfg.captureSpecs.flatMap (fun c => beBytes 2 c.offset ++ beBytes 1 c.len) ++
    x.captures.toList.flatMap (fun v => beBytes 4 v.toNat) ++ beBytes 4 x.cfg.firstDelay ++
    scheduleBytes x.cfg.schedule ++ beBytes 4 x.cfg.replyTimeout ++ beBytes 1 x.cfg.retryLimit ++
    beBytes 4 x.sendCounter.toNat ++ linkBytes x.cfg.claimLink

/-- The fields of an EXCHANGE image (R11). -/
def exchangeBytes (x : Exchange) : List Byte :=
  exchangeHostBytes x ++ beBytes 1 x.state.code ++ optionalBytes (fun r => beBytes 1 r.code) x.haltReason ++
    beBytes 1 x.attempts ++ beBytes 4 x.nextDue.toNat ++ [flagByte x.openAtReturn] ++ beBytes 2 x.sends.toNat ++
    beBytes 2 x.replies.toNat

/-- The PUT_SLOT image of a record: the configuration fields and the host-seeded state fields, a STREAM's values as one
optional part (R10, R14). -/
def putImage (i : SlotIx) (r : Record) : List Byte :=
  beBytes 1 i.val ++
    match r with
    | .claim c => 1 :: claimConfigBytes c.cfg
    | .responder r => 2 :: responderConfigBytes r.cfg
    | .filter f => 3 :: filterConfigBytes f.cfg
    | .stream t =>
      4 :: (streamConfigBytes t.cfg ++
        optionalBytes (fun v : SeqValue × SeqValue => beBytes 4 v.1.toNat ++ beBytes 4 v.2.toNat)
          (if t.valuesValid then some (t.ourSeq, t.peerSeq) else none))
    | .exchange x => 5 :: exchangeHostBytes x

/-- The image of a slot: its index, its kind and every field of its record (R14, R19). -/
def slotImage (i : SlotIx) (slot : Option Record) : List Byte :=
  beBytes 1 i.val ++
    match slot with
    | none => [0]
    | some (.claim c) => 1 :: claimBytes c
    | some (.responder r) => 2 :: responderBytes r
    | some (.filter f) => 3 :: filterBytes f
    | some (.stream t) => 4 :: streamBytes t
    | some (.exchange x) => 5 :: exchangeBytes x

end Sys2Proof.Machine
end

