-- ==== Sys2Proof/Machine/Ops.lean ====
section
/-! DEFINITION. The named operations the commands share: byte memories in canonical form, the slots of the presence table,
the change list, the condition unit, the held queue's offer and the own-traffic queue. -/

namespace Sys2Proof.Machine

/-! ## Byte memories

A memory is a list of (address, byte) cells with addresses strictly rising and no cell equal to what an unlisted address
reads as. The template pool's unlisted byte is 0x00 (R25), the store's 0xFF (log entry 2). -/

/-- A byte of a memory whose unlisted bytes read `blank`. -/
def memRead (blank : Byte) : List Host.Cell → Nat → Byte
  | [], _ => blank
  | (a, b) :: rest, x => if x = a then b else memRead blank rest x

/-- A byte is written; writing the blank byte removes the cell. -/
def memWrite (blank : Byte) : List Host.Cell → Nat → Byte → List Host.Cell
  | [], x, v => if v = blank then [] else [(x, v)]
  | (a, b) :: rest, x, v =>
    if x < a then (if v = blank then (a, b) :: rest else (x, v) :: (a, b) :: rest)
    else if x = a then (if v = blank then rest else (x, v) :: rest)
    else (a, b) :: memWrite blank rest x v

/-- Bytes are written from an address upward. -/
def memWriteAll (blank : Byte) : List Host.Cell → Nat → List Byte → List Host.Cell
  | m, _, [] => m
  | m, x, v :: vs => memWriteAll blank (memWrite blank m x v) (x + 1) vs

/-- `n` bytes are read from an address upward. -/
def memReadAll (blank : Byte) (m : List Host.Cell) (x n : Nat) : List Byte :=
  (List.range n).map fun k => memRead blank m (x + k)

/-- The canonical form: every cell lies at or above `low`, addresses rise strictly, no cell holds the blank byte. -/
def memWfFrom (blank : Byte) : Nat → List Host.Cell → Bool
  | _, [] => true
  | low, (a, b) :: rest => decide (low ≤ a) && decide (b ≠ blank) && memWfFrom blank (a + 1) rest

/-- The canonical form of a memory. -/
def memWf (blank : Byte) (m : List Host.Cell) : Bool := memWfFrom blank 0 m

/-- What an unwritten pool byte reads as (R25). -/
def poolBlank : Byte := 0x00

/-- What an unwritten store byte reads as: an erased area reads as 0xFF (R188; log entry 2). -/
def storeBlank : Byte := 0xFF

/-- A byte of the template pool (R25). -/
def State.poolByte (s : State) (a : Nat) : Byte := memRead poolBlank s.pool a

/-- A byte of the profile store. -/
def State.storeByte (s : State) (a : Nat) : Byte := memRead storeBlank s.store.cells a

/-! ## Slots -/

/-- The slot indices in ascending order. -/
def slotIndices : List SlotIx := List.finRange 128

/-- The contents of a slot. -/
def State.slot (s : State) (i : SlotIx) : Option Record := s.table.slots.get i

/-- A slot's contents are replaced; nothing is reported. -/
def State.setSlot (s : State) (i : SlotIx) (r : Option Record) : State :=
  s.setTable { s.table with slots := s.table.slots.set i.val r i.isLt }

/-- The claim in a slot, if it holds one. -/
def State.claimAt (s : State) (i : SlotIx) : Option Claim :=
  match s.slot i with
  | some (.claim c) => some c
  | _ => none

/-- The responder in a slot, if it holds one. -/
def State.responderAt (s : State) (i : SlotIx) : Option Responder :=
  match s.slot i with
  | some (.responder r) => some r
  | _ => none

/-- The filter in a slot, if it holds one. -/
def State.filterAt (s : State) (i : SlotIx) : Option Filter :=
  match s.slot i with
  | some (.filter f) => some f
  | _ => none

/-- The stream in a slot, if it holds one. -/
def State.streamAt (s : State) (i : SlotIx) : Option Stream :=
  match s.slot i with
  | some (.stream t) => some t
  | _ => none

/-- The exchange in a slot, if it holds one. -/
def State.exchangeAt (s : State) (i : SlotIx) : Option Exchange :=
  match s.slot i with
  | some (.exchange x) => some x
  | _ => none

/-! ## Counters -/

/-- The global counters are changed. -/
def State.count (s : State) (f : Counters → Counters) : State := s.setCounters (f s.counters)

def Counters.seen (c : Counters) : Counters := { c with framesSeen := bump32 c.framesSeen }
def Counters.bad (c : Counters) : Counters := { c with framesBad := bump32 c.framesBad }
def Counters.sent (c : Counters) : Counters := { c with answersSent := bump32 c.answersSent }
def Counters.dropped (n : Nat) (c : Counters) : Counters := { c with answersDropped := bump32By c.answersDropped n }
def Counters.heldDiscard (n : Nat) (c : Counters) : Counters := { c with heldDiscards := bump32By c.heldDiscards n }
def Counters.dozeDiscard (c : Counters) : Counters := { c with dozeDiscards := bump32 c.dozeDiscards }
def Counters.inspectDiscard (c : Counters) : Counters := { c with inspectDiscards := bump32 c.inspectDiscards }

/-! ## The change list (R174) -/

/-- A change reaches the list: a slot not in it joins at the end, a slot in it gains the marks where it stands. -/
def addChange (changes : List ChangeRecord) (i : SlotIx) (marks : BitVec 8) : List ChangeRecord :=
  match changes with
  | [] => [{ slot := i, marks }]
  | c :: rest => if c.slot = i then { c with marks := c.marks ||| marks } :: rest else c :: addChange rest i marks

/-- A block reports marks on a slot; no mark is no change. -/
def State.report (s : State) (i : SlotIx) (marks : BitVec 8) : State :=
  if marks = 0 then s else s.setCond { s.cond with changes := addChange s.cond.changes i marks }

/-! ## Records written by their engines, with the marks the engines report -/

/-- The marks of a claim's change (R96). -/
def claimMarks (old new : Claim) : BitVec 8 :=
  if new.state ≠ old.state then markState
  else if new.probesRemaining ≠ old.probesRemaining ∨ new.conflictsSeen ≠ old.conflictsSeen
      ∨ new.reprobePending ≠ old.reprobePending then markCounters
  else 0

/-- The marks of a responder's change (R111). -/
def responderMarks (old new : Responder) : BitVec 8 :=
  if new.answersSent ≠ old.answersSent ∨ new.answersSuppressed ≠ old.answersSuppressed then markCounters else 0

/-- The marks of a filter's change (R111). -/
def filterMarks (old new : Filter) : BitVec 8 := if new.hits ≠ old.hits then markCounters else 0

/-- The marks of a stream's change, but for a takeover's own mark (R130). -/
def streamMarks (old new : Stream) : BitVec 8 :=
  if new.state ≠ old.state then markState
  else if new.misses ≠ old.misses ∨ new.probesSent ≠ old.probesSent ∨ new.acksSeen ≠ old.acksSeen
      ∨ new.repliesSent ≠ old.repliesSent ∨ new.staleFrames ≠ old.staleFrames then markCounters
  else 0

/-- The marks of an exchange's change, but for a reclaim's own mark (R148). -/
def exchangeMarks (old new : Exchange) : BitVec 8 :=
  let stateMark := if new.state ≠ old.state then markState else 0
  let valuesMark := if new.captures ≠ old.captures then markValues else 0
  if stateMark ||| valuesMark ≠ 0 then stateMark ||| valuesMark
  else if new.attempts ≠ old.attempts ∨ new.sendCounter ≠ old.sendCounter ∨ new.sends ≠ old.sends
      ∨ new.replies ≠ old.replies then markCounters
  else 0

/-- The claim engine writes a claim and reports the change. -/
def State.putClaim (s : State) (i : SlotIx) (old new : Claim) : State :=
  (s.setSlot i (some (.claim new))).report i (claimMarks old new)

/-- The responder unit writes a responder and reports the change. -/
def State.putResponder (s : State) (i : SlotIx) (old new : Responder) : State :=
  (s.setSlot i (some (.responder new))).report i (responderMarks old new)

/-- The responder unit writes a filter and reports the change. -/
def State.putFilter (s : State) (i : SlotIx) (old new : Filter) : State :=
  (s.setSlot i (some (.filter new))).report i (filterMarks old new)

/-- The stream engine writes a stream and reports the change, with `extra` marks of the event. -/
def State.putStream (s : State) (i : SlotIx) (old new : Stream) (extra : BitVec 8 := 0) : State :=
  (s.setSlot i (some (.stream new))).report i (streamMarks old new ||| extra)

/-- The exchange engine writes an exchange and reports the change, with `extra` marks of the event. -/
def State.putExchange (s : State) (i : SlotIx) (old new : Exchange) (extra : BitVec 8 := 0) : State :=
  (s.setSlot i (some (.exchange new))).report i (exchangeMarks old new ||| extra)

/-! ## Conditions (R166 to R169) -/

/-- Retain: the cause list takes an entry, or the further-cause count is raised; the slot gets the state mark (R167). -/
def State.retainCondition (s : State) (cls : ConditionClass) (slot : Option SlotIx) : State :=
  let r := s.cond.report
  let r' :=
    if r.causes.length < Config.causePlaces then
      { r with causes := r.causes ++ [{ cls, slot, time := s.clk.partTime }] }
    else { r with further := bump32 r.further }
  let s' := s.setCond { s.cond with report := r' }
  match slot with
  | some i => s'.report i markState
  | none => s'

/-- Rouse: a condition taken in PROXY enters ROUSED, asserts WAKE_N, sets the roused flag and the first cause, and copies
the counter snapshot (R51, R52, R168). -/
def State.rouseFor (s : State) (cls : ConditionClass) (slot : Option SlotIx) : State :=
  if s.custody.state = .proxy then
    let s' := s.setCustody { s.custody with state := .roused, wake := true }
    s'.setCond { s'.cond with
      report := { s'.cond.report with
        roused := true
        firstCause := some { cls, slot, time := s.clk.partTime }
        snapshot := s.counters } }
  else s

/-- Notify: the class's notice flag is set (R169). -/
def State.notifyOf (s : State) (cls : ConditionClass) : State :=
  s.setCond { s.cond with notices := withFlag s.cond.notices cls.code true }

/-- A condition is raised: retain, then rouse, then notify, each under its policy flag (R166). -/
def State.raise (s : State) (cls : ConditionClass) (slot : Option SlotIx) : State :=
  let s1 := if flagAt s.policy.retain cls.code then s.retainCondition cls slot else s
  let s2 := if flagAt s1.policy.rouse cls.code then s1.rouseFor cls slot else s1
  if flagAt s2.policy.notify cls.code then s2.notifyOf cls else s2

/-! ## The held queue (R161, R162) -/

/-- The byte total: the lengths of the frames in the queue, FCS excluded (R161). -/
def heldTotal (entries : List HeldEntry) : Nat := (entries.map fun e => e.frame.bytes.length).sum

/-- The queue has room for a frame (R161). -/
def heldHasRoom (entries : List HeldEntry) (f : Frame) : Bool :=
  decide (entries.length < Config.heldFrames) && decide (heldTotal entries + f.bytes.length ≤ Config.heldBytes)

/-- A frame is offered to the tail of the held queue; a refusal is counted and raises HELD_FULL once per filling (R162). -/
def State.offerHeld (s : State) (f : Frame) (cause : Option (ConditionClass × SlotIx)) : State :=
  if heldHasRoom s.held.entries f then
    s.setHeld { s.held with entries := s.held.entries ++ [{ frame := f, cause }] }
  else
    let s1 := s.count (Counters.heldDiscard 1)
    if s1.held.fullLatch then s1
    else (s1.setHeld { s1.held with fullLatch := true }).raise .heldFull none

/-- A held verdict with a condition cause: the frame is offered first, then the condition is raised (R77). -/
def State.holdFor (s : State) (f : Frame) (cls : ConditionClass) (i : SlotIx) : State :=
  (s.offerHeld f (some (cls, i))).raise cls (some i)

/-- Frames of the held queue that are being delivered to the station: its head, while the station output carries it
(R163). -/
def StationPath.headsUnderWay (p : StationPath) : Nat :=
  match p.delivering with
  | some (.heldHead _) => 1
  | some (.passing _) | none => 0

/-- The held queue is emptied at a RECALL with discard: each frame is counted but a head already being delivered, whose
delivery finishes (R56, R163); removing a frame clears the latch (R162). -/
def State.discardHeld (s : State) : State :=
  match s.held.entries with
  | [] => s
  | _ :: _ =>
    (s.count (Counters.heldDiscard (s.held.entries.length - s.stn.headsUnderWay))).setHeld
      { entries := [], fullLatch := false }

/-! ## The own-traffic queue (R152) -/

/-- A carried own-traffic frame keeps its place. -/
def Transmitter.keptPlaces (t : Transmitter) : Nat :=
  match t.carried with
  | some (.own _ _) => 1
  | _ => 0

/-- The own-traffic queue has room. -/
def State.ownRoom (s : State) : Bool := decide (s.tx.own.length + s.tx.keptPlaces < Config.ownPlaces)

/-- A slot has an item in the own-traffic queue. -/
def State.hasItem (s : State) (i : SlotIx) : Bool := s.tx.own.any fun it => decide (it.slot = i)

/-- A slot's due item may be placed: the queue has room, and no item of the slot stands in it (R152). -/
def State.canPlace (s : State) (i : SlotIx) : Bool := !s.hasItem i && s.ownRoom

/-- An item joins the tail of the own-traffic queue; a slot has at most one item in the queue (R152). -/
def State.pushItem (s : State) (item : OwnItem) : State :=
  if s.hasItem item.slot then s else s.setTx { s.tx with own := s.tx.own ++ [item] }

/-- A slot's item is withdrawn wherever it stands; the others close up. -/
def State.withdrawItem (s : State) (i : SlotIx) : State :=
  s.setTx { s.tx with own := s.tx.own.filter fun it => decide (it.slot ≠ i) }

/-! ## The station output (R58, R157, R163) -/

/-- In DRAIN, while STN_RDY is high and the station output is free, the held queue's head is copied out. -/
def State.feedStation (s : State) : State :=
  if s.custody.state = .drain ∧ s.pins.stnRdy = true ∧ s.stn.delivering = none ∧ s.stn.waiting = none then
    match s.held.entries with
    | [] => s
    | e :: _ => s.setStn { s.stn with delivering := some (.heldHead e.frame) }
  else s

/-! ## Taking -/

/-- A taking can be made: the part runs and the main clock runs (R184, R185). -/
def State.canTake (s : State) : Bool := decide (s.clk.power = .running) && decide (s.clk.state = .active)

/-- The engines run: a taking can be made and custody is PROXY or ROUSED (R51). -/
def State.enginesRun (s : State) : Bool := s.canTake && s.custody.state.lent

/-- An event whose condition does not hold is not taken (log entry 5). -/
def State.takeIf (s : State) (holds : Bool) (effect : State → State) : State := if holds then effect s else s

end Sys2Proof.Machine
end

