-- ==== Sys2Proof/Machine/Ports.lean ====
section
/-! DEFINITION. The two port units: request slots, responses and what a master reads (R180, R181). -/

namespace Sys2Proof.Machine

/-- A port's unit. -/
def State.port (s : State) (p : Port) : PortUnit :=
  match p with
  | .system => s.ports.sys
  | .platform => s.ports.plat

/-- A port's unit is replaced. -/
def State.setPort (s : State) (p : Port) (u : PortUnit) : State :=
  match p with
  | .system => s.setPorts { s.ports with sys := u }
  | .platform => s.setPorts { s.ports with plat := u }

/-- A response is placed in a port's slot: the slot is READY and the note is cleared (R181). -/
def State.respond (s : State) (p : Port) (r : Response) : State :=
  s.setPort p { s.port p with slot := .ready r, note := false }

/-- A response as its bytes travel: result code, payload length, payload (R180). -/
def Response.message (r : Response) : List Byte := r.result.code :: (beBytes 2 r.payload.length ++ r.payload)

/-- What a read of the slot returns (R181). -/
def PortUnit.view (u : PortUnit) : List Byte :=
  match u.slot with
  | .ready r => r.message
  | .working => Response.message { result := if u.note then .busy else .notReady, payload := [] }
  | .empty => Response.message { result := .notReady, payload := [] }

/-- `count` bytes shifted out of a message; bytes past its end read 0xFF (R180). -/
def shiftOut (count : Nat) (message : List Byte) : List Byte := (message ++ List.replicate count 0xFF).take count

/-- A request is in progress on a port while its slot is WORKING (R181). -/
def State.inProgress (s : State) (p : Port) : Bool := decide ((s.port p).slot = .working)

/-- Every system-port transaction shifts out the response the slot holds when select falls (R180); a platform write shifts
nothing out. -/
def State.shiftHeldOut (s : State) (p : Port) : State :=
  match p with
  | .system => s.setPorts { s.ports with sys := { s.ports.sys with out := s.ports.sys.view } }
  | .platform => s

/-- A read of a slot: the bytes it returns, and the note cleared unless the slot is READY (R181). -/
def PortUnit.readBy (u : PortUnit) (count : Nat) : PortUnit :=
  let out := shiftOut count u.view
  match u.slot with
  | .ready _ => { u with out }
  | .working | .empty => { u with out, note := false }

/-- RESPONSE_READ (R181). -/
def execResponseRead (p : Port) (count : Nat) (s : State) : Host.Outcome State Fault Refusal :=
  .next (s.takeIf (decide (s.clk.power = .running)) fun s => s.setPort p ((s.port p).readBy count))

/-- POLL: the port takes no request and leaves the slot as it was, its note too (R180; log entry 4). -/
def execPoll (count : Nat) (s : State) : Host.Outcome State Fault Refusal :=
  .next (s.takeIf (decide (s.clk.power = .running)) fun s =>
    s.setPorts { s.ports with sys := { s.ports.sys with out := shiftOut count s.ports.sys.view } })

/-- A refusal or an answer with no payload. -/
def Response.bare (r : Result) : Response := { result := r, payload := [] }

end Sys2Proof.Machine
end

