-- ==== Sys2Proof/Machine/Reports.lean ====
section
/-! DEFINITION. The pictures the masters read: the change list, the wake report and the status picture (R175, R177,
R178). -/

namespace Sys2Proof.Machine

/-- The seven counters, 4 bytes each, in the order of R177. -/
def Counters.bytes (c : Counters) : List Byte :=
  [c.framesSeen, c.framesBad, c.answersSent, c.answersDropped, c.heldDiscards, c.dozeDiscards,
    c.inspectDiscards].flatMap fun n => beBytes 4 n.toNat

/-- A slot index or "none" (R177). -/
def slotByte (i : Option SlotIx) : List Byte := linkBytes i

/-- A cause list entry: class, slot, part time (R177). -/
def Cause.bytes (c : Cause) : List Byte := beBytes 1 c.cls.code ++ slotByte c.slot ++ beBytes 4 c.time.toNat

/-- The first cause's four fields (R177). -/
def firstCauseBytes (c : Option Cause) : List Byte :=
  match c with
  | some c => [1] ++ c.bytes
  | none => [0, 0, 0xFF] ++ beBytes 4 0

/-- The notice flags: bit n for class code n, bits 12 … 15 zero (R177). -/
def noticeBytes (notices : BitVec 12) : List Byte := beBytes 2 notices.toNat

/-- The wake report (R177). -/
def State.reportBytes (s : State) : List Byte :=
  let r := s.cond.report
  [flagByte r.roused] ++ firstCauseBytes r.firstCause ++ beBytes 1 r.causes.length ++ r.causes.flatMap Cause.bytes ++
    beBytes 4 r.further.toNat ++ [flagByte r.linkSteady, flagByte r.floodSeen] ++ noticeBytes s.cond.notices ++
    r.snapshot.bytes

/-- READ_REPORT's taking: from the platform port it clears every notice flag (R169, R177). -/
def State.serveReadReport (s : State) (p : Port) (payload : List Byte) : State × Response :=
  if payload ≠ [] then (s, .bare .malformed)
  else
    ((match p with
      | .system => s
      | .platform => s.setCond { s.cond with notices := 0 }),
      { result := .done, payload := s.reportBytes })

/-- READ_CHANGES' taking (R175). -/
def State.serveReadChanges (s : State) (_p : Port) (payload : List Byte) : State × Response :=
  match payload with
  | [position] =>
    if position.toNat > 127 then (s, .bare .outOfRange)
    else
      let lead := beBytes 4 s.cond.lendCount.toNat ++ beBytes 1 s.cond.changes.length
      match s.cond.changes[position.toNat]? with
      | some c =>
        (s, { result := .done
              payload := lead ++ beBytes 1 c.slot.val ++ beBytes 1 c.marks.toNat ++ slotImage c.slot (s.slot c.slot) })
      | none => (s, { result := .done, payload := lead })
  | _ => (s, .bare .malformed)

/-- The head cause's class and slot (R178). -/
def headCauseBytes (entries : List HeldEntry) : List Byte :=
  match entries with
  | [] => [0xFF, 0xFF]
  | e :: _ =>
    match e.cause with
    | some (cls, i) => beBytes 1 cls.code ++ beBytes 1 i.val
    | none => [0xFE, 0xFF]

/-- The status picture (R178). -/
def State.statusBytes (s : State) : List Byte :=
  beBytes 1 s.custody.state.code ++
    [flagByte s.custody.discard, flagByte s.custody.wake, flagByte s.attn, flagByte s.tx.linkUp] ++
    noticeBytes s.cond.notices ++ beBytes 4 s.clk.partTime.toNat ++ beBytes 4 s.cond.lendCount.toNat ++
    beBytes 1 s.held.entries.length ++ beBytes 2 (heldTotal s.held.entries) ++ headCauseBytes s.held.entries ++
    beBytes 1 s.tx.answers.length ++ beBytes 1 s.tx.own.length ++ [flagByte s.rx.sample.isSome] ++
    [flagByte (decide (s.guard.state = .flooded))] ++ beBytes 2 s.guard.demand.toNat ++ beBytes 1 s.guard.run ++
    beBytes 1 s.cond.changes.length ++ [flagByte s.store.op.isSome, flagByte s.store.fault] ++ s.counters.bytes

/-- READ_STATUS' taking (R178). -/
def State.serveReadStatus (s : State) (_p : Port) (payload : List Byte) : State × Response :=
  if payload ≠ [] then (s, .bare .malformed) else (s, { result := .done, payload := s.statusBytes })

end Sys2Proof.Machine
end

