-- ==== Sys2Proof/Machine/Policy.lean ====
section
/-! DEFINITION. The policy requests (R170 to R173, with R13, R76, R84 and R106). -/

namespace Sys2Proof.Machine

/-- The policy items (R170); a condition flag is one item for each class. -/
inductive PolicyItem where
  | retain | rouse | notify
  | stationAddress
  | conflictWatch | floodEnable
  | windowLength | highMark | lowMark | debounce
  | disposition | dozeEnable
  deriving DecidableEq, Repr

/-- The item codes (R170). -/
def policyItem (code : Byte) : Option PolicyItem :=
  match code.toNat with
  | 1 => some .retain
  | 2 => some .rouse
  | 3 => some .notify
  | 4 => some .stationAddress
  | 5 => some .conflictWatch
  | 6 => some .floodEnable
  | 7 => some .windowLength
  | 8 => some .highMark
  | 9 => some .lowMark
  | 10 => some .debounce
  | 11 => some .disposition
  | 12 => some .dozeEnable
  | _ => none

/-- The width of an item's value (R170). -/
def PolicyItem.width : PolicyItem → Nat
  | .stationAddress => 6
  | .windowLength | .highMark | .lowMark => 2
  | .retain | .rouse | .notify | .conflictWatch | .floodEnable | .debounce | .disposition | .dozeEnable => 1

/-- The item is a condition flag. -/
def PolicyItem.isFlag : PolicyItem → Bool
  | .retain | .rouse | .notify => true
  | .stationAddress | .conflictWatch | .floodEnable | .windowLength | .highMark | .lowMark | .debounce | .disposition
  | .dozeEnable => false

/-- The platform port may reach the item (R170). -/
def PolicyItem.platformMay : PolicyItem → Bool
  | .rouse | .notify => true
  | .retain | .stationAddress | .conflictWatch | .floodEnable | .windowLength | .highMark | .lowMark | .debounce
  | .disposition | .dozeEnable => false

/-- Steps 1 to 3 of R172, shared with R173: the item and the index, or the refusal. -/
def policyAddress (p : Port) (payload : List Byte) : Except Result (PolicyItem × Nat) :=
  match payload with
  | code :: index :: _ =>
    match policyItem code with
    | none => .error .malformed
    | some item =>
      if p = .platform ∧ item.platformMay = false then .error .notPermitted
      else if item.isFlag then
        if index.toNat > 11 then .error .outOfRange else .ok (item, index.toNat)
      else if index ≠ 0 then .error .malformed
      else .ok (item, index.toNat)
  | _ => .error .malformed

/-- A disposition's code (R76). -/
def Disposition.code : Disposition → Nat
  | .discard => 0
  | .hold => 1
  | .inspect => 2

/-- A value is refused with MALFORMED (R172, step 6). -/
def PolicyItem.refusesValue (item : PolicyItem) (v : Nat) : Bool :=
  match item with
  | .retain | .rouse | .notify | .conflictWatch | .floodEnable | .dozeEnable => decide (1 < v)
  | .disposition => decide (2 < v)
  | .stationAddress | .windowLength | .highMark | .lowMark | .debounce => false

/-- A value is stored, clamped where the table says so; a low mark never stays above the high mark (R106, R172). -/
def Policy.store (q : Policy) (item : PolicyItem) (index v : Nat) : Policy :=
  match item with
  | .retain => { q with retain := withFlag q.retain index (decide (v = 1)) }
  | .rouse => { q with rouse := withFlag q.rouse index (decide (v = 1)) }
  | .notify => { q with notify := withFlag q.notify index (decide (v = 1)) }
  | .stationAddress => q
  | .conflictWatch => { q with conflictWatch := decide (v = 1) }
  | .floodEnable => { q with floodEnable := decide (v = 1) }
  | .windowLength => { q with windowLength := clamp 1 16 v }
  | .highMark => { q with highMark := clamp 1 4095 v, lowMark := min q.lowMark (clamp 1 4095 v) }
  | .lowMark => { q with lowMark := min (clamp 0 4095 v) q.highMark }
  | .debounce => { q with debounce := clamp 0 3 v }
  | .disposition =>
    { q with disposition := match v with | 0 => .discard | 1 => .hold | _ => .inspect }
  | .dozeEnable => { q with dozeEnable := decide (v = 1) }

/-- A policy item is stored; the station address stands beside the table (R13). -/
def State.storePolicy (s : State) (item : PolicyItem) (index v : Nat) : State :=
  match item with
  | .stationAddress => s.setTable { s.table with stationAddr := BitVec.ofNat 48 v }
  | _ => s.setPolicy (s.policy.store item index v)

/-- A policy item's stored value, of the item's width (R173). -/
def State.policyValue (s : State) (item : PolicyItem) (index : Nat) : List Byte :=
  let q := s.policy
  match item with
  | .retain => [flagByte (flagAt q.retain index)]
  | .rouse => [flagByte (flagAt q.rouse index)]
  | .notify => [flagByte (flagAt q.notify index)]
  | .stationAddress => beBytes 6 s.table.stationAddr.toNat
  | .conflictWatch => [flagByte q.conflictWatch]
  | .floodEnable => [flagByte q.floodEnable]
  | .windowLength => beBytes 2 q.windowLength
  | .highMark => beBytes 2 q.highMark
  | .lowMark => beBytes 2 q.lowMark
  | .debounce => beBytes 1 q.debounce
  | .disposition => beBytes 1 q.disposition.code
  | .dozeEnable => [flagByte q.dozeEnable]

/-- SET_POLICY's taking (R172). -/
def State.serveSetPolicy (s : State) (p : Port) (payload : List Byte) : State × Response :=
  match policyAddress p payload with
  | .error e => (s, .bare e)
  | .ok (item, index) =>
    if payload.length ≠ 2 + item.width then (s, .bare .malformed)
    else if item.isFlag = false ∧ s.custody.state ≠ .home then (s, .bare .wrongState)
    else if item.refusesValue (natOfBytes (payload.drop 2)) then (s, .bare .malformed)
    else (s.storePolicy item index (natOfBytes (payload.drop 2)), .bare .done)

/-- GET_POLICY's taking (R173). -/
def State.serveGetPolicy (s : State) (p : Port) (payload : List Byte) : State × Response :=
  match policyAddress p payload with
  | .error e => (s, .bare e)
  | .ok (item, index) =>
    if payload.length ≠ 2 then (s, .bare .malformed)
    else (s, { result := .done, payload := s.policyValue item index })

end Sys2Proof.Machine
end

