-- ==== Sys2Proof/Machine/Presence.lean ====
section
/-! DEFINITION. The requests of the table controller and of the template pool (Chapters 1 and 2). -/

namespace Sys2Proof.Machine

/-! ## Kind counts (R2) -/

/-- The kind counts with a record of a slot added. -/
def KindCounts.add (n : KindCounts) (r : Record) : KindCounts :=
  match r with
  | .claim _ => { n with claims := n.claims + 1 }
  | .stream _ => { n with streams := n.streams + 1 }
  | .exchange _ => { n with exchanges := n.exchanges + 1 }
  | .responder _ | .filter _ => n

/-- The kind counts with the contents of a slot removed. -/
def KindCounts.remove (n : KindCounts) (r : Option Record) : KindCounts :=
  match r with
  | some (.claim _) => { n with claims := n.claims - 1 }
  | some (.stream _) => { n with streams := n.streams - 1 }
  | some (.exchange _) => { n with exchanges := n.exchanges - 1 }
  | some (.responder _) | some (.filter _) | none => n

/-- The kind counts within their limits (R2). -/
def KindCounts.within (n : KindCounts) : Bool :=
  decide (n.claims ≤ Config.maxClaims) && decide (n.streams ≤ Config.maxStreams) &&
    decide (n.exchanges ≤ Config.maxExchanges)

/-- A slot's contents and the kind counts are changed together (R2, R18, R20). -/
def State.replaceSlot (s : State) (i : SlotIx) (r : Option Record) (n : KindCounts) : State :=
  s.setTable { s.table with slots := s.table.slots.set i.val r i.isLt, counts := n }

/-- A refusal of a PUT_SLOT with the payload offset of the fault (R15). -/
def putRefusal (result : Result) (offset : Nat) : Response := { result, payload := beBytes 2 offset }

/-- PUT_SLOT's taking (R2, R15, R18). -/
def State.servePutSlot (s : State) (p : Port) (payload : List Byte) : State × Response :=
  if p = .platform then (s, .bare .notPermitted)
  else if s.custody.state ≠ .home then (s, .bare .wrongState)
  else
    match readImage payload with
    | .error e => (s, putRefusal e.result e.offset)
    | .ok (i, r) =>
      let counts := (s.table.counts.remove (s.slot i)).add r
      if counts.within then (s.replaceSlot i (some r) counts, .bare .done) else (s, putRefusal .outOfRange 1)

/-- The slot a one-byte payload names, or the refusal of R19 and R20. -/
def slotOfPayload (payload : List Byte) : Except Result SlotIx :=
  match payload with
  | [b] => if h : b.toNat < 128 then .ok ⟨b.toNat, h⟩ else .error .outOfRange
  | _ => .error .malformed

/-- GET_SLOT's taking (R19). -/
def State.serveGetSlot (s : State) (_p : Port) (payload : List Byte) : State × Response :=
  match slotOfPayload payload with
  | .error e => (s, .bare e)
  | .ok i => (s, { result := .done, payload := slotImage i (s.slot i) })

/-- CLEAR_SLOT's taking (R20). -/
def State.serveClearSlot (s : State) (p : Port) (payload : List Byte) : State × Response :=
  if p = .platform then (s, .bare .notPermitted)
  else if s.custody.state ≠ .home then (s, .bare .wrongState)
  else
    match slotOfPayload payload with
    | .error e => (s, .bare e)
    | .ok i => (s.replaceSlot i none (s.table.counts.remove (s.slot i)), .bare .done)

/-! ## The pool (R26, R27) -/

/-- POOL_WRITE's taking (R26). -/
def State.servePoolWrite (s : State) (p : Port) (payload : List Byte) : State × Response :=
  if p = .platform then (s, .bare .notPermitted)
  else if s.custody.state ≠ .home then (s, .bare .wrongState)
  else if payload.length < 3 ∨ 258 < payload.length then (s, .bare .malformed)
  else
    let start := natOfBytes (payload.take 2)
    let data := payload.drop 2
    if Config.poolBytes ≤ start ∨ Config.poolBytes < start + data.length then (s, .bare .outOfRange)
    else (s.setPool (memWriteAll poolBlank s.pool start data), .bare .done)

/-- POOL_READ's taking (R27). -/
def State.servePoolRead (s : State) (p : Port) (payload : List Byte) : State × Response :=
  if p = .platform then (s, .bare .notPermitted)
  else if payload.length ≠ 4 then (s, .bare .malformed)
  else
    let start := natOfBytes (payload.take 2)
    let n := natOfBytes (payload.drop 2)
    if n = 0 ∨ 256 < n ∨ Config.poolBytes ≤ start ∨ Config.poolBytes < start + n then (s, .bare .outOfRange)
    else (s, { result := .done, payload := memReadAll poolBlank s.pool start n })

end Sys2Proof.Machine
end

