-- ==== Sys2Proof/Machine/Store.lean ====
section
/-! DEFINITION. The profile store (R186 to R189): its requests, the end and the interruption of an operation, the profile
load. -/

namespace Sys2Proof.Machine

/-- The address of a page's first byte. -/
def pageBase (page : Nat) : Nat := 256 * page

/-- A page's 256 bytes. -/
def State.pageBytes (s : State) (page : Nat) : List Byte := memReadAll storeBlank s.store.cells (pageBase page) 256

/-- An erased page: 256 bytes of 0xFF (R186). -/
def erasedPage : List Byte := List.replicate 256 0xFF

/-- A page's bytes are written. -/
def State.writePage (s : State) (page : Nat) (bytes : List Byte) : State :=
  s.setStore { s.store with cells := memWriteAll storeBlank s.store.cells (pageBase page) bytes }

/-- STORE_READ's taking (R186). -/
def State.serveStoreRead (s : State) (_p : Port) (payload : List Byte) : State × Response :=
  match payload with
  | [page] =>
    if page.toNat > 7 then (s, .bare .outOfRange)
    else if s.store.op.isSome then (s, .bare .busy)
    else (s, { result := .done, payload := s.pageBytes page.toNat })
  | _ => (s, .bare .malformed)

/-- STORE_ERASE's taking: the store becomes busy, and the request is answered at the operation's end (R186). -/
def State.serveStoreErase (s : State) (p : Port) (payload : List Byte) : State × Option Response :=
  if p = .platform then (s, some (.bare .notPermitted))
  else
    match payload with
    | [page] =>
      if page.toNat > 7 then (s, some (.bare .outOfRange))
      else if page.toNat < 2 then (s, some (.bare .locked))
      else if s.store.op.isSome then (s, some (.bare .busy))
      else (s.setStore { s.store with op := some (.erase page.toNat) }, none)
    | _ => (s, some (.bare .malformed))

/-- STORE_PROGRAM's taking: only a page whose bytes are all 0xFF is programmed (R186). -/
def State.serveStoreProgram (s : State) (p : Port) (payload : List Byte) : State × Option Response :=
  if p = .platform then (s, some (.bare .notPermitted))
  else
    match payload with
    | page :: data =>
      if data.length ≠ 256 then (s, some (.bare .malformed))
      else if page.toNat > 7 then (s, some (.bare .outOfRange))
      else if page.toNat < 2 then (s, some (.bare .locked))
      else if (s.pageBytes page.toNat).any (fun b => decide (b ≠ 0xFF)) then (s, some (.bare .wrongState))
      else if s.store.op.isSome then (s, some (.bare .busy))
      else (s.setStore { s.store with op := some (.program page.toNat data) }, none)
    | [] => (s, some (.bare .malformed))

/-- The store becomes idle and its request is answered DONE (R186). -/
def State.storeIdle (s : State) : State :=
  (s.setStore { s.store with op := none }).respond .system (.bare .done)

/-- STORE_ERASE_DONE: the page reads all 0xFF (R186). -/
def execStoreEraseDone (s : State) : Host.Outcome State Fault Refusal :=
  .next (s.takeIf s.canTake fun s =>
    match s.store.op with
    | some (.erase page) => (s.writePage page erasedPage).storeIdle
    | _ => s)

/-- STORE_PROGRAM_DONE: the page holds the new data (R186). -/
def execStoreProgramDone (s : State) : Host.Outcome State Fault Refusal :=
  .next (s.takeIf s.canTake fun s =>
    match s.store.op with
    | some (.program page data) => (s.writePage page data).storeIdle
    | _ => s)

/-- What an interrupted program leaves of its page: bytes 0 and 1 at 0xFF, and of bytes 2 … 255 a mix of the new data and
0xFF that is free (R187; log entry 1). -/
def tornPage (draw : Nat) (data : List Byte) : List Byte :=
  [0xFF, 0xFF] ++
    (List.range 254).map fun k => if Config.tornByteWritten draw (k + 2) then data.getD (k + 2) 0xFF else 0xFF

/-- An operation under way is interrupted (R187). -/
def State.interruptStore (s : State) : State :=
  match s.store.op with
  | none => s
  | some (.erase page) =>
    let s1 := s.writePage page erasedPage
    s1.setStore { s1.store with op := none }
  | some (.program page data) =>
    let s1 := (s.writePage page (tornPage s.draws data)).setDraws (s.draws + 1)
    s1.setStore { s1.store with op := none }

/-! ## The profile (R188, R189) -/

/-- The profile stream's length. -/
def streamLength : Nat := 1534

/-- The address of the profile stream's first byte: page 2, byte 2. -/
def streamBase : Nat := 514

/-- `n` bytes of the profile stream from a place. -/
def State.streamBytesAt (s : State) (place n : Nat) : List Byte :=
  memReadAll storeBlank s.store.cells (streamBase + place) n

/-- Page 2 holds the validity word (R188). -/
def State.profileValid (s : State) : Bool := decide (s.storeByte 512 = 0xC3) && decide (s.storeByte 513 = 0xA5)

/-- The load ends, with the fault flag set where it stopped; a SOFT_RESET that waits for it is answered DONE (R181,
R189). -/
def State.endLoad (s : State) (fault answers : Bool) : State :=
  let s1 := s.setStore { s.store with load := none, fault }
  if answers then s1.respond .system (.bare .done) else s1

/-- The load starts: the fault flag is cleared, and without the validity word the load ends at once (R189). -/
def State.startLoad (s : State) (answers : Bool) : State :=
  if s.profileValid then s.setStore { s.store with fault := false, load := some { position := 0, answers } }
  else s.endLoad false answers

/-- A profile record as its request from the system port; an unknown type is no request (R188, R189). -/
def State.serveRecord (s : State) (type : Byte) (body : List Byte) : Option (State × Response) :=
  match type.toNat with
  | 0x01 => some (s.servePutSlot .system body)
  | 0x02 => some (s.servePoolWrite .system body)
  | 0x03 => some (s.serveSetPolicy .system body)
  | _ => none

/-- One record of the load (R189). The two bytes of its length stand most significant byte first, as in a message (DEDUCED, log
entry 36). -/
def State.loadRecord (s : State) (l : ProfileLoad) : State :=
  let type := (s.streamBytesAt l.position 1).headD 0xFF
  if type = 0xFF then s.endLoad false l.answers
  else if streamLength < l.position + 3 then s.endLoad true l.answers
  else
    let len := natOfBytes (s.streamBytesAt (l.position + 1) 2)
    let next := l.position + 3 + len
    if streamLength < next then s.endLoad true l.answers
    else
      match s.serveRecord type (s.streamBytesAt (l.position + 3) len) with
      | none => s.endLoad true l.answers
      | some (s1, r) =>
        if r.result ≠ .done then s.endLoad true l.answers
        else if next = streamLength then s1.endLoad false l.answers
        else s1.setStore { s1.store with load := some { l with position := next } }

/-- PROFILE_RECORD (R189). -/
def execProfileRecord (s : State) : Host.Outcome State Fault Refusal :=
  .next (s.takeIf s.canTake fun s =>
    match s.store.load with
    | none => s
    | some l => s.loadRecord l)

end Sys2Proof.Machine
end

