-- ==== Sys2Proof/Machine/Resets.lean ====
section
/-! DEFINITION. The three resets and the loss of supply (R62, R63, R185, R187). -/

namespace Sys2Proof.Machine

/-- Every block takes its reset values. What a reset does not touch is kept: the input lines, the store's content, and the
model's own draw count and command queue. The line link state is set from LINK (R150), and the clock unit is as given. -/
def State.resetBlocks (s : State) (clk : ClockUnit) : State :=
  { State.reset with
    clk
    pins := s.pins
    store := { cells := s.store.cells, op := none, fault := false, load := none }
    tx := { State.reset.tx with linkUp := s.pins.link }
    draws := s.draws
    pending := s.pending }

/-- The clock unit of a part in a supply state, ACTIVE with the count at 0 (R183). -/
def ClockUnit.at (power : Power) (partTime : Time) : ClockUnit :=
  { power, state := .active, quietTicks := 0, wakeDue := none, partTime, waiting := [] }

/-- A power-on or RST_N reset is held: a store operation is interrupted, part time is held at 0 (R182, R185, R187). -/
def State.holdReset (s : State) : State := s.interruptStore.resetBlocks (ClockUnit.at .resetHeld 0)

/-- POWER_ON (R63, R185). -/
def execPowerOn (s : State) : Host.Outcome State Fault Refusal := .next s.holdReset

/-- RST_N, held low for at least 1 µs (R63, R185); without supply it has no effect. -/
def execRstN (s : State) : Host.Outcome State Fault Refusal :=
  .next (s.takeIf (decide (s.clk.power ≠ .off)) State.holdReset)

/-- RESET_RELEASE: every block takes its reset values, the link state is set from LINK, the profile load begins (R185,
R189). -/
def execResetRelease (s : State) : Host.Outcome State Fault Refusal :=
  .next (s.takeIf (decide (s.clk.power = .resetHeld)) fun s =>
    (s.resetBlocks (ClockUnit.at .running 0)).startLoad false)

/-- POWER_LOSS: a store operation is interrupted and the part stops until the next power-on (R187). -/
def execPowerLoss (s : State) : Host.Outcome State Fault Refusal :=
  .next (s.interruptStore.resetBlocks (ClockUnit.at .off 0))

/-- The reset of a SOFT_RESET: part time is kept, the platform slot is emptied, the system slot waits for the end of the
profile load (R62, R181, R189). A BUSY note of the system slot is cleared with the reset (DESIGN CHOICE, log entry 34). -/
def State.softReset (s : State) : State :=
  let s1 := s.resetBlocks (ClockUnit.at s.clk.power s.clk.partTime)
  (s1.setPort .system { (s1.port .system) with slot := .working, out := (s.port .system).out }).startLoad true

/-- SOFT_RESET's taking (R62). -/
def State.serveSoftReset (s : State) (p : Port) (payload : List Byte) : State × Option Response :=
  if p = .platform then (s, some (.bare .notPermitted))
  else if s.custody.state ≠ .home then (s, some (.bare .wrongState))
  else if s.store.op.isSome then (s, some (.bare .busy))
  else if payload ≠ [] then (s, some (.bare .malformed))
  else (s.softReset, none)

end Sys2Proof.Machine
end

