-- ==== Sys2Proof/Machine/Assembler.lean ====
section
/-! DEFINITION. Frame assembly (Chapter 2) and the tests of a received frame against probes, descriptors and the CRC. -/

namespace Sys2Proof.Machine

/-! ## CRC-32 (R40) -/

/-- The byte-wise form of R40, one bit: the reflected polynomial is 0xEDB88320. -/
def crcBits : Nat → BitVec 32 → BitVec 32
  | 0, c => c
  | n + 1, c => crcBits n (if c.getLsbD 0 then (c >>> 1) ^^^ 0xEDB88320 else c >>> 1)

/-- One byte of the CRC. -/
def crcByte (c : BitVec 32) (b : Byte) : BitVec 32 := crcBits 8 (c ^^^ b.setWidth 32)

/-- The Ethernet CRC-32 of a byte string (R40). -/
def crc32 (bytes : List Byte) : Fcs := (bytes.foldl crcByte 0xFFFFFFFF) ^^^ 0xFFFFFFFF

/-- The FCS as it goes on the wire, least significant byte first (R40). -/
def fcsBytes (f : Fcs) : List Byte := (beBytes 4 f.toNat).reverse

/-- A frame as it goes on the wire. -/
def Frame.wire (f : Frame) : List Byte := f.bytes ++ fcsBytes f.fcs

/-- A frame the part makes: its FCS is formed over its bytes (R40). -/
def Frame.made (bytes : List Byte) : Frame := { bytes, fcs := crc32 bytes }

/-- A received frame is good: its FCS matches and its length lies in 14 … 1,518 (R65). -/
def Frame.good (f : Frame) : Bool :=
  decide (f.fcs = crc32 f.bytes) && decide (Config.minFrame ≤ f.bytes.length) &&
    decide (f.bytes.length ≤ Config.maxFrame)

/-! ## Probes and descriptors (R3 to R5) -/

/-- `n` bytes of a byte string from an offset. -/
def bytesAt (bytes : List Byte) (offset n : Nat) : List Byte := (bytes.drop offset).take n

/-- The low `n` bytes of a 32-bit value, most significant first. -/
def lowBytes (v : BitVec 32) (n : Nat) : List Byte := beBytes n (v.toNat % 256 ^ n)

/-- A frame passes a probe; `counter` is the owning exchange's send counter (R3, R5). -/
def Probe.passes (counter : SeqValue) (bytes : List Byte) : Probe → Bool
  | .masked offset valueMask =>
    decide (offset + valueMask.length ≤ bytes.length) &&
      ((bytesAt bytes offset valueMask.length).zip valueMask).all fun (b, v, m) => decide (b &&& m = v &&& m)
  | .equalsCounter offset len =>
    decide (offset + len ≤ bytes.length) && decide (bytesAt bytes offset len = lowBytes counter len)

/-- A frame passes a descriptor when it passes every probe of it (R4). -/
def descriptorPasses (counter : SeqValue) (bytes : List Byte) (d : Descriptor) : Bool :=
  d.all (Probe.passes counter bytes)

/-- A frame passes a descriptor of masked probes. -/
def matchesFrame (bytes : List Byte) (d : Descriptor) : Bool := descriptorPasses 0 bytes d

/-- A four-byte field of a frame, most significant byte first (section 6.5). -/
def seqField (bytes : List Byte) (offset : Nat) : SeqValue := BitVec.ofNat 32 (natOfBytes (bytesAt bytes offset 4))

/-! ## Building (R30, R34 to R39) -/

/-- What a build draws on, read in one taking (R43). -/
structure BuildContext where
  pool : List Host.Cell
  stationAddr : BitVec 48
  now : Time
  /-- The record that owns the template. -/
  owner : Record
  /-- The address CLAIM_ADDR supplies. -/
  claimAddress : List Byte
  /-- The received frame, for RX sources. -/
  received : List Byte
  deriving DecidableEq, Repr

/-- The segment bytes laid end to end (R30). -/
def layChain (pool : List Host.Cell) (segments : List Segment) : List Byte :=
  segments.flatMap fun g => memReadAll poolBlank pool (Config.blockBytes * g.startBlock) g.len

/-- A 32-bit value fitted to `n` bytes, most significant first (R35). -/
def fitNumber (v : BitVec 32) (n : Nat) : List Byte := List.replicate (n - 4) 0 ++ lowBytes v (min n 4)

/-- An address fitted to `n` bytes from its first byte, zero bytes after its end (R35). -/
def fitAddress (address : List Byte) (n : Nat) : List Byte := (address ++ List.replicate n 0).take n

/-- The bytes a substitution writes (R34, R35). A source the owner does not have supplies 0; the LEND check lets no such
template be lent (R33). -/
def substValue (ctx : BuildContext) (source : Source) (n : Nat) : List Byte :=
  match source with
  | .rx o => fitAddress (ctx.received.drop o) n
  | .claimAddr => fitAddress ctx.claimAddress n
  | .stationAddr => fitAddress (beBytes 6 ctx.stationAddr.toNat) n
  | .seqOut => fitNumber (match ctx.owner with | .stream t => t.ourSeq | _ => 0) n
  | .seqOutLess1 => fitNumber (match ctx.owner with | .stream t => t.ourSeq - 1 | _ => 0) n
  | .seqIn => fitNumber (match ctx.owner with | .stream t => t.peerSeq | _ => 0) n
  | .capture k => fitNumber (match ctx.owner with | .exchange x => x.captures.toList.getD k 0 | _ => 0) n
  | .counter => fitNumber (match ctx.owner with | .exchange x => x.sendCounter | _ => 0) n
  | .time => fitNumber ctx.now n

/-- Bytes are written over a byte string at an offset; its length stays. -/
def overwrite (bytes : List Byte) (offset : Nat) (new : List Byte) : List Byte :=
  bytes.take offset ++ new.take (bytes.length - offset) ++ bytes.drop (offset + new.length)

/-- The substitutions are applied in the order they are listed (R36). -/
def applySubsts (ctx : BuildContext) (substs : List Subst) (bytes : List Byte) : List Byte :=
  substs.foldl (fun bs u => overwrite bs u.offset (substValue ctx u.source u.len)) bytes

/-- The sum of the 16-bit words of a span; an odd last byte is the high byte of a last word (R37). -/
def sumWords : List Byte → Nat
  | [] => 0
  | [a] => a.toNat * 256
  | a :: b :: rest => a.toNat * 256 + b.toNat + sumWords rest

/-- One fold of a sum. -/
def foldOnce (n : Nat) : Nat := n % 65536 + n / 65536

/-- The sum folded until it is below 65,536; two folds are enough for any span (R37). -/
def foldSum (n : Nat) : Nat :=
  if n < 65536 then n else if foldOnce n < 65536 then foldOnce n else foldOnce (foldOnce n)

/-- The checksum of a span whose field has been zeroed (R37, stages 3 to 6). -/
def checksumOf (span : List Byte) (baseSum : BitVec 16) (zeroAsOnes : Bool) : Nat :=
  let c := 0xFFFF - foldSum (sumWords span + baseSum.toNat)
  if c = 0 ∧ zeroAsOnes = true then 0xFFFF else c

/-- One checksum spec is applied (R37). -/
def applyChecksum (n : Nat) (bytes : List Byte) (c : ChecksumSpec) : List Byte :=
  let e := c.spanEnd.getD n
  let zeroed := overwrite bytes c.fieldOffset [0, 0]
  let span := bytesAt zeroed c.spanStart (e - c.spanStart)
  overwrite zeroed c.fieldOffset (beBytes 2 (checksumOf span c.baseSum c.zeroAsOnes))

/-- Zero bytes extend a frame to 60 bytes (R39). -/
def padFrame (bytes : List Byte) : List Byte := bytes ++ List.replicate (Config.minBuilt - bytes.length) 0

/-- A template's frame: chain, substitutions, checksums, padding (R30, R36, R37, R39). -/
def buildFrame (ctx : BuildContext) (t : Template) : List Byte :=
  padFrame (t.checksums.foldl (applyChecksum t.totalLen) (applySubsts ctx t.substs (layChain ctx.pool t.segments)))

/-- The address of the claim a link names; none gives no bytes. -/
def State.linkedAddress (s : State) (link : Link) : List Byte :=
  match link with
  | none => []
  | some i =>
    match s.claimAt i with
    | some c => c.cfg.address
    | none => []

/-- The address CLAIM_ADDR supplies in a record's templates (R12, R34). -/
def State.addressFor (s : State) (owner : Record) : List Byte :=
  match owner with
  | .claim c => c.cfg.address
  | .responder r => s.linkedAddress r.cfg.claimLink
  | .filter _ => []
  | .stream t => s.linkedAddress t.cfg.claimLink
  | .exchange x => s.linkedAddress x.cfg.claimLink

/-- A frame is built in this taking from a template of a record (R41 to R43). -/
def State.build (s : State) (owner : Record) (t : Template) (received : List Byte) : List Byte :=
  buildFrame { pool := s.pool, stationAddr := s.table.stationAddr, now := s.clk.partTime, owner,
               claimAddress := s.addressFor owner, received } t

/-! ## Answers (R102, R117, R151) -/

/-- The room test: the link is up and the answer queue holds fewer than 8 (R102). -/
def State.answerRoom (s : State) : Bool := s.tx.linkUp && decide (s.tx.answers.length < Config.answerPlaces)

/-- An answer is built and placed at the tail, or counted as dropped where there is no room (R102, R117). -/
def State.answerWith (s : State) (i : SlotIx) (origin : AnswerOrigin) (owner : Record) (t : Template)
    (received : List Byte) : State :=
  if s.answerRoom then
    s.setTx { s.tx with answers := s.tx.answers ++ [{ bytes := s.build owner t received, slot := i, origin }] }
  else s.count (Counters.dropped 1)

end Sys2Proof.Machine
end

