-- ==== Sys2Proof/Machine/Streams.lean ====
section
/-! DEFINITION. The stream engine (Chapter 7): sequence tests, probes and misses, the end of a stream, takeover, tracking. -/

namespace Sys2Proof.Machine

/-- A stream's probe item is placed: at the tail while the link is up and the queue has room, else it waits as item due
(R120); an item already queued keeps its place (R126). -/
def State.placeStreamItem (s : State) (i : SlotIx) (t : Stream) : State :=
  if s.tx.linkUp && (s.hasItem i || s.ownRoom) then s.pushItem (.stream i)
  else s.setSlot i (some (.stream { t with itemDue := true }))

/-- A stream's due item is placed at the tail if the queue has room (R126, R152). -/
def State.placeStreamDue (s : State) (i : SlotIx) (t : Stream) : State :=
  if t.itemDue && s.canPlace i then (s.setSlot i (some (.stream { t with itemDue := false }))).pushItem (.stream i)
  else s

/-- A stream as its end leaves it (R119). -/
def Stream.endedForm (t : Stream) : Stream := { t with state := .ended, timer := none, itemDue := false }

/-- A stream is ended: state, timer, item; `old` is the record as the taking found it, `t` as the taking has changed it
so far (R119, R130). -/
def State.endStream (s : State) (i : SlotIx) (old t : Stream) (extra : BitVec 8 := 0) : State :=
  (s.putStream i old t.endedForm extra).withdrawItem i

/-! ## Inbound frames (R115 to R118) -/

/-- An acknowledgement (R118). -/
def State.streamAck (s : State) (i : SlotIx) (t : Stream) : State :=
  let counted := { t with acksSeen := bump16 t.acksSeen }
  if t.state = .outstanding then
    (s.putStream i t { counted with
      state := .idle, misses := 0, itemDue := false, timer := some .period,
      nextDue := timeAfter s.clk.partTime t.cfg.period }).withdrawItem i
  else s.putStream i t counted

/-- A stale frame is counted (R116). -/
def State.streamStale (s : State) (i : SlotIx) (t : Stream) : State :=
  s.putStream i t { t with staleFrames := bump16 t.staleFrames }

/-- The outcomes of the sequence tests (R116). -/
inductive SeqOutcome where
  | keepAlive | acknowledgement | data | stale
  deriving DecidableEq, Repr

/-- The sequence tests in their order (R116). -/
def seqTests (ourSeq peerSeq s a : SeqValue) : SeqOutcome :=
  if s = peerSeq - 1 then .keepAlive
  else if s = peerSeq then
    if a = ourSeq then .acknowledgement
    else if ahead a ourSeq then .data
    else .stale
  else if ahead s peerSeq then .data
  else .stale

/-- The stream engine decides a frame it has claimed (R115). -/
def State.streamFrame (s : State) (i : SlotIx) (t : Stream) (f : Frame) : State :=
  if f.bytes.length < t.cfg.headerLen then s.count Counters.bad
  else if (t.cfg.closeProbe.map fun p => p.passes 0 f.bytes).getD false then
    ((s.offerHeld f (some (.streamEnded, i))).endStream i t t).raise .streamEnded (some i)
  else if 2 ≤ f.bytes.length - t.cfg.headerLen then s.holdFor f .streamData i
  else
    match seqTests t.ourSeq t.peerSeq (seqField f.bytes t.cfg.seqOffset) (seqField f.bytes t.cfg.ackOffset) with
    | .keepAlive => s.answerWith i .stream (.stream t) t.cfg.replyTemplate f.bytes
    | .acknowledgement => s.streamAck i t
    | .data => s.holdFor f .streamData i
    | .stale => s.streamStale i t

/-- A stream claims a frame in the third test (R71). -/
def State.streamClaims (s : State) (bytes : List Byte) (i : SlotIx) : Option Stream :=
  match s.streamAt i with
  | some t => if t.state ≠ .ended ∧ matchesFrame bytes t.cfg.inbound = true then some t else none
  | none => none

/-- The third test: the lowest stream, not ENDED, whose inbound descriptor the frame passes (R71). -/
def State.streamTest (s : State) (f : Frame) : Option State :=
  slotIndices.findSome? fun i => (s.streamClaims f.bytes i).map fun t => s.streamFrame i t f

/-! ## Probes (R120 to R122) -/

/-- A stream's timer has come: the timer runs, its due time has come, and a retry spacing is not frozen (R113, R120,
R122). -/
def State.streamDue (s : State) (t : Stream) (k : StreamTimer) : Bool :=
  decide (t.timer = some k) && dueCome s.clk.partTime t.nextDue && (decide (k = .period) || s.tx.linkUp)

/-- An IDLE stream's period expires (R120). -/
def State.takePeriod (s : State) (i : SlotIx) : State :=
  match s.streamAt i with
  | none => s
  | some t =>
    s.takeIf (s.enginesRun && s.streamDue t .period && decide (t.state = .idle)) fun s =>
      let t' := { t with state := .probeDue, timer := none }
      (s.putStream i t t').placeStreamItem i t'

/-- An OUTSTANDING stream's retry spacing expires (R122). -/
def State.takeRetry (s : State) (i : SlotIx) : State :=
  match s.streamAt i with
  | none => s
  | some t =>
    s.takeIf (s.enginesRun && s.streamDue t .retrySpacing && decide (t.state = .outstanding)) fun s =>
      let missed := { t with misses := t.misses + 1, timer := none }
      if t.cfg.missLimit ≤ missed.misses then (s.endStream i t missed).raise .streamSilent (some i)
      else (s.putStream i t missed).placeStreamItem i missed

/-- A stream's item is granted: the probe is built, and a PROBE_DUE stream becomes OUTSTANDING (R121). -/
def State.grantStream (s : State) (i : SlotIx) (t : Stream) : State × List Byte :=
  let bytes := s.build (.stream t) t.cfg.probeTemplate []
  (s.putStream i t (if t.state = .probeDue then { t with state := .outstanding } else t), bytes)

/-- A stream's probe completes (R121). -/
def State.streamProbeSent (s : State) (i : SlotIx) : State :=
  match s.streamAt i with
  | none => s
  | some t =>
    let sent := { t with probesSent := bump16 t.probesSent }
    if t.state = .outstanding ∧ s.hasItem i = false ∧ t.itemDue = false ∧ s.custody.state.lent = true then
      s.putStream i t { sent with timer := some .retrySpacing, nextDue := timeAfter s.clk.partTime t.cfg.retrySpacing }
    else s.putStream i t sent

/-- A stream's reply completes (R117). -/
def State.streamReplySent (s : State) (i : SlotIx) : State :=
  match s.streamAt i with
  | none => s
  | some t => s.putStream i t { t with repliesSent := bump16 t.repliesSent }

/-! ## Takeover (R124) -/

/-- One stream's part of the takeover test. -/
def State.takeoverOne (bytes : List Byte) (s : State) (i : SlotIx) : State :=
  match s.streamAt i with
  | none => s
  | some t =>
    if t.state ≠ .ended ∧ matchesFrame bytes t.cfg.outbound = true then s.endStream i t t markTakeover else s

/-- A station frame ends every stream, not ENDED, whose outbound descriptor it passes, in ascending slot index (R124). -/
def State.takeover (s : State) (bytes : List Byte) : State := slotIndices.foldl (State.takeoverOne bytes) s

/-! ## The return of the link (R126) -/

/-- A stream's part of the line link's return. -/
def State.returnStream (s : State) (i : SlotIx) (t : Stream) : State :=
  if t.state = .outstanding ∧ t.timer = some .retrySpacing then
    let t' := { t with timer := none, nextDue := s.clk.partTime, itemDue := false }
    (s.putStream i t t').placeStreamItem i t'
  else s.placeStreamDue i t

/-! ## Tracking in HOME (R128, R129) -/

/-- A proposed value is taken (R129). -/
def proposalTaken (valid : Bool) (proposed current : SeqValue) : Bool := !valid || aheadOrEqual proposed current

/-- A stream judges the values a frame proposes, each on its own; absent is no proposal (R129). -/
def Stream.judge (t : Stream) (ourSeq peerSeq : Option SeqValue) : Stream :=
  let takes := fun (p : Option SeqValue) (current : SeqValue) =>
    match p with
    | some v => proposalTaken t.valuesValid v current
    | none => false
  { t with
    ourSeq := if takes ourSeq t.ourSeq then ourSeq.getD t.ourSeq else t.ourSeq
    peerSeq := if takes peerSeq t.peerSeq then peerSeq.getD t.peerSeq else t.peerSeq
    valuesValid := t.valuesValid || takes ourSeq t.ourSeq || takes peerSeq t.peerSeq }

/-- The end of a frame's sequence range at a stream: its sequence field plus its payload length (R128). -/
def Stream.seqEnd (t : Stream) (bytes : List Byte) : SeqValue :=
  seqField bytes t.cfg.seqOffset + BitVec.ofNat 32 (bytes.length - t.cfg.headerLen)

/-- A line frame placed in the station output proposes peer_seq to one stream (R128). -/
def State.trackInboundOne (bytes : List Byte) (s : State) (i : SlotIx) : State :=
  match s.streamAt i with
  | none => s
  | some t =>
    if t.cfg.tracking = true ∧ matchesFrame bytes t.cfg.inbound = true ∧ t.cfg.headerLen ≤ bytes.length then
      s.setSlot i (some (.stream (t.judge none (some (t.seqEnd bytes)))))
    else s

/-- A line frame placed in the station output proposes to every stream it passes, in ascending slot index (R128). -/
def State.trackInbound (s : State) (bytes : List Byte) : State := slotIndices.foldl (State.trackInboundOne bytes) s

/-- A station frame proposes our_seq and peer_seq to one stream (R128). -/
def State.trackOutboundOne (bytes : List Byte) (s : State) (i : SlotIx) : State :=
  match s.streamAt i with
  | none => s
  | some t =>
    if t.cfg.tracking = true ∧ matchesFrame bytes t.cfg.outbound = true ∧ t.cfg.headerLen ≤ bytes.length then
      s.setSlot i (some (.stream (t.judge (some (t.seqEnd bytes)) (some (seqField bytes t.cfg.ackOffset)))))
    else s

/-- A station frame proposes to every stream it passes, in ascending slot index (R128). -/
def State.trackOutbound (s : State) (bytes : List Byte) : State := slotIndices.foldl (State.trackOutboundOne bytes) s

/-! ## The commands of the stream engine -/

/-- STREAM_PERIOD_EXPIRY (R120). -/
def execStreamPeriodExpiry (i : SlotIx) (s : State) : Host.Outcome State Fault Refusal := .next (s.takePeriod i)

/-- RETRY_SPACING_EXPIRY (R122). -/
def execRetrySpacingExpiry (i : SlotIx) (s : State) : Host.Outcome State Fault Refusal := .next (s.takeRetry i)

end Sys2Proof.Machine
end

