-- ==== Sys2Proof/Machine/Claims.lean ====
section
/-! DEFINITION. The claim engine (Chapter 5): the conflict watch, probing, defence, loss, the return of the link. -/

namespace Sys2Proof.Machine

/-- A frame asserts a claim's address (R7). -/
def Claim.assertedBy (c : Claim) (bytes : List Byte) : Bool :=
  matchesFrame bytes c.cfg.assertion &&
    decide (c.cfg.assertionOffset + c.cfg.address.length ≤ bytes.length) &&
    decide (bytesAt bytes c.cfg.assertionOffset c.cfg.address.length = c.cfg.address)

/-- A claim is probed: it has a probe template and a probe count above 0 (R7, R50, R92). -/
def Claim.probes (c : Claim) : Bool := c.cfg.probeTemplate.isSome && decide (0 < c.cfg.probeCount)

/-- The claim engine wants an item: at the tail while there is room, else it waits as item due; an item already queued or
due keeps its place and purpose (R88). -/
def State.wantClaimItem (s : State) (i : SlotIx) (c : Claim) (p : Purpose) : State :=
  if s.hasItem i = true ∨ c.dueItem.isSome = true then s
  else if s.ownRoom then s.pushItem (.claim i p)
  else s.setSlot i (some (.claim { c with dueItem := some p }))

/-! ## Loss (R93, R94) -/

/-- An answer is one that a responder linked to claim `i` built (R93). -/
def State.answerLinkedTo (s : State) (i : SlotIx) (a : Answer) : Bool :=
  decide (a.origin = .responder) &&
    (match s.responderAt a.slot with
     | some r => decide (r.cfg.claimLink = some i)
     | none => false)

/-- The answers built by responders linked to claim `i` are purged, each counted in answers_dropped (R93). -/
def State.purgeAnswers (s : State) (i : SlotIx) : State :=
  let gone := (s.tx.answers.filter (s.answerLinkedTo i)).length
  (s.setTx { s.tx with answers := s.tx.answers.filter fun a => !s.answerLinkedTo i a }).count (Counters.dropped gone)

/-- A stream linked to a lost claim, and not ENDED, is ended with STREAM_ENDED (R93, R119). -/
def State.endLinkedStream (claim : SlotIx) (s : State) (j : SlotIx) : State :=
  match s.streamAt j with
  | none => s
  | some t =>
    if t.cfg.claimLink = some claim ∧ t.state ≠ .ended then (s.endStream j t t).raise .streamEnded (some j) else s

/-- A claim as its loss leaves it (R93). -/
def Claim.lostForm (c : Claim) : Claim :=
  { c with state := .lost, timer := none, reprobePending := false, dueItem := none }

/-- A claim is lost, whole: the record and its item, CLAIM_LOST, the answer purge, the linked streams in ascending slot
index. `old` is the record as the taking found it, `c` as the taking has changed it so far (R93). -/
def State.loseClaim (s : State) (i : SlotIx) (old c : Claim) : State :=
  let s1 := (s.putClaim i old c.lostForm).withdrawItem i
  let s2 := (s1.raise .claimLost (some i)).purgeAnswers i
  slotIndices.foldl (State.endLinkedStream i) s2

/-- A claim whose exchange link names exchange `x`, and which is not LOST, is lost at the halt (R94). -/
def State.loseLinkedClaim (x : SlotIx) (s : State) (j : SlotIx) : State :=
  match s.claimAt j with
  | none => s
  | some c => if c.cfg.exchangeLink = some x ∧ c.state ≠ .lost then s.loseClaim j c c else s

/-! ## The conflict watch (R70, R85, R86) -/

/-- A conflict taken for a claim: a HELD claim is defended, a CONTESTED or PROBING claim is lost (R85, R86). -/
def State.conflictFor (s : State) (i : SlotIx) (c : Claim) : State :=
  let counted := { c with conflictsSeen := bump16 c.conflictsSeen }
  match c.state with
  | .held =>
    let c' := { counted with
      state := .contested, timer := some (.defenceWindow (timeAfter s.clk.partTime c.cfg.defenceWindow)) }
    let s1 := s.putClaim i c c'
    let s2 := if c.cfg.announceTemplate.isSome then s1.wantClaimItem i c' .announcement else s1
    s2.raise .conflict (some i)
  | .contested | .probing => s.loseClaim i c counted
  | .lost => s

/-- A claim takes a frame in the conflict watch: it is not LOST and the frame asserts its address (R70). -/
def State.claimWatches (s : State) (bytes : List Byte) (i : SlotIx) : Option Claim :=
  match s.claimAt i with
  | some c => if c.state ≠ .lost ∧ c.assertedBy bytes = true then some c else none
  | none => none

/-- The second test (R70). -/
def State.conflictTest (s : State) (f : Frame) : Option State :=
  if s.policy.conflictWatch then
    slotIndices.findSome? fun i => (s.claimWatches f.bytes i).map fun c => s.conflictFor i c
  else none

/-! ## The claim's own frames (R88 to R90) -/

/-- A claim's item is granted: the frame its purpose names is built; an absent template gives no frame (R89). -/
def State.grantClaim (s : State) (c : Claim) (p : Purpose) : Option (List Byte) :=
  let template :=
    match p with
    | .probe => c.cfg.probeTemplate
    | .announcement => c.cfg.announceTemplate
  template.map fun t => s.build (.claim c) t []

/-- A claim's probe completes (R90). -/
def State.claimProbeSent (s : State) (i : SlotIx) : State :=
  match s.claimAt i with
  | none => s
  | some c =>
    if c.state = .probing then
      let lowered := { c with probesRemaining := c.probesRemaining - 1 }
      if s.custody.state.lent then
        s.putClaim i c { lowered with timer := some (.probeSpacing (timeAfter s.clk.partTime c.cfg.probeSpacing)) }
      else s.putClaim i c lowered
    else s

/-- A PROBING claim's probe spacing expires (R90); while the link is down it is frozen (R91). -/
def State.takeProbeSpacing (s : State) (i : SlotIx) : State :=
  match s.claimAt i with
  | none => s
  | some c =>
    match c.timer with
    | some (.probeSpacing due) =>
      s.takeIf (s.enginesRun && s.tx.linkUp && dueCome s.clk.partTime due && decide (c.state = .probing)) fun s =>
        if 0 < c.probesRemaining then
          let c' := { c with timer := none }
          (s.putClaim i c c').wantClaimItem i c' .probe
        else s.putClaim i c { c with state := .held, timer := none }
    | _ => s

/-- A CONTESTED claim's defence window expires (R87); while the link is down it is frozen (R91). -/
def State.takeDefenceWindow (s : State) (i : SlotIx) : State :=
  match s.claimAt i with
  | none => s
  | some c =>
    match c.timer with
    | some (.defenceWindow due) =>
      s.takeIf (s.enginesRun && s.tx.linkUp && dueCome s.clk.partTime due && decide (c.state = .contested)) fun s =>
        s.putClaim i c { c with state := .held, timer := none }
    | _ => s

/-! ## The line link (R91, R92) -/

/-- A claim's part of a line link drop (R91). -/
def State.dropClaimOne (s : State) (i : SlotIx) : State :=
  match s.claimAt i with
  | none => s
  | some c => if c.state = .lost then s else s.putClaim i c { c with reprobePending := true }

/-- An item of slot `i` becomes a probe where it stands (R92). -/
def asProbe (i : SlotIx) (item : OwnItem) : OwnItem :=
  match item with
  | .claim j p => if j = i then .claim j .probe else .claim j p
  | other => other

/-- A claim's due item is placed at the tail if the queue has room (R152). -/
def State.placeClaimDue (s : State) (i : SlotIx) (c : Claim) : State :=
  match c.dueItem with
  | none => s
  | some p =>
    if s.canPlace i then (s.setSlot i (some (.claim { c with dueItem := none }))).pushItem (.claim i p) else s

/-- A claim's part of the line link's return (R92): a queued item becomes a probe where it stands; otherwise the probe item,
due or newly wanted, is placed while the queue has room, or waits as item due (R88, R152). -/
def State.returnClaim (s : State) (i : SlotIx) (c : Claim) : State :=
  if c.reprobePending then
    if c.probes then
      let c' := { c with
        state := .probing, probesRemaining := c.cfg.probeCount, timer := none, reprobePending := false, dueItem := none }
      let s1 := s.putClaim i c c'
      if s1.hasItem i then s1.setTx { s1.tx with own := s1.tx.own.map (asProbe i) }
      else s1.wantClaimItem i c' .probe
    else
      let c' := { c with state := .held, timer := none, reprobePending := false }
      (s.putClaim i c c').placeClaimDue i c'
  else s.placeClaimDue i c

/-! ## The commands of the claim engine -/

/-- PROBE_SPACING_EXPIRY (R90). -/
def execProbeSpacingExpiry (i : SlotIx) (s : State) : Host.Outcome State Fault Refusal := .next (s.takeProbeSpacing i)

/-- DEFENCE_WINDOW_EXPIRY (R87). -/
def execDefenceWindowExpiry (i : SlotIx) (s : State) : Host.Outcome State Fault Refusal := .next (s.takeDefenceWindow i)

end Sys2Proof.Machine
end

