-- ==== Sys2Proof/Machine/Exchanges.lean ====
section
/-! DEFINITION. The exchange engine (Chapter 8): scheduling, replies, declines, waits, halts, the return of the link. -/

namespace Sys2Proof.Machine

/-- An exchange's request item is placed: at the tail while the link is up and the queue has room, else it waits as item
due (R133); an item already queued keeps its place (R146). -/
def State.placeExchangeItem (s : State) (i : SlotIx) (x : Exchange) : State :=
  if s.tx.linkUp && (s.hasItem i || s.ownRoom) then s.pushItem (.exchange i)
  else s.setSlot i (some (.exchange { x with itemDue := true }))

/-- An exchange's due item is placed at the tail if the queue has room (R146, R152). -/
def State.placeExchangeDue (s : State) (i : SlotIx) (x : Exchange) : State :=
  if x.itemDue && s.canPlace i then (s.setSlot i (some (.exchange { x with itemDue := false }))).pushItem (.exchange i)
  else s

/-! ## Replies and declines (R72, R136 to R140) -/

/-- An exchange is expecting a reply: AWAITING, or QUEUED for a resend (R72). -/
def Exchange.expecting (x : Exchange) : Bool :=
  decide (x.state = .awaiting) || (decide (x.state = .queued) && x.resend)

/-- A frame is long enough for every capture spec (R72). -/
def Exchange.reaches (x : Exchange) (bytes : List Byte) : Bool :=
  x.cfg.captureSpecs.all fun c => decide (c.offset + c.len ≤ bytes.length)

/-- The captures of a reply: spec i stores the number its bytes spell as value i (R136). -/
def Exchange.captured (x : Exchange) (bytes : List Byte) : Vector SeqValue 4 :=
  Vector.ofFn fun k : Fin 4 =>
    match x.cfg.captureSpecs[k.val]? with
    | some c => BitVec.ofNat 32 (natOfBytes (bytesAt bytes c.offset c.len))
    | none => x.captures.get k

/-- The next due time's delay in CAPTURED mode: floor(v × 16 × f / 256), brought into the stored range (R139). -/
def capturedDelay (v fraction minDelay maxDelay : Nat) : Nat := clamp minDelay maxDelay (v * 16 * fraction / 256)

/-- The next round is scheduled, or the exchange comes to REST (R138, R139). -/
def Exchange.scheduled (x : Exchange) (now : Time) : Exchange :=
  match x.cfg.schedule with
  | .fixed period => { x with state := .waiting, nextDue := timeAfter now period, timer := some .nextDue }
  | .captured k f minDelay maxDelay =>
    let v := x.captures.toList.getD k 0
    if v = 0xFFFFFFFF then { x with state := .rest, timer := none }
    else
      { x with
        state := .waiting
        nextDue := timeAfter now (capturedDelay v.toNat f minDelay maxDelay)
        timer := some .nextDue }

/-- A reply is accepted (R137). -/
def State.acceptReply (s : State) (i : SlotIx) (x : Exchange) (bytes : List Byte) : State :=
  let x' := { x with
    captures := x.captured bytes, replies := bump16 x.replies, itemDue := false, attempts := 0, resend := false }
  (s.putExchange i x (x'.scheduled s.clk.partTime)).withdrawItem i

/-- The condition a halt raises (R143). -/
def HaltReason.condition : HaltReason → ConditionClass
  | .failed => .exchangeFailed
  | .declined => .exchangeDeclined

/-- An exchange is halted, whole: the record and its item, the halt condition, the linked claims in ascending slot index.
`old` is the record as the taking found it, `x` as the taking has changed it so far (R143). -/
def State.haltExchange (s : State) (i : SlotIx) (old x : Exchange) (reason : HaltReason) : State :=
  let x' := { x with state := .halted, haltReason := some reason, timer := none, itemDue := false, resend := false }
  let s1 := (s.putExchange i old x').withdrawItem i
  slotIndices.foldl (State.loseLinkedClaim i) (s1.raise reason.condition (some i))

/-- What the fourth test makes of a frame at one exchange (R72). -/
inductive ReplyVerdict where
  | decline | reply | stale
  deriving DecidableEq, Repr

/-- The fourth test at one exchange; none is a frame the exchange does not claim (R72). -/
def Exchange.verdict (x : Exchange) (bytes : List Byte) : Option ReplyVerdict :=
  let passesReply := descriptorPasses x.sendCounter bytes x.cfg.reply
  if x.expecting then
    if (x.cfg.decline.map (matchesFrame bytes)).getD false then some .decline
    else if passesReply && x.reaches bytes then some .reply
    else none
  else if passesReply then some .stale
  else none

/-- The exchange engine acts on a frame it has claimed (R72, R137, R140). -/
def State.exchangeFrame (s : State) (i : SlotIx) (x : Exchange) (f : Frame) (v : ReplyVerdict) : State :=
  match v with
  | .decline => (s.offerHeld f (some (.exchangeDeclined, i))).haltExchange i x x .declined
  | .reply => s.acceptReply i x f.bytes
  | .stale => s

/-- The fourth test (R72). -/
def State.exchangeTest (s : State) (f : Frame) : Option State :=
  slotIndices.findSome? fun i =>
    match s.exchangeAt i with
    | none => none
    | some x => (x.verdict f.bytes).map fun v => s.exchangeFrame i x f v

/-! ## Scheduling and sending (R133 to R135, R141) -/

/-- An exchange's timer has come: the timer runs, its due time has come, and a reply wait is not frozen (R132). -/
def State.exchangeDue (s : State) (x : Exchange) (k : ExchangeTimer) : Bool :=
  decide (x.timer = some k) && dueCome s.clk.partTime x.nextDue && (decide (k = .nextDue) || s.tx.linkUp)

/-- A WAITING exchange's next due time comes (R133). -/
def State.takeNextDue (s : State) (i : SlotIx) : State :=
  match s.exchangeAt i with
  | none => s
  | some x =>
    s.takeIf (s.enginesRun && s.exchangeDue x .nextDue && decide (x.state = .waiting)) fun s =>
      let x' := { x with state := .queued, resend := false, timer := none }
      (s.putExchange i x x').placeExchangeItem i x'

/-- An AWAITING exchange's reply wait expires (R141). -/
def State.takeReplyWait (s : State) (i : SlotIx) : State :=
  match s.exchangeAt i with
  | none => s
  | some x =>
    s.takeIf (s.enginesRun && s.exchangeDue x .replyWait && decide (x.state = .awaiting)) fun s =>
      let tried := { x with attempts := x.attempts + 1 }
      if tried.attempts ≤ x.cfg.retryLimit then
        let x' := { tried with state := .queued, resend := true, timer := none }
        (s.putExchange i x x').placeExchangeItem i x'
      else s.haltExchange i x tried .failed

/-- An exchange's item is granted: the send counter is raised, the request is built with it, the state is AWAITING
(R134). -/
def State.grantExchange (s : State) (i : SlotIx) (x : Exchange) : State × List Byte :=
  let raised := { x with sendCounter := x.sendCounter + 1 }
  (s.putExchange i x { raised with state := .awaiting }, s.build (.exchange raised) x.cfg.requestTemplate [])

/-- The reply wait after a send: T × 2^min(a, 5) ticks (R135). -/
def replyWait (timeout attempts : Nat) : Nat := timeout * 2 ^ min attempts 5

/-- An exchange's request completes (R135). -/
def State.requestSent (s : State) (i : SlotIx) : State :=
  match s.exchangeAt i with
  | none => s
  | some x =>
    let sent := { x with sends := bump16 x.sends }
    if x.state = .awaiting ∧ s.custody.state.lent = true then
      s.putExchange i x { sent with
        timer := some .replyWait, nextDue := timeAfter s.clk.partTime (replyWait x.cfg.replyTimeout x.attempts) }
    else s.putExchange i x sent

/-! ## The return of the link and of the table (R146, R147) -/

/-- An exchange's part of the line link's return (R146). -/
def State.returnExchange (s : State) (i : SlotIx) (x : Exchange) : State :=
  if x.state = .awaiting then
    let x' := { x with state := .queued, resend := true, timer := none, itemDue := false }
    (s.putExchange i x x').placeExchangeItem i x'
  else s.placeExchangeDue i x

/-! ## The commands of the exchange engine -/

/-- EXCHANGE_NEXT_DUE (R133). -/
def execExchangeNextDue (i : SlotIx) (s : State) : Host.Outcome State Fault Refusal := .next (s.takeNextDue i)

/-- REPLY_WAIT_EXPIRY (R141). -/
def execReplyWaitExpiry (i : SlotIx) (s : State) : Host.Outcome State Fault Refusal := .next (s.takeReplyWait i)

end Sys2Proof.Machine
end

