-- ==== Sys2Proof/Machine/Responders.lean ====
section
/-! DEFINITION. The responder unit and the flood guard (Chapter 6). -/

namespace Sys2Proof.Machine

/-- The claim gate: no link, or the linked claim is HELD or CONTESTED (R100). -/
def State.gatePasses (s : State) (link : Link) : Bool :=
  match link with
  | none => true
  | some i =>
    match s.claimAt i with
    | some c => decide (c.state = .held) || decide (c.state = .contested)
    | none => false

/-- The flood guard is counting (R107). -/
def State.guardCounts (s : State) : Bool :=
  s.custody.state.lent && s.policy.floodEnable && s.guard.windowEnd.isSome

/-- A match is counted toward the window's demand (R99, R107). -/
def State.countDemand (s : State) : State :=
  if s.guardCounts then s.setGuard { s.guard with demand := bump16 s.guard.demand } else s

/-- The cases of a matching responder: claim gate, class, room, answer (R73, R99 to R102). -/
def State.respondWith (s : State) (i : SlotIx) (r : Responder) (f : Frame) : State :=
  let s1 := s.countDemand
  if s1.gatePasses r.cfg.claimLink = false then s1
  else if r.cfg.cls = .courtesy ∧ s1.guard.state = .flooded then
    s1.putResponder i r { r with answersSuppressed := bump16 r.answersSuppressed }
  else s1.answerWith i .responder (.responder r) r.cfg.answerTemplate f.bytes

/-- The fifth test (R73, R99). -/
def State.responderTest (s : State) (f : Frame) : Option State :=
  slotIndices.findSome? fun i =>
    match s.responderAt i with
    | none => none
    | some r => if matchesFrame f.bytes r.cfg.descriptor then some (s.respondWith i r f) else none

/-- A responder's answer completes (R102). -/
def State.responderSent (s : State) (i : SlotIx) : State :=
  match s.responderAt i with
  | none => s
  | some r => s.putResponder i r { r with answersSent := bump16 r.answersSent }

/-- A matching filter counts its hit and acts (R74, R103, R104). -/
def State.filterFrame (s : State) (i : SlotIx) (t : Filter) (f : Frame) : State :=
  let s1 := s.putFilter i t { t with hits := bump16 t.hits }
  match t.cfg.action with
  | .rouse => s1.holdFor f .filterHit i
  | .discard => s1

/-- The sixth test (R74, R103). -/
def State.filterTest (s : State) (f : Frame) : Option State :=
  slotIndices.findSome? fun i =>
    match s.filterAt i with
    | none => none
    | some t => if matchesFrame f.bytes t.cfg.descriptor then some (s.filterFrame i t f) else none

/-! ## The flood guard (R105 to R110) -/

/-- The guard judges a window's demand (R108). The run is compared with D + 1 by "at least", which is "equals" wherever
the stored run is at most D (log entry 10). -/
def State.judgeWindow (s : State) : State :=
  let g := s.guard
  match g.state with
  | .normal =>
    if s.policy.highMark < g.demand.toNat then
      if s.policy.debounce + 1 ≤ g.run + 1 then
        let s1 := s.setGuard { g with state := .flooded, run := 0 }
        let s2 := s1.setCond { s1.cond with report := { s1.cond.report with floodSeen := true } }
        s2.raise .flood none
      else s.setGuard { g with run := g.run + 1 }
    else s.setGuard { g with run := 0 }
  | .flooded =>
    if s.policy.lowMark < g.demand.toNat then s else s.setGuard { g with state := .normal, run := 0 }

/-- The next window starts with demand 0 (R108). -/
def State.startWindow (s : State) : State :=
  s.setGuard { s.guard with demand := 0, windowEnd := some (timeAfter s.clk.partTime s.policy.windowLength) }

/-- The window's end has come (R108). -/
def State.windowEnded (s : State) : Bool :=
  match s.guard.windowEnd with
  | some due => dueCome s.clk.partTime due
  | none => false

/-- The guard's restart at LEND success (R50, R105). -/
def State.restartGuard (s : State) : State :=
  s.setGuard
    { state := .normal, demand := 0, run := 0
      windowEnd := if s.policy.floodEnable then some (timeAfter s.clk.partTime s.policy.windowLength) else none }

/-- FLOOD_WINDOW_END (R108). -/
def execFloodWindowEnd (s : State) : Host.Outcome State Fault Refusal :=
  .next (s.takeIf (s.enginesRun && s.windowEnded) fun s => s.judgeWindow.startWindow)

end Sys2Proof.Machine
end

