-- ==== Sys2Proof/Machine/Classifier.lean ====
section
/-! DEFINITION. Reception and receive classification (Chapter 4), and the inspection slot's requests. -/

namespace Sys2Proof.Machine

/-! ## Doze on arrival (R184) -/

/-- A waking event in DOZE starts warm-up: the wake due time goes and the count is 0 (R183, R184). -/
def State.wake (s : State) : State :=
  if s.clk.state = .doze then s.setClk { s.clk with state := .warmUp, quietTicks := 0, wakeDue := none } else s

/-- What comes waits for the end of warm-up (R184). -/
def State.defer (s : State) (w : Waiting) : State := s.setClk { s.clk with waiting := s.clk.waiting ++ [w] }

/-! ## Reception (R64, R65) -/

/-- The bytes of the staging buffer in use: whole frames by their lengths, arriving frames by 1,518 each (R64). -/
def Classifier.used (c : Classifier) : Nat :=
  (c.staged.map fun f => f.bytes.length).sum + Config.maxFrame * (c.arriving.filter fun a => decide (a = .staged)).length

/-- A starting line frame finds room (R64). -/
def Classifier.hasRoom (c : Classifier) : Bool := decide (c.used + Config.maxFrame ≤ Config.stagingBytes)

/-- A line frame starts: a place is kept for it, or it is counted and discarded as it arrives (R64). -/
def State.startLineFrame (s : State) : State :=
  if s.rx.hasRoom then s.setRx { s.rx with arriving := s.rx.arriving ++ [.staged] }
  else
    (s.count (if s.clk.state = .warmUp then Counters.dozeDiscard else Counters.bad)).setRx
      { s.rx with arriving := s.rx.arriving ++ [.refused] }

/-- LINE_FRAME_START (R64, R184). -/
def execLineFrameStart (s : State) : Host.Outcome State Fault Refusal :=
  .next (s.takeIf (decide (s.clk.power = .running)) fun s => s.wake.startLineFrame)

/-- The frame that started first arrives: a staged one is judged, a refused one is gone already (R64, R65). -/
def State.lineFrameArrives (s : State) (f : Frame) : State :=
  match s.rx.arriving with
  | [] => s
  | .refused :: rest => s.setRx { s.rx with arriving := rest }
  | .staged :: rest =>
    if f.good then s.setRx { s.rx with arriving := rest, staged := s.rx.staged ++ [f] }
    else (s.count Counters.bad).setRx { s.rx with arriving := rest }

/-- LINE_FRAME_ARRIVAL: in every custody state and clock state (R65). -/
def execLineFrameArrival (bytes : List Byte) (fcs : Fcs) (s : State) : Host.Outcome State Fault Refusal :=
  .next (s.takeIf (decide (s.clk.power = .running)) fun s => s.lineFrameArrives { bytes, fcs })

/-- Frames cut off by LINK falling are bad: each kept place is freed and counted (R65). -/
def State.cutArriving (s : State) : State :=
  (s.count fun c => { c with framesBad := bump32By c.framesBad (s.rx.arriving.filter fun a => decide (a = .staged)).length }).setRx
    { s.rx with arriving := [] }

/-! ## The station path towards the MAC (R157) -/

/-- A line frame is offered to the station output: placed while STN_RDY is high and a place is free, otherwise discarded;
the answer says whether it was placed (R157). -/
def State.passToStation (s : State) (f : Frame) : State × Bool :=
  if s.pins.stnRdy = false then (s, false)
  else
    match s.stn.delivering, s.stn.waiting with
    | none, none => (s.setStn { s.stn with delivering := some (.passing f) }, true)
    | some _, none => (s.setStn { s.stn with waiting := some f }, true)
    | _, some _ => (s, false)

/-! ## The tests (R67 to R75) -/

/-- The first test: the link source address, bytes 6 to 11, equals the station address (R69). -/
def State.ownEcho (s : State) (f : Frame) : Bool :=
  decide (bytesAt f.bytes 6 6 = beBytes 6 s.table.stationAddr.toNat)

/-- The seventh test: the default disposition (R75, R79). -/
def State.defaultDisposition (s : State) (f : Frame) : State :=
  match s.policy.disposition with
  | .discard => s
  | .hold => s.offerHeld f none
  | .inspect =>
    match s.rx.sample with
    | none =>
      (s.setRx { s.rx with
        sample := some { frame := f, ordinal := s.counters.framesSeen, time := s.clk.partTime } }).raise .inspect none
    | some _ => s.count Counters.inspectDiscard

/-- Tests two to six in their order; none claims the frame where all pass it on (R67). -/
def State.claimedBy (s : State) (f : Frame) : Option State :=
  (s.conflictTest f) <|> (s.streamTest f) <|> (s.exchangeTest f) <|> (s.responderTest f) <|> (s.filterTest f)

/-- A frame is classified in one taking (R67). -/
def State.classify (s : State) (f : Frame) : State :=
  let s1 := s.count Counters.seen
  if s1.ownEcho f then s1
  else
    match s1.claimedBy f with
    | some s2 => s2
    | none => s1.defaultDisposition f

/-- Where a good frame goes, by the custody at its taking (R66). -/
def State.takeFrame (s : State) (f : Frame) : State :=
  match s.custody.state with
  | .home =>
    let (s1, placed) := s.passToStation f
    if placed then s1.trackInbound f.bytes else s1
  | .checking => (s.passToStation f).1
  | .proxy | .roused => s.classify f
  | .quiesce | .drain => if s.custody.discard then s.count (Counters.heldDiscard 1) else s.offerHeld f none

/-- FRAME_TAKING: the frame that arrived first is taken and its space freed (R64, R66). -/
def execFrameTaking (s : State) : Host.Outcome State Fault Refusal :=
  .next (s.takeIf s.canTake fun s =>
    match s.rx.staged with
    | [] => s
    | f :: rest => (s.setRx { s.rx with staged := rest }).takeFrame f)

/-! ## The inspection slot's requests (R80, R81) -/

/-- TAKE_SAMPLE's taking (R80). -/
def State.serveTakeSample (s : State) (p : Port) (payload : List Byte) : State × Response :=
  if p = .system then (s, .bare .notPermitted)
  else if payload.length ≠ 4 then (s, .bare .malformed)
  else
    let offset := natOfBytes (payload.take 2)
    let n := natOfBytes (payload.drop 2)
    if n = 0 ∨ n > 256 ∨ offset > 1517 then (s, .bare .outOfRange)
    else
      match s.rx.sample with
      | none => (s, { result := .done, payload := [0] ++ beBytes 4 0 ++ beBytes 2 0 ++ beBytes 4 0 })
      | some x =>
        (s, { result := .done
              payload := [1] ++ beBytes 4 x.ordinal.toNat ++ beBytes 2 x.frame.bytes.length ++ beBytes 4 x.time.toNat ++
                bytesAt x.frame.bytes offset n })

/-- RELEASE_SAMPLE's taking (R81). -/
def State.serveReleaseSample (s : State) (p : Port) (payload : List Byte) : State × Response :=
  if p = .system then (s, .bare .notPermitted)
  else if payload.length ≠ 8 then (s, .bare .malformed)
  else
    match s.rx.sample with
    | none => (s, { result := .done, payload := [0] })
    | some x =>
      if x.ordinal.toNat = natOfBytes (payload.take 4) ∧ x.time.toNat = natOfBytes (payload.drop 4) then
        (s.setRx { s.rx with sample := none }, { result := .done, payload := [1] })
      else (s, { result := .done, payload := [0] })

end Sys2Proof.Machine
end

