-- ==== Sys2Proof/Machine/Custody.lean ====
section
/-! DEFINITION. The custody unit (Chapter 3): the LEND check, LEND success, the reclaim, discard mode, the return. -/

namespace Sys2Proof.Machine

/-! ## The LEND check (R31 to R33, R46 to R48) -/

/-- The reasons of a failed check (R48). -/
inductive CheckReason where
  | poolRange | chainLength | fieldRange | noSource | linkKind | duplicateClaim | noStationAddress
  deriving DecidableEq, Repr

/-- The reason codes (R48). -/
def CheckReason.code : CheckReason → Byte
  | .poolRange => 1
  | .chainLength => 2
  | .fieldRange => 3
  | .noSource => 4
  | .linkKind => 5
  | .duplicateClaim => 6
  | .noStationAddress => 7

/-- A segment's last byte lies above the pool's end (R31). -/
def Segment.leavesPool (g : Segment) : Bool := decide (Config.poolBytes < Config.blockBytes * g.startBlock + g.len)

/-- POOL_RANGE (R31). -/
def Template.failsPoolRange (t : Template) : Bool := t.segments.any Segment.leavesPool

/-- The end flags of a chain: clear before the last segment and set on it (R31). -/
def endFlagsSound : List Segment → Bool
  | [] => false
  | [g] => g.endFlag
  | g :: rest => !g.endFlag && endFlagsSound rest

/-- CHAIN_LENGTH (R31). -/
def Template.failsChainLength (t : Template) : Bool :=
  !endFlagsSound t.segments || decide ((t.segments.map Segment.len).sum ≠ t.totalLen)

/-- A checksum spec alone fails FIELD_RANGE in a template of length n (R32). -/
def ChecksumSpec.fails (n : Nat) (c : ChecksumSpec) : Bool :=
  let e := c.spanEnd.getD n
  decide (n ≤ c.spanStart) ||
    (match c.spanEnd with
     | some e' => decide (n < e') || decide (e' ≤ c.spanStart)
     | none => false) ||
    decide (c.fieldOffset < c.spanStart) || decide (e < c.fieldOffset + 2) ||
    decide ((c.fieldOffset - c.spanStart) % 2 = 1)

/-- A byte offset lies inside a spec's span. -/
def ChecksumSpec.covers (n : Nat) (c : ChecksumSpec) (o : Nat) : Bool :=
  decide (c.spanStart ≤ o) && decide (o < c.spanEnd.getD n)

/-- The second of two specs writes into the first's span (R32). -/
def checksumsOverlap (n : Nat) : List ChecksumSpec → Bool
  | [a, b] => a.covers n b.fieldOffset || a.covers n (b.fieldOffset + 1)
  | _ => false

/-- FIELD_RANGE (R32). -/
def Template.failsFieldRange (t : Template) : Bool :=
  t.substs.any (fun u => decide (t.totalLen < u.offset + u.len)) ||
    t.checksums.any (ChecksumSpec.fails t.totalLen) || checksumsOverlap t.totalLen t.checksums

/-- A source has a value in the record that holds the template (R33). -/
def sourceSupplied (owner : Record) (source : Source) : Bool :=
  match source with
  | .rx _ | .stationAddr | .time => true
  | .claimAddr =>
    match owner with
    | .claim _ => true
    | .responder r => r.cfg.claimLink.isSome
    | .filter _ => false
    | .stream t => t.cfg.claimLink.isSome
    | .exchange x => x.cfg.claimLink.isSome
  | .seqOut | .seqOutLess1 | .seqIn =>
    match owner with
    | .stream _ => true
    | _ => false
  | .capture _ | .counter =>
    match owner with
    | .exchange _ => true
    | _ => false

/-- NO_SOURCE (R33). -/
def Template.failsNoSource (owner : Record) (t : Template) : Bool :=
  t.substs.any fun u => !sourceSupplied owner u.source

/-- A template's reason: the first of its four tests to fail (R33). -/
def Template.reason (owner : Record) (t : Template) : Option CheckReason :=
  if t.failsPoolRange then some .poolRange
  else if t.failsChainLength then some .chainLength
  else if t.failsFieldRange then some .fieldRange
  else if t.failsNoSource owner then some .noSource
  else none

/-- The templates of a record in image order; an absent one is not tested (R47). -/
def Record.templates : Record → List Template
  | .claim c => c.cfg.probeTemplate.toList ++ c.cfg.announceTemplate.toList
  | .responder r => [r.cfg.answerTemplate]
  | .filter _ => []
  | .stream t => [t.cfg.probeTemplate, t.cfg.replyTemplate]
  | .exchange x => [x.cfg.requestTemplate]

/-- A present claim link names a slot that holds a CLAIM (R47). -/
def State.claimLinkSound (s : State) (link : Link) : Bool :=
  match link with
  | none => true
  | some i => (s.claimAt i).isSome

/-- A present exchange link names a slot that holds an EXCHANGE (R47). -/
def State.exchangeLinkSound (s : State) (link : Link) : Bool :=
  match link with
  | none => true
  | some i => (s.exchangeAt i).isSome

/-- The links of a record name slots of the right kind (R47). -/
def State.linksSound (s : State) : Record → Bool
  | .claim c => s.exchangeLinkSound c.cfg.exchangeLink
  | .responder r => s.claimLinkSound r.cfg.claimLink
  | .filter _ => true
  | .stream t => s.claimLinkSound t.cfg.claimLink
  | .exchange x => s.claimLinkSound x.cfg.claimLink

/-- A CLAIM at a higher slot index has the same address (R7, R47). -/
def State.duplicateAbove (s : State) (i : SlotIx) (c : Claim) : Bool :=
  slotIndices.any fun j =>
    decide (i < j) &&
      (match s.claimAt j with
       | some d => decide (d.cfg.address = c.cfg.address)
       | none => false)

/-- The record is a duplicated CLAIM (R47). -/
def State.duplicated (s : State) (i : SlotIx) : Record → Bool
  | .claim c => s.duplicateAbove i c
  | _ => false

/-- A slot step: the first failing test gives the slot's reason; an empty slot passes (R46, R47). -/
def State.slotReason (s : State) (i : SlotIx) : Option CheckReason :=
  match s.slot i with
  | none => none
  | some r =>
    match r.templates.findSome? (Template.reason r) with
    | some reason => some reason
    | none =>
      if s.linksSound r = false then some .linkKind
      else if s.duplicated i r then some .duplicateClaim
      else none

/-- The check fails (R48); the slot byte is 0xFF for the station-address step. -/
def State.checkFailed (s : State) (slotByte : Byte) (reason : CheckReason) : State :=
  (s.setCustody { s.custody with state := .home, cursor := none }).respond .system
    { result := .checkFailed, payload := [slotByte, reason.code] }

/-! ## LEND success (R49, R50) -/

/-- A record as LEND success starts it (R50). -/
def startRecord (now : Time) (linkUp : Bool) : Record → Record
  | .claim c =>
    if linkUp then
      if c.probes then
        .claim { Claim.fresh c.cfg with state := .probing, probesRemaining := c.cfg.probeCount }
      else .claim (Claim.fresh c.cfg)
    else .claim { Claim.fresh c.cfg with reprobePending := true }
  | .responder r => .responder (Responder.fresh r.cfg)
  | .filter f => .filter (Filter.fresh f.cfg)
  | .stream t =>
    .stream { Stream.fresh t.cfg none with
      ourSeq := t.ourSeq, peerSeq := t.peerSeq, valuesValid := t.valuesValid
      nextDue := timeAfter now t.cfg.period, timer := some .period }
  | .exchange x =>
    .exchange { Exchange.fresh x.cfg x.captures x.sendCounter with
      nextDue := timeAfter now x.cfg.firstDelay, timer := some .nextDue }

/-- Every record is started afresh (R50). -/
def State.startRecords (s : State) : State :=
  s.setTable { s.table with slots := s.table.slots.map (Option.map (startRecord s.clk.partTime s.tx.linkUp)) }

/-- A PROBING claim's first probe is queued (R83). -/
def State.firstProbe (s : State) (i : SlotIx) : State :=
  match s.claimAt i with
  | some c => if c.state = .probing then s.wantClaimItem i c .probe else s
  | none => s

/-- LEND success, in one taking (R49, R50, R83, R176). The transmitter is idle, as the table of R164 gives (log entry 14). -/
def State.lendSuccess (s : State) : State :=
  let s1 := s.setCustody { s.custody with state := .proxy, cursor := none, discard := false }
  let s2 := s1.setCond
    { changes := []
      report := { WakeReport.reset with linkSteady := s.tx.linkUp }
      notices := 0
      lendCount := bump32 s.cond.lendCount }
  let s3 := (s2.setCounters Counters.zero).setRx { s2.rx with sample := none }
  let s4 := (s3.setHeld { entries := [], fullLatch := false }).setTx { s3.tx with carried := none, answers := [], own := [] }
  let s5 := slotIndices.foldl State.firstProbe s4.startRecords
  s5.restartGuard.respond .system (.bare .done)

/-- One step of the check: the station address, or the slot under the cursor; slot 127 passing ends it (R46). -/
def State.checkStep (s : State) : State :=
  match s.custody.cursor with
  | none => s
  | some .station =>
    if s.table.stationAddr = 0 then s.checkFailed 0xFF .noStationAddress
    else s.setCustody { s.custody with cursor := some (.slot 0) }
  | some (.slot i) =>
    match s.slotReason i with
    | some reason => s.checkFailed (BitVec.ofNat 8 i.val) reason
    | none =>
      if h : i.val + 1 < 128 then s.setCustody { s.custody with cursor := some (.slot ⟨i.val + 1, h⟩) }
      else s.lendSuccess

/-- LEND_CHECK_STEP (R46). -/
def execLendCheckStep (s : State) : Host.Outcome State Fault Refusal :=
  .next (s.takeIf (s.canTake && decide (s.custody.state = .checking)) State.checkStep)

/-! ## The return (R56 to R59) -/

/-- HOME is reached from DRAIN (R59). -/
def State.reachHome (s : State) : State :=
  s.setCustody { s.custody with state := .home, cursor := none, discard := false, wake := false }

/-- DRAIN ends when the held queue is empty; otherwise its head is copied out (R58, R163). -/
def State.drainOn (s : State) : State :=
  match s.held.entries with
  | [] => s.reachHome
  | _ :: _ => s.feedStation

/-- An answer or own-traffic frame is on the transmitter. -/
def Transmitter.carriesOwn (t : Transmitter) : Bool :=
  match t.carried with
  | some (.answer _ _ _) | some (.own _ _) => true
  | some (.station _) | none => false

/-- QUIESCE ends when the answer queue is empty and no answer or own-traffic frame is on the transmitter (R57). -/
def State.endQuiesce (s : State) : State :=
  if s.custody.state = .quiesce ∧ s.tx.answers = [] ∧ s.tx.carriesOwn = false then
    (s.setCustody { s.custody with state := .drain }).drainOn
  else s

/-- The delivery under way is no longer the queue's (R56, R163). -/
def StationPath.detached (p : StationPath) : StationPath :=
  match p.delivering with
  | some (.heldHead f) => { p with delivering := some (.passing f) }
  | _ => p

/-- Discard mode is taken: the flag, and the held queue emptied with each frame counted (R56). -/
def State.takeDiscard (s : State) : State :=
  let s1 := (s.setCustody { s.custody with discard := true }).discardHeld
  s1.setStn s1.stn.detached

/-! ## The reclaim (R55) -/

/-- A record's part of a reclaim: every timer stops, items and due flags go, a pending exchange becomes WAITING with
open-at-return set and is reported (R55, R97, R127, R147, R148). -/
def State.reclaimOne (s : State) (i : SlotIx) : State :=
  match s.slot i with
  | some (.claim c) => s.setSlot i (some (.claim { c with timer := none, dueItem := none }))
  | some (.stream t) => s.setSlot i (some (.stream { t with timer := none, itemDue := false }))
  | some (.exchange x) =>
    let stopped := { x with timer := none, itemDue := false, resend := false }
    if x.state = .queued ∨ x.state = .awaiting then
      s.putExchange i x { stopped with state := .waiting, openAtReturn := true } markOpenAtReturn
    else s.setSlot i (some (.exchange stopped))
  | some (.responder _) | some (.filter _) | none => s

/-- The reclaim but for the test of QUIESCE's end: QUIESCE, the own-traffic queue emptied, the records' parts, the flood
window stopped, the counter snapshot copied (R55, R110, R168). The exchanges it reports join the change list in ascending slot
index (DESIGN CHOICE, log entry 32). -/
def State.takeReclaim (s : State) : State :=
  let s1 := (s.setCustody { s.custody with state := .quiesce }).setTx { s.tx with own := [] }
  let s2 := slotIndices.foldl State.reclaimOne s1
  let s3 := s2.setGuard { s2.guard with windowEnd := none }
  s3.setCond { s3.cond with report := { s3.cond.report with snapshot := s3.counters } }

/-! ## The requests of custody -/

/-- LEND's taking: no response until the check ends (R45). -/
def State.serveLend (s : State) (p : Port) (payload : List Byte) : State × Option Response :=
  if p = .platform then (s, some (.bare .notPermitted))
  else if s.custody.state ≠ .home then (s, some (.bare .wrongState))
  else if payload ≠ [] then (s, some (.bare .malformed))
  else (s.setCustody { s.custody with state := .checking, cursor := some .station }, none)

/-- RECLAIM's taking (R53). In CHECKING the port unit refuses it BUSY before it comes here. -/
def State.serveReclaim (s : State) (p : Port) (payload : List Byte) : State × Response :=
  if p = .platform then (s, .bare .notPermitted)
  else
    match s.custody.state with
    | .home => (s, .bare .wrongState)
    | .quiesce | .drain | .checking => (s, .bare .busy)
    | .proxy | .roused =>
      if payload ≠ [] then (s, .bare .malformed) else (s.takeReclaim.endQuiesce, .bare .accepted)

/-- A RECALL that passed its tests, by custody state (R54, R56); `discard` is its option. -/
def State.takeRecall (s : State) (discard : Bool) : State × Response :=
  match s.custody.state with
  | .home => (s, .bare .wrongState)
  | .checking =>
    ((s.setCustody { s.custody with state := .home, cursor := none }).respond .system (.bare .cancelled), .bare .done)
  | .proxy | .roused =>
    let s1 := s.takeReclaim
    ((if discard then s1.takeDiscard else s1).endQuiesce, .bare .accepted)
  | .quiesce => (if discard then s.takeDiscard else s, .bare .done)
  | .drain => (if discard then s.takeDiscard.drainOn else s, .bare .done)

/-- RECALL's taking (R54). -/
def State.serveRecall (s : State) (p : Port) (payload : List Byte) : State × Response :=
  if p = .system then (s, .bare .notPermitted)
  else if s.custody.state = .home then (s, .bare .wrongState)
  else
    match payload with
    | [option] =>
      if option = 0 then s.takeRecall false
      else if option = 1 then s.takeRecall true
      else (s, .bare .malformed)
    | _ => (s, .bare .malformed)

end Sys2Proof.Machine
end

