-- ==== Sys2Proof/Machine/Transmitter.lean ====
section
/-! DEFINITION. The line transmitter, its arbiter, the station path and the line link (Chapter 9). -/

namespace Sys2Proof.Machine

/-! ## The arbiter (R153, R154) -/

/-- The part's class waits. -/
def Transmitter.partWaits (t : Transmitter) : Bool := decide (t.answers ≠ []) || decide (t.own ≠ [])

/-- The class a grant goes to: the next class if it has a frame waiting, otherwise the other; none if neither waits
(R153). -/
def grantClass (next : TxClass) (stationWaits partWaits : Bool) : Option TxClass :=
  match next with
  | .station => if stationWaits then some .station else if partWaits then some .part else none
  | .part => if partWaits then some .part else if stationWaits then some .station else none

/-- The other class. -/
def TxClass.other : TxClass → TxClass
  | .station => .part
  | .part => .station

/-- The transmitter carries a frame. -/
def State.carry (s : State) (c : Carried) : State := s.setTx { s.tx with carried := some c }

/-- The owning engine's grant work and the frame it has built; none for an item whose record is not there (R154). -/
def State.grantWork (s : State) (item : OwnItem) : State × Option (List Byte) :=
  match item with
  | .claim i p =>
    match s.claimAt i with
    | some c => (s, s.grantClaim c p)
    | none => (s, none)
  | .stream i =>
    match s.streamAt i with
    | some t => let (s', bytes) := s.grantStream i t; (s', some bytes)
    | none => (s, none)
  | .exchange i =>
    match s.exchangeAt i with
    | some x => let (s', bytes) := s.grantExchange i x; (s', some bytes)
    | none => (s, none)

/-- An own-traffic item is granted: it leaves the queue, its frame is built and carried (R42, R154). -/
def State.grantOwn (s : State) : State :=
  match s.tx.own with
  | [] => s
  | item :: rest =>
    let (s1, frame) := (s.setTx { s.tx with own := rest }).grantWork item
    match frame with
    | some bytes => s1.carry (.own item (Frame.made bytes))
    | none => s1

/-- A grant to the part's class: the answer queue's head, else the own-traffic queue's (R154). -/
def State.grantPart (s : State) : State :=
  match s.tx.answers with
  | a :: rest => (s.setTx { s.tx with answers := rest }).carry (.answer a.slot a.origin (Frame.made a.bytes))
  | [] => s.grantOwn

/-- A grant to the station class: the station buffer's head, with the FCS the MAC sent (R154). -/
def State.grantStation (s : State) : State :=
  match s.stn.buffer with
  | f :: rest => (s.setStn { s.stn with buffer := rest }).carry (.station f)
  | [] => s

/-- A grant to a class; next class is then the class not served (R153). -/
def State.grantTo (s : State) (c : TxClass) : State :=
  let s1 := s.setTx { s.tx with nextClass := c.other }
  match c with
  | .station => s1.grantStation
  | .part => s1.grantPart

/-- The arbiter makes a grant where the transmitter is idle, the link up, and a frame waits (R153). -/
def State.arbitrate (s : State) : State :=
  s.takeIf (s.tx.linkUp && s.tx.carried.isNone) fun s =>
    match grantClass s.tx.nextClass (decide (s.stn.buffer ≠ [])) s.tx.partWaits with
    | some c => s.grantTo c
    | none => s

/-- GRANT: a taking of the arbiter (R153). -/
def execGrant (s : State) : Host.Outcome State Fault Refusal := .next (s.takeIf s.canTake State.arbitrate)

/-! ## Completion (R155) -/

/-- The owner of a carried frame is told of its completion (R155). -/
def State.frameSent (s : State) (c : Carried) : State :=
  match c with
  | .station _ => s
  | .answer i .responder _ => (s.count Counters.sent).responderSent i
  | .answer i .stream _ => (s.count Counters.sent).streamReplySent i
  | .own (.claim i .probe) _ => s.claimProbeSent i
  | .own (.claim _ .announcement) _ => s
  | .own (.stream i) _ => s.streamProbeSent i
  | .own (.exchange i) _ => s.requestSent i

/-- TRANSMIT_COMPLETE: the transmitter becomes idle, the owner is told, QUIESCE's end is tested (R57, R155). -/
def execTransmitComplete (s : State) : Host.Outcome State Fault Refusal :=
  .next (s.takeIf s.canTake fun s =>
    match s.tx.carried with
    | none => s
    | some c => ((s.setTx { s.tx with carried := none }).frameSent c).endQuiesce)

/-! ## The line link (R158 to R160) -/

/-- An own-traffic frame's abort: it is re-queued at the head where its record still stands as the grant left it and has no
other item queued or due; otherwise it is discarded (R159). -/
def State.requeueOwn (s : State) (item : OwnItem) : State :=
  if s.custody.state.lent = false ∨ s.hasItem item.slot = true then s
  else
    let atHead := fun (s : State) => s.setTx { s.tx with own := item :: s.tx.own }
    match item with
    | .claim i _ =>
      match s.claimAt i with
      | some c => if c.state ≠ .lost ∧ c.dueItem = none then atHead s else s
      | none => s
    | .stream i =>
      match s.streamAt i with
      | some t => if t.state = .outstanding ∧ t.itemDue = false then atHead s else s
      | none => s
    | .exchange i =>
      match s.exchangeAt i with
      | some x =>
        if x.state = .awaiting ∧ x.itemDue = false then atHead (s.putExchange i x { x with state := .queued }) else s
      | none => s

/-- The carried frame is aborted, by its class (R159). -/
def State.abortCarried (s : State) : State :=
  match s.tx.carried with
  | none => s
  | some c =>
    let s1 := s.setTx { s.tx with carried := none }
    match c with
    | .station _ => s1
    | .answer _ _ _ => s1.count (Counters.dropped 1)
    | .own item _ => s1.requeueOwn item

/-- A line link drop, by its steps (R158). The claims it marks for reprobing join the change list in ascending slot index
(DESIGN CHOICE, log entry 32). -/
def State.takeLinkDrop (s : State) : State :=
  if s.tx.linkUp then
    let s1 := (s.setTx { s.tx with linkUp := false }).abortCarried
    let s2 := (s1.count (Counters.dropped s1.tx.answers.length)).setTx { s1.tx with answers := [] }
    let s3 := s2.setStn { s2.stn with arriving := [], untaken := [], buffer := [] }
    let s4 := if s3.custody.state.lent then slotIndices.foldl State.dropClaimOne s3 else s3
    let s5 := s4.setCond { s4.cond with report := { s4.cond.report with linkSteady := false } }
    let s6 := if s5.custody.state.lent then s5.raise .linkDown none else s5
    s6.endQuiesce
  else s

/-- A slot's part of the line link's return (R92, R126, R146, R152). -/
def State.returnOne (s : State) (i : SlotIx) : State :=
  match s.slot i with
  | some (.claim c) => s.returnClaim i c
  | some (.stream t) => s.returnStream i t
  | some (.exchange x) => s.returnExchange i x
  | some (.responder _) | some (.filter _) | none => s

/-- A line link return, by its steps: the state, the engines' placements, the arbiter's grant (R160). Where the grant serves an
exchange that the same taking has brought from AWAITING to QUEUED, both changes of state are reported and the mark is state, not
counters-only (DESIGN CHOICE, log entry 33). -/
def State.takeLinkReturn (s : State) : State :=
  if s.tx.linkUp then s
  else
    let s1 := s.setTx { s.tx with linkUp := true }
    (if s1.custody.state.lent then slotIndices.foldl State.returnOne s1 else s1).arbitrate

/-- What comes is taken now, or waits for the end of warm-up (R184). -/
def State.takeOrDefer (s : State) (w : Waiting) (take : State → State) : State :=
  if s.clk.state = .active then take s else s.defer w

/-- LINE_LINK_DROP: LINK falls, cutting off the frames on their way in; the drop is taken (R65, R158, R184). -/
def execLineLinkDrop (s : State) : Host.Outcome State Fault Refusal :=
  .next (s.takeIf s.pins.link fun s =>
    let s1 := s.setPins { s.pins with link := false }
    s1.takeIf (decide (s1.clk.power = .running)) fun s => s.cutArriving.wake.takeOrDefer .linkDrop State.takeLinkDrop)

/-- LINE_LINK_RETURN: LINK rises; the return is taken (R160, R184). -/
def execLineLinkReturn (s : State) : Host.Outcome State Fault Refusal :=
  .next (s.takeIf (!s.pins.link) fun s =>
    let s1 := s.setPins { s.pins with link := true }
    s1.takeIf (decide (s1.clk.power = .running)) fun s => s.wake.takeOrDefer .linkReturn State.takeLinkReturn)

/-! ## Due items (R152) -/

/-- A slot's due item is placed at the tail if the queue has room. -/
def State.placeDueOne (s : State) (i : SlotIx) : State :=
  match s.slot i with
  | some (.claim c) => s.placeClaimDue i c
  | some (.stream t) => s.placeStreamDue i t
  | some (.exchange x) => s.placeExchangeDue i x
  | some (.responder _) | some (.filter _) | none => s

/-- DUE_ITEM_PLACEMENT: with the link up, in ascending slot index, as long as there is room (R152). -/
def execDueItemPlacement (s : State) : Host.Outcome State Fault Refusal :=
  .next (s.takeIf (s.enginesRun && s.tx.linkUp) fun s => slotIndices.foldl State.placeDueOne s)

/-! ## The station path (R156, R157, R163) -/

/-- Places of the station buffer in use: whole frames and arriving ones. -/
def StationPath.used (p : StationPath) : Nat :=
  p.buffer.length + p.untaken.length + (p.arriving.filter fun a => decide (a = .staged)).length

/-- STATION_FRAME_START: the frame is taken into a free place while the link is up, else it is discarded (R156, R184). The line
link state is tested at the frame's start alone (DESIGN CHOICE, log entry 35). -/
def execStationFrameStart (s : State) : Host.Outcome State Fault Refusal :=
  .next (s.takeIf (decide (s.clk.power = .running)) fun s =>
    let s1 := s.wake
    s1.setStn { s1.stn with
      arriving := s1.stn.arriving ++
        [if s1.tx.linkUp && decide (s1.stn.used < Config.stationPlaces) then .staged else .refused] })

/-- What custody does with a station frame taken whole (R124, R128, R156). -/
def State.stationTests (s : State) (f : Frame) : State :=
  match s.custody.state with
  | .home => s.trackOutbound f.bytes
  | .checking | .quiesce | .drain => s
  | .proxy | .roused => s.takeover f.bytes

/-- A good station frame is tested and joins the station class (R156). -/
def State.takeStationFrame (s : State) (f : Frame) : State :=
  let s1 := s.stationTests f
  s1.setStn { s1.stn with buffer := s1.stn.buffer ++ [f] }

/-- The good station frame that has waited longest for the end of warm-up is taken (R156, R184). -/
def State.takeUntaken (s : State) : State :=
  match s.stn.untaken with
  | [] => s
  | f :: rest => (s.setStn { s.stn with untaken := rest }).takeStationFrame f

/-- A good station frame stands in the station buffer until its taking after warm-up (R184). -/
def State.deferStationFrame (s : State) (f : Frame) : State :=
  (s.setStn { s.stn with untaken := s.stn.untaken ++ [f] }).defer .stationFrame

/-- The station frame that started first ends: a bad one is discarded in every clock state, a good one is taken, or waits in
the station buffer for its taking after warm-up (R156, R184). -/
def State.stationFrameEnds (s : State) (f : Frame) : State :=
  match s.stn.arriving with
  | [] => s
  | a :: rest =>
    let s1 := s.setStn { s.stn with arriving := rest }
    if a = .staged ∧ f.good = true then
      if s1.clk.state = .active then s1.takeStationFrame f else s1.deferStationFrame f
    else s1

/-- STATION_FRAME_TAKING (R156, R184). -/
def execStationFrameTaking (bytes : List Byte) (fcs : Fcs) (s : State) : Host.Outcome State Fault Refusal :=
  .next (s.takeIf (decide (s.clk.power = .running)) fun s => s.stationFrameEnds { bytes, fcs })

/-- STN_RDY's change is taken: a rise lets the held head be copied out in DRAIN, a fall discards a waiting pass-through
frame (R58, R157). -/
def State.takeStnRdy (high : Bool) (s : State) : State :=
  if high then s.feedStation else s.setStn { s.stn with waiting := none }

/-- STN_RDY_CHANGE (R157, R184). -/
def execStnRdyChange (high : Bool) (s : State) : Host.Outcome State Fault Refusal :=
  .next (s.takeIf (decide (s.pins.stnRdy ≠ high)) fun s =>
    let s1 := s.setPins { s.pins with stnRdy := high }
    s1.takeIf (decide (s1.clk.power = .running)) fun s => s.takeOrDefer (.stnRdy high) (State.takeStnRdy high))

/-- The place freed by a delivery's end takes the waiting frame, which is discarded while STN_RDY is low (R157). -/
def State.nextPassing (s : State) : State :=
  match s.stn.waiting with
  | none => s.setStn { s.stn with delivering := none }
  | some f =>
    s.setStn { s.stn with delivering := if s.pins.stnRdy then some (.passing f) else none, waiting := none }

/-- A delivery to the station ends. A held head is removed from its queue, the full latch is cleared, and DRAIN goes on or
ends (R58, R162, R163). -/
def State.takeDeliveryEnd (s : State) : State :=
  match s.stn.delivering with
  | none => s
  | some (.passing _) => s.nextPassing.feedStation
  | some (.heldHead _) =>
    let s1 := s.nextPassing
    if s1.custody.state = .drain then
      (s1.setHeld { entries := s1.held.entries.tail, fullLatch := false }).drainOn
    else s1

/-- DELIVERY_END (R163, R184). -/
def execDeliveryEnd (s : State) : Host.Outcome State Fault Refusal :=
  .next (s.takeIf (decide (s.clk.power = .running)) fun s => s.takeOrDefer .deliveryEnd State.takeDeliveryEnd)

end Sys2Proof.Machine
end

