-- ==== Sys2Proof/Machine/Requests.lean ====
section
/-! DEFINITION. How a request comes in on a port, is handed to its owner and is answered (R180, R181, R184, R185), and the
nineteen request commands with UNKNOWN_REQUEST. -/

namespace Sys2Proof.Machine

/-- An owner that answers in the request's own taking. -/
def answered (x : State × Response) : State × Option Response := (x.1, some x.2)

/-- A request's owner takes it; no response yet is a request answered later (R181). -/
def State.serve (s : State) (p : Port) (kind : RequestKind) (payload : List Byte) : State × Option Response :=
  match kind with
  | .putSlot => answered (s.servePutSlot p payload)
  | .getSlot => answered (s.serveGetSlot p payload)
  | .clearSlot => answered (s.serveClearSlot p payload)
  | .poolWrite => answered (s.servePoolWrite p payload)
  | .poolRead => answered (s.servePoolRead p payload)
  | .lend => s.serveLend p payload
  | .reclaim => answered (s.serveReclaim p payload)
  | .recall => answered (s.serveRecall p payload)
  | .setPolicy => answered (s.serveSetPolicy p payload)
  | .getPolicy => answered (s.serveGetPolicy p payload)
  | .readStatus => answered (s.serveReadStatus p payload)
  | .readChanges => answered (s.serveReadChanges p payload)
  | .readReport => answered (s.serveReadReport p payload)
  | .takeSample => answered (s.serveTakeSample p payload)
  | .releaseSample => answered (s.serveReleaseSample p payload)
  | .storeRead => answered (s.serveStoreRead p payload)
  | .storeErase => s.serveStoreErase p payload
  | .storeProgram => s.serveStoreProgram p payload
  | .softReset => s.serveSoftReset p payload

/-- The requests handled while a profile load runs (R185). -/
def handledDuringLoad : RequestKind → Bool
  | .getSlot | .poolRead | .getPolicy | .readStatus | .readChanges | .readReport | .takeSample | .releaseSample
  | .storeRead => true
  | .putSlot | .clearSlot | .poolWrite | .lend | .reclaim | .recall | .setPolicy | .storeErase | .storeProgram
  | .softReset => false

/-- A request is taken: refused BUSY while a profile load runs and its kind is not handled then (R185), otherwise served,
and its response placed. -/
def State.takeRequest (s : State) (p : Port) (kind : RequestKind) (payload : List Byte) : State :=
  if s.store.load.isSome ∧ handledDuringLoad kind = false then s.respond p (.bare .busy)
  else
    match s.serve p kind payload with
    | (s1, some r) => s1.respond p r
    | (s1, none) => s1

/-- A request meets a WORKING slot: the note is set to BUSY and the earlier request continues (R181). -/
def State.noteBusy (s : State) (p : Port) : State := s.setPort p { s.port p with note := true }

/-- A message refused by the framing tests (R180, R181). -/
def State.receiveMalformed (s : State) (p : Port) : State :=
  if s.inProgress p then s.noteBusy p else s.wake.respond p (.bare .malformed)

/-- A request whose framing is complete comes in on a port: refused BUSY by a WORKING slot, otherwise the slot is WORKING
and the request is taken now, or after warm-up (R181, R184). -/
def State.receiveFramed (s : State) (p : Port) (kind : RequestKind) (payload : List Byte) : State :=
  if s.inProgress p then s.noteBusy p
  else
    (s.setPort p { s.port p with slot := .working }).wake.takeOrDefer (.request p kind payload) fun s =>
      s.takeRequest p kind payload

/-- A request comes in on a port; the front ends ignore their lines while a reset is held, and a declared length above
1,024 is refused (R180, R185). -/
def State.receive (s : State) (p : Port) (kind : RequestKind) (payload : List Byte) : State :=
  s.takeIf (decide (s.clk.power = .running)) fun s =>
    let s1 := s.shiftHeldOut p
    if Config.maxPayload < payload.length then s1.receiveMalformed p else s1.receiveFramed p kind payload

/-- A message's bytes come in on a port and are framed (R180). -/
def State.receiveMessage (s : State) (p : Port) (message : List Byte) : State :=
  match frameMessage p message with
  | .noRequest => s.takeIf (decide (s.clk.power = .running)) fun s => s.shiftHeldOut p
  | .malformed => s.takeIf (decide (s.clk.power = .running)) fun s => (s.shiftHeldOut p).receiveMalformed p
  | .request kind payload => s.receive p kind payload

/-- PUT_SLOT (R15, R18). -/
def execPutSlot (p : Port) (payload : List Byte) (s : State) : Host.Outcome State Fault Refusal :=
  .next (s.receive p .putSlot payload)

/-- GET_SLOT (R19). -/
def execGetSlot (p : Port) (payload : List Byte) (s : State) : Host.Outcome State Fault Refusal :=
  .next (s.receive p .getSlot payload)

/-- CLEAR_SLOT (R20). -/
def execClearSlot (p : Port) (payload : List Byte) (s : State) : Host.Outcome State Fault Refusal :=
  .next (s.receive p .clearSlot payload)

/-- POOL_WRITE (R26). -/
def execPoolWrite (p : Port) (payload : List Byte) (s : State) : Host.Outcome State Fault Refusal :=
  .next (s.receive p .poolWrite payload)

/-- POOL_READ (R27). -/
def execPoolRead (p : Port) (payload : List Byte) (s : State) : Host.Outcome State Fault Refusal :=
  .next (s.receive p .poolRead payload)

/-- LEND (R45). -/
def execLend (p : Port) (payload : List Byte) (s : State) : Host.Outcome State Fault Refusal :=
  .next (s.receive p .lend payload)

/-- RECLAIM (R53). -/
def execReclaim (p : Port) (payload : List Byte) (s : State) : Host.Outcome State Fault Refusal :=
  .next (s.receive p .reclaim payload)

/-- RECALL (R54). -/
def execRecall (p : Port) (payload : List Byte) (s : State) : Host.Outcome State Fault Refusal :=
  .next (s.receive p .recall payload)

/-- SET_POLICY (R172). -/
def execSetPolicy (p : Port) (payload : List Byte) (s : State) : Host.Outcome State Fault Refusal :=
  .next (s.receive p .setPolicy payload)

/-- GET_POLICY (R173). -/
def execGetPolicy (p : Port) (payload : List Byte) (s : State) : Host.Outcome State Fault Refusal :=
  .next (s.receive p .getPolicy payload)

/-- READ_STATUS (R178). -/
def execReadStatus (p : Port) (payload : List Byte) (s : State) : Host.Outcome State Fault Refusal :=
  .next (s.receive p .readStatus payload)

/-- READ_CHANGES (R175). -/
def execReadChanges (p : Port) (payload : List Byte) (s : State) : Host.Outcome State Fault Refusal :=
  .next (s.receive p .readChanges payload)

/-- READ_REPORT (R177). -/
def execReadReport (p : Port) (payload : List Byte) (s : State) : Host.Outcome State Fault Refusal :=
  .next (s.receive p .readReport payload)

/-- TAKE_SAMPLE (R80). -/
def execTakeSample (p : Port) (payload : List Byte) (s : State) : Host.Outcome State Fault Refusal :=
  .next (s.receive p .takeSample payload)

/-- RELEASE_SAMPLE (R81). -/
def execReleaseSample (p : Port) (payload : List Byte) (s : State) : Host.Outcome State Fault Refusal :=
  .next (s.receive p .releaseSample payload)

/-- STORE_READ (R186). -/
def execStoreRead (p : Port) (payload : List Byte) (s : State) : Host.Outcome State Fault Refusal :=
  .next (s.receive p .storeRead payload)

/-- STORE_ERASE (R186). -/
def execStoreErase (p : Port) (payload : List Byte) (s : State) : Host.Outcome State Fault Refusal :=
  .next (s.receive p .storeErase payload)

/-- STORE_PROGRAM (R186). -/
def execStoreProgram (p : Port) (payload : List Byte) (s : State) : Host.Outcome State Fault Refusal :=
  .next (s.receive p .storeProgram payload)

/-- SOFT_RESET (R62). -/
def execSoftReset (p : Port) (payload : List Byte) (s : State) : Host.Outcome State Fault Refusal :=
  .next (s.receive p .softReset payload)

/-- UNKNOWN_REQUEST: a message is framed; one that fails the tests or carries an unknown code is refused MALFORMED, or
BUSY by a WORKING slot (R180, R181). -/
def execUnknownRequest (p : Port) (message : List Byte) (s : State) : Host.Outcome State Fault Refusal :=
  .next (s.receiveMessage p message)

end Sys2Proof.Machine
end

