-- ==== Sys2Proof/Machine/Clock.lean ====
section
/-! DEFINITION. The clock unit: part time, the quiet-tick count, DOZE and warm-up (R182 to R184). -/

namespace Sys2Proof.Machine

/-- A record has an item due. -/
def Record.itemIsDue : Record → Bool
  | .claim c => c.dueItem.isSome
  | .stream t => t.itemDue
  | .exchange x => x.itemDue
  | .responder _ | .filter _ => false

/-- Some record has an item due (R183). -/
def State.anyItemDue (s : State) : Bool :=
  slotIndices.any fun i =>
    match s.slot i with
    | some r => r.itemIsDue
    | none => false

/-- The conditions of a quiet tick (R183). Only a frame that has arrived whole counts as awaiting its taking (DESIGN CHOICE,
log entry 31). -/
def State.quiet (s : State) : Bool :=
  s.policy.dozeEnable && decide (s.custody.state = .proxy) && s.tx.linkUp && decide (s.tx.answers = []) &&
    decide (s.tx.own = []) && !s.anyItemDue && s.tx.carried.isNone && !s.inProgress .system &&
    !s.inProgress .platform && decide (s.rx.staged = [])

/-- The due time of a record's running timer. -/
def Record.timerDue : Record → Option Time
  | .claim c =>
    match c.timer with
    | some (.probeSpacing due) | some (.defenceWindow due) => some due
    | none => none
  | .stream t => t.timer.map fun _ => t.nextDue
  | .exchange x => x.timer.map fun _ => x.nextDue
  | .responder _ | .filter _ => none

/-- The due times of the timers then running: the records' and the flood window's end (R183). -/
def State.runningDues (s : State) : List Time :=
  (slotIndices.filterMap fun i => (s.slot i).bind Record.timerDue) ++ s.guard.windowEnd.toList

/-- The due time with the smallest (D − now) mod 2^32; none if no timer runs (R183). -/
def earliestDue (now : Time) : List Time → Option Time
  | [] => none
  | d :: rest =>
    match earliestDue now rest with
    | none => some d
    | some e => if (d - now).toNat ≤ (e - now).toNat then some d else some e

/-- DOZE is entered: the main clock stops and the wake due time is set (R183). -/
def State.enterDoze (s : State) : State :=
  s.setClk { s.clk with
    state := .doze, quietTicks := Config.quietTicks, wakeDue := earliestDue s.clk.partTime s.runningDues }

/-- The clock unit's test at a tick in ACTIVE (R183). -/
def State.quietTest (s : State) : State :=
  if s.quiet then
    if Config.quietTicks ≤ s.clk.quietTicks + 1 then s.enterDoze
    else s.setClk { s.clk with quietTicks := s.clk.quietTicks + 1 }
  else s.setClk { s.clk with quietTicks := 0 }

/-- The wake due time has come (R184). -/
def State.wakeCome (s : State) : Bool :=
  match s.clk.wakeDue with
  | some due => dueCome s.clk.partTime due
  | none => false

/-- A tick: part time rises by 1; in ACTIVE the quiet test, in DOZE the comparator (R182 to R184). -/
def State.takeTick (s : State) : State :=
  let s1 := s.setClk { s.clk with partTime := s.clk.partTime + 1 }
  match s1.clk.state with
  | .active => s1.quietTest
  | .doze => if s1.wakeCome then s1.wake else s1
  | .warmUp => s1

/-- TICK; part time is held at 0 while a reset is held (R182). -/
def execTick (s : State) : Host.Outcome State Fault Refusal :=
  .next (s.takeIf (decide (s.clk.power = .running)) State.takeTick)

/-- DOZE_ENTRY: with the count at 4 the part enters DOZE; TICK does so in its own taking (R183; log entry 6). -/
def execDozeEntry (s : State) : Host.Outcome State Fault Refusal :=
  .next (s.takeIf (s.canTake && decide (s.clk.quietTicks = Config.quietTicks)) State.enterDoze)

/-- A cause of warm-up holds: the wake due time must have come; the other causes are events outside (R184). -/
def State.causeHolds (s : State) (cause : WakeCause) : Bool :=
  match cause with
  | .wakeDue => s.wakeCome
  | .lineFrame | .stationFrame | .request _ | .linkChange => true

/-- WARM_UP_START (R184). -/
def execWarmUpStart (cause : WakeCause) (s : State) : Host.Outcome State Fault Refusal :=
  .next (s.takeIf (decide (s.clk.power = .running) && s.causeHolds cause) State.wake)

/-- What waited for the end of warm-up is taken, in a taking of its own (R184). -/
def State.takeWaiting (s : State) (w : Waiting) : State :=
  match w with
  | .request p kind payload => s.takeRequest p kind payload
  | .linkDrop => s.takeLinkDrop
  | .linkReturn => s.takeLinkReturn
  | .stationFrame => s.takeUntaken
  | .stnRdy high => s.takeStnRdy high
  | .deliveryEnd => s.takeDeliveryEnd

/-- Warm-up ends: ACTIVE with the count at 0, and what waited is taken in the order it came (R184; log entry 7). -/
def State.endWarmUp (s : State) : State :=
  s.clk.waiting.foldl State.takeWaiting (s.setClk { s.clk with state := .active, quietTicks := 0, waiting := [] })

/-- WARM_UP_END (R184). -/
def execWarmUpEnd (s : State) : Host.Outcome State Fault Refusal :=
  .next (s.takeIf (decide (s.clk.power = .running) && decide (s.clk.state = .warmUp)) State.endWarmUp)

end Sys2Proof.Machine
end

