-- ==== Sys2Proof/Machine/Dispatch.lean ====
section
/-! DEFINITION. One arm for each command: a direct call of its meaning. -/

namespace Sys2Proof.Machine

def exec (i : Instr) (s : State) : Host.Outcome State Fault Refusal :=
  match i with
  | .putSlot port payload => Sys2Proof.Machine.execPutSlot port payload s
  | .getSlot port payload => Sys2Proof.Machine.execGetSlot port payload s
  | .clearSlot port payload => Sys2Proof.Machine.execClearSlot port payload s
  | .poolWrite port payload => Sys2Proof.Machine.execPoolWrite port payload s
  | .poolRead port payload => Sys2Proof.Machine.execPoolRead port payload s
  | .lend port payload => Sys2Proof.Machine.execLend port payload s
  | .reclaim port payload => Sys2Proof.Machine.execReclaim port payload s
  | .recall port payload => Sys2Proof.Machine.execRecall port payload s
  | .setPolicy port payload => Sys2Proof.Machine.execSetPolicy port payload s
  | .getPolicy port payload => Sys2Proof.Machine.execGetPolicy port payload s
  | .readStatus port payload => Sys2Proof.Machine.execReadStatus port payload s
  | .readChanges port payload => Sys2Proof.Machine.execReadChanges port payload s
  | .readReport port payload => Sys2Proof.Machine.execReadReport port payload s
  | .takeSample port payload => Sys2Proof.Machine.execTakeSample port payload s
  | .releaseSample port payload => Sys2Proof.Machine.execReleaseSample port payload s
  | .storeRead port payload => Sys2Proof.Machine.execStoreRead port payload s
  | .storeErase port payload => Sys2Proof.Machine.execStoreErase port payload s
  | .storeProgram port payload => Sys2Proof.Machine.execStoreProgram port payload s
  | .softReset port payload => Sys2Proof.Machine.execSoftReset port payload s
  | .poll count => Sys2Proof.Machine.execPoll count s
  | .unknownRequest port message => Sys2Proof.Machine.execUnknownRequest port message s
  | .responseRead port count => Sys2Proof.Machine.execResponseRead port count s
  | .lendCheckStep => Sys2Proof.Machine.execLendCheckStep s
  | .powerOn => Sys2Proof.Machine.execPowerOn s
  | .rstN => Sys2Proof.Machine.execRstN s
  | .resetRelease => Sys2Proof.Machine.execResetRelease s
  | .profileRecord => Sys2Proof.Machine.execProfileRecord s
  | .storeEraseDone => Sys2Proof.Machine.execStoreEraseDone s
  | .storeProgramDone => Sys2Proof.Machine.execStoreProgramDone s
  | .lineFrameStart => Sys2Proof.Machine.execLineFrameStart s
  | .lineFrameArrival bytes fcs => Sys2Proof.Machine.execLineFrameArrival bytes fcs s
  | .frameTaking => Sys2Proof.Machine.execFrameTaking s
  | .stationFrameStart => Sys2Proof.Machine.execStationFrameStart s
  | .stationFrameTaking bytes fcs => Sys2Proof.Machine.execStationFrameTaking bytes fcs s
  | .grant => Sys2Proof.Machine.execGrant s
  | .transmitComplete => Sys2Proof.Machine.execTransmitComplete s
  | .lineLinkDrop => Sys2Proof.Machine.execLineLinkDrop s
  | .lineLinkReturn => Sys2Proof.Machine.execLineLinkReturn s
  | .stnRdyChange high => Sys2Proof.Machine.execStnRdyChange high s
  | .deliveryEnd => Sys2Proof.Machine.execDeliveryEnd s
  | .tick => Sys2Proof.Machine.execTick s
  | .dueItemPlacement => Sys2Proof.Machine.execDueItemPlacement s
  | .probeSpacingExpiry slot => Sys2Proof.Machine.execProbeSpacingExpiry slot s
  | .defenceWindowExpiry slot => Sys2Proof.Machine.execDefenceWindowExpiry slot s
  | .streamPeriodExpiry slot => Sys2Proof.Machine.execStreamPeriodExpiry slot s
  | .retrySpacingExpiry slot => Sys2Proof.Machine.execRetrySpacingExpiry slot s
  | .exchangeNextDue slot => Sys2Proof.Machine.execExchangeNextDue slot s
  | .replyWaitExpiry slot => Sys2Proof.Machine.execReplyWaitExpiry slot s
  | .floodWindowEnd => Sys2Proof.Machine.execFloodWindowEnd s
  | .dozeEntry => Sys2Proof.Machine.execDozeEntry s
  | .warmUpStart cause => Sys2Proof.Machine.execWarmUpStart cause s
  | .warmUpEnd => Sys2Proof.Machine.execWarmUpEnd s
  | .powerLoss => Sys2Proof.Machine.execPowerLoss s

end Sys2Proof.Machine
end

