-- ==== Sys2Proof/Safety.lean ====
section
/-! DEFINITION. What counts as a sound state and a safe step of the MF6120, in the terms the statements use: limits of the
queues, facts of custody, what stays fixed while the table is lent; and the vocabulary in which a request and its answer are
spoken of. -/

namespace Sys2Proof.Machine

/-! ## Requests -/

/-- The command of a request on a port. -/
def requestOn (kind : RequestKind) (p : Port) (payload : List Byte) : Instr :=
  match kind with
  | .putSlot => .putSlot p payload
  | .getSlot => .getSlot p payload
  | .clearSlot => .clearSlot p payload
  | .poolWrite => .poolWrite p payload
  | .poolRead => .poolRead p payload
  | .lend => .lend p payload
  | .reclaim => .reclaim p payload
  | .recall => .recall p payload
  | .setPolicy => .setPolicy p payload
  | .getPolicy => .getPolicy p payload
  | .readStatus => .readStatus p payload
  | .readChanges => .readChanges p payload
  | .readReport => .readReport p payload
  | .takeSample => .takeSample p payload
  | .releaseSample => .releaseSample p payload
  | .storeRead => .storeRead p payload
  | .storeErase => .storeErase p payload
  | .storeProgram => .storeProgram p payload
  | .softReset => .softReset p payload

/-- A request of a kind on a port reaches its owner at once: the part runs in ACTIVE, the port's slot is not WORKING (R181),
and no profile load turns the request away (R185). -/
abbrev State.readyFor (s : State) (p : Port) (kind : RequestKind) : Prop :=
  s.clk.power = .running ∧ s.clk.state = .active ∧ (s.port p).slot ≠ .working ∧
    (s.store.load = none ∨ handledDuringLoad kind = true)

/-- What a port's master has shifted out once a request is in: on the system port the view the slot gave when select fell,
on the platform port what it was (R180). -/
def State.outAfter (s : State) (p : Port) : List Byte :=
  match p with
  | .system => s.ports.sys.view
  | .platform => s.ports.plat.out

/-- The state with a request of a port answered, and nothing else changed: the slot READY with the response, the note clear
(R181). -/
def State.answered (s : State) (p : Port) (r : Response) : State :=
  s.setPort p { slot := .ready r, note := false, out := s.outAfter p }

/-- The state with a request of a port received and not yet answered: the slot WORKING (R181). -/
def State.working (s : State) (p : Port) : State :=
  s.setPort p { slot := .working, note := (s.port p).note, out := s.outAfter p }

/-! ## Resets -/

/-- A reset of the machine: power-on, RST_N, the release, loss of supply, SOFT_RESET. -/
def isReset : Instr → Bool
  | .powerOn | .rstN | .resetRelease | .powerLoss | .softReset _ _ => true
  | .putSlot _ _ | .getSlot _ _ | .clearSlot _ _ | .poolWrite _ _ | .poolRead _ _ | .lend _ _ | .reclaim _ _
  | .recall _ _ | .setPolicy _ _ | .getPolicy _ _ | .readStatus _ _ | .readChanges _ _ | .readReport _ _
  | .takeSample _ _ | .releaseSample _ _ | .storeRead _ _ | .storeErase _ _ | .storeProgram _ _ | .poll _
  | .unknownRequest _ _ | .responseRead _ _ | .lendCheckStep | .profileRecord | .storeEraseDone | .storeProgramDone
  | .lineFrameStart | .lineFrameArrival _ _ | .frameTaking | .stationFrameStart | .stationFrameTaking _ _ | .grant
  | .transmitComplete | .lineLinkDrop | .lineLinkReturn | .stnRdyChange _ | .deliveryEnd | .tick
  | .dueItemPlacement | .probeSpacingExpiry _ | .defenceWindowExpiry _ | .streamPeriodExpiry _
  | .retrySpacingExpiry _ | .exchangeNextDue _ | .replyWaitExpiry _ | .floodWindowEnd | .dozeEntry
  | .warmUpStart _ | .warmUpEnd => false

/-! ## Memories -/

/-- Every cell of a memory lies below a bound. -/
def memBelow (bound : Nat) (m : List Host.Cell) : Bool := m.all fun c => decide (c.1 < bound)

/-- A store operation concerns a user page, and a program carries a page of data (R186). -/
def StoreOp.fits : StoreOp → Bool
  | .erase page => decide (2 ≤ page ∧ page ≤ 7)
  | .program page data => decide (2 ≤ page ∧ page ≤ 7 ∧ data.length = 256)

/-- Both byte memories stand in canonical form inside their address spaces: the 16,384 bytes of the pool (R25) and the
2,048 of the store; a store operation under way fits the store. -/
abbrev State.memoriesSound (s : State) : Prop :=
  memWf poolBlank s.pool = true ∧ memBelow Config.poolBytes s.pool = true ∧
    memWf storeBlank s.store.cells = true ∧ memBelow 2048 s.store.cells = true ∧
    s.store.op.all StoreOp.fits = true

/-! ## The table -/

/-- How many slots hold a record of a kind. -/
def State.tally (s : State) (isKind : Record → Bool) : Nat :=
  (s.table.slots.toList.filter fun r => r.any isKind).length

def Record.isClaim : Record → Bool
  | .claim _ => true
  | _ => false

def Record.isStream : Record → Bool
  | .stream _ => true
  | _ => false

def Record.isExchange : Record → Bool
  | .exchange _ => true
  | _ => false

/-- The kind counts are the numbers of slots of each counted kind, and lie within their limits (R2). -/
abbrev State.countsSound (s : State) : Prop :=
  s.table.counts.claims = s.tally Record.isClaim ∧ s.table.counts.streams = s.tally Record.isStream ∧
    s.table.counts.exchanges = s.tally Record.isExchange ∧ s.table.counts.within = true

/-- What PUT_SLOT fixed of each slot (R1, R23). -/
def State.configs (s : State) : List (Option RecordConfig) := s.table.slots.toList.map (Option.map Record.config)

/-- The claim link a record carries (R6). -/
def Record.claimLink : Record → Link
  | .responder r => r.cfg.claimLink
  | .stream t => t.cfg.claimLink
  | .exchange x => x.cfg.claimLink
  | .claim _ | .filter _ => none

/-- A stream's sequence values (R129). -/
def Record.seqValues : Record → Option (SeqValue × SeqValue)
  | .stream t => some (t.ourSeq, t.peerSeq)
  | .claim _ | .responder _ | .filter _ | .exchange _ => none

/-- The sequence values of every slot. -/
def State.seqValues (s : State) : List (Option (SeqValue × SeqValue)) :=
  s.table.slots.toList.map fun r => r.bind Record.seqValues

/-! ## Records as PUT_SLOT writes them (R7 to R11, R16 to R18, R28, R29) -/

/-- A number lies in `low … high`. -/
abbrev within (low high n : Nat) : Prop := low ≤ n ∧ n ≤ high

/-- A probe's ranges; the equals-counter form only where it is allowed (R3, R5, R16). -/
def Probe.inRange (counterAllowed : Bool) : Probe → Prop
  | .masked offset valueMask => offset ≤ 1517 ∧ within 1 16 valueMask.length
  | .equalsCounter offset len => counterAllowed = true ∧ offset ≤ 1517 ∧ within 1 4 len

/-- A descriptor's ranges (R4, R16). -/
def Descriptor.inRange (counterAllowed : Bool) (d : Descriptor) : Prop :=
  within 1 4 d.length ∧ ∀ p ∈ d, p.inRange counterAllowed

/-- A source's ranges; an RX source only in an answer template (R12, R28, R29). -/
def Source.inRange (rxAllowed : Bool) : Source → Prop
  | .rx o => rxAllowed = true ∧ o ≤ 1517
  | .capture k => k ≤ 3
  | .claimAddr | .stationAddr | .seqOut | .seqOutLess1 | .seqIn | .counter | .time => True

/-- A template's ranges (R16, R28, R29). -/
def Template.inRange (rxAllowed : Bool) (t : Template) : Prop :=
  within 14 1514 t.totalLen ∧ within 1 8 t.segments.length ∧ t.substs.length ≤ 6 ∧ t.checksums.length ≤ 2 ∧
    (∀ g ∈ t.segments, g.startBlock ≤ 255 ∧ within 1 1514 g.len) ∧
    (∀ u ∈ t.substs, u.offset ≤ 1513 ∧ within 1 16 u.len ∧ u.source.inRange rxAllowed) ∧
    (∀ c ∈ t.checksums, c.spanStart ≤ 1513 ∧ (∀ e ∈ c.spanEnd, within 1 1514 e) ∧ c.fieldOffset ≤ 1512)

/-- A schedule's ranges: the maximum delay is no less than the minimum (R11, R17). -/
def Schedule.inRange : Schedule → Prop
  | .fixed period => within 1 Config.maxDelay period
  | .captured index fraction minDelay maxDelay =>
    index ≤ 3 ∧ within 1 255 fraction ∧ within 1 Config.maxDelay minDelay ∧ within minDelay Config.maxDelay maxDelay

/-- The configuration fields of a record lie in the ranges of R7 to R11, R16 and R17. -/
def RecordConfig.inRange : RecordConfig → Prop
  | .claim c =>
    within 1 16 c.address.length ∧ c.assertion.inRange false ∧ c.assertionOffset ≤ 1517 ∧
      (∀ t ∈ c.probeTemplate, t.inRange false) ∧ (∀ t ∈ c.announceTemplate, t.inRange false) ∧ c.probeCount ≤ 7 ∧
      within 1 Config.maxDelay c.probeSpacing ∧ within 1 Config.maxDelay c.defenceWindow
  | .responder r => r.descriptor.inRange false ∧ r.answerTemplate.inRange true
  | .filter f => f.descriptor.inRange false
  | .stream t =>
    t.inbound.inRange false ∧ t.outbound.inRange false ∧ t.seqOffset ≤ 1514 ∧ t.ackOffset ≤ 1514 ∧
      t.headerLen ≤ 1518 ∧ t.seqOffset + 4 ≤ t.headerLen ∧ t.ackOffset + 4 ≤ t.headerLen ∧
      (∀ p ∈ t.closeProbe, p.inRange false) ∧ t.probeTemplate.inRange false ∧ t.replyTemplate.inRange true ∧
      within 16 (2 ^ 20) t.period ∧ within 1 (2 ^ 16) t.retrySpacing ∧ within 1 15 t.missLimit
  | .exchange x =>
    x.requestTemplate.inRange false ∧ x.reply.inRange true ∧ (∀ d ∈ x.decline, d.inRange false) ∧
      x.captureSpecs.length ≤ 4 ∧ (∀ c ∈ x.captureSpecs, c.offset ≤ 1517 ∧ within 1 4 c.len) ∧
      within 1 Config.maxDelay x.firstDelay ∧ x.schedule.inRange ∧ within 1 (2 ^ 16) x.replyTimeout ∧
      x.retryLimit ≤ 15

/-- A record has the initial state fields of section 1.4 beside the fields the host seeds (R10, R11, R18). -/
def Record.isFresh : Record → Prop
  | .claim c => c = Claim.fresh c.cfg
  | .responder r => r = Responder.fresh r.cfg
  | .filter f => f = Filter.fresh f.cfg
  | .stream t => t = Stream.fresh t.cfg (if t.valuesValid then some (t.ourSeq, t.peerSeq) else none)
  | .exchange x => x = Exchange.fresh x.cfg x.captures x.sendCounter

/-! ## Faults of a PUT_SLOT image (R15, R16, R29)

The image is described field by field: what a field's own fault is, and which fields stand behind a sound one. -/

/-- A fault: which bytes have it, at which offset in them it is met, and the result it gives (R15). -/
abbrev ImageFault := List Byte → Nat → Result → Prop

/-- A field of `width` bytes at fault at its own offset: the payload ends inside it (MALFORMED), or its number is refused. -/
def badField (width : Nat) (refused : Nat → Prop) (result : Result) : ImageFault := fun bytes o r =>
  o = 0 ∧ ((bytes.length < width ∧ r = .malformed) ∨
    ∃ n rest, n < 256 ^ width ∧ refused n ∧ bytes = beBytes width n ++ rest ∧ r = result)

/-- A part at fault, or a sound part and a fault in what stands behind it. -/
def faultIn {α : Type} (encode : α → List Byte) (sound : α → Prop) (bad : ImageFault) (behind : α → ImageFault) :
    ImageFault := fun bytes o r =>
  bad bytes o r ∨ ∃ x rest k, sound x ∧ bytes = encode x ++ rest ∧ o = (encode x).length + k ∧ behind x rest k r

/-- A number field and what stands behind it. -/
def faultFrom (width : Nat) (refused : Nat → Prop) (result : Result) (behind : Nat → ImageFault) : ImageFault :=
  faultIn (beBytes width) (fun n => n < 256 ^ width ∧ ¬ refused n) (badField width refused result) behind

/-- No number of a field is refused. -/
def noneRefused : Nat → Prop := fun _ => False

/-- A sound part has no fault of its own. -/
def noFault : ImageFault := fun _ _ _ => False

/-- Bytes left over after the last field (R15). -/
def leftOver : ImageFault := fun bytes o r => bytes ≠ [] ∧ o = 0 ∧ r = .malformed

/-- A part repeated behind its count: the count is refused, or a part behind sound ones is at fault. -/
def badList {α : Type} (low high : Nat) (encode : α → List Byte) (sound : α → Prop) (bad : ImageFault) : ImageFault :=
  faultFrom 1 (fun n => ¬ within low high n) .outOfRange fun n bytes o r =>
    ∃ (xs : List α) (rest : List Byte) (k : Nat), xs.length < n ∧ (∀ x ∈ xs, sound x) ∧
      bytes = xs.flatMap encode ++ rest ∧ o = (xs.flatMap encode).length + k ∧ bad rest k r

/-- An optional part: its presence byte, or the part itself, is at fault. -/
def badOptional (bad : ImageFault) : ImageFault :=
  faultFrom 1 (1 < ·) .malformed fun present bytes o r => present = 1 ∧ bad bytes o r

/-- A link byte that is refused (R16). -/
def refusedLink (n : Nat) : Prop := 128 ≤ n ∧ n ≤ 254

/-- A probe at fault (R15, R16). An equals-counter probe too long is met at its length, one that is not allowed at its form;
value bytes and mask bytes are fields of their own (log entry 9). -/
def badProbe (counterAllowed : Bool) : ImageFault :=
  faultFrom 2 (1517 < ·) .outOfRange fun _ bytes o r =>
    (faultFrom 1 (fun n => ¬ within 1 16 n) .outOfRange fun len =>
      faultFrom 1 (1 < ·) .malformed fun form bytes o r => form = 0 ∧
        (faultIn id (fun value => value.length = len) (badField len noneRefused .malformed) fun _ =>
          badField len noneRefused .malformed) bytes o r) bytes o r ∨
    ∃ len rest, within 1 16 len ∧ bytes = beBytes 1 len ++ 1 :: rest ∧ r = .outOfRange ∧
      ((4 < len ∧ o = 0) ∨ (len ≤ 4 ∧ counterAllowed = false ∧ o = 1))

/-- A descriptor at fault (R16). -/
def badDescriptor (counterAllowed : Bool) : ImageFault :=
  badList 1 4 probeBytes (Probe.inRange counterAllowed) (badProbe counterAllowed)

/-- A segment at fault (R29). -/
def badSegment : ImageFault :=
  faultFrom 1 noneRefused .malformed fun _ => faultFrom 2 (fun n => ¬ within 1 1514 n) .outOfRange fun _ =>
    badField 1 (1 < ·) .malformed

/-- A substitution at fault (R16, R29). -/
def badSubst (rxAllowed : Bool) : ImageFault :=
  faultFrom 2 (1513 < ·) .outOfRange fun _ => faultFrom 1 (fun n => ¬ within 1 16 n) .outOfRange fun _ bytes o r =>
    badField 1 (8 < ·) .malformed bytes o r ∨ (rxAllowed = false ∧ badField 1 (· = 0) .outOfRange bytes o r) ∨
    faultIn (beBytes 1) (fun code => code ≤ 8 ∧ (code = 0 → rxAllowed = true)) noFault (fun code =>
      if code = 0 then badField 2 (1517 < ·) .outOfRange
      else if code = 6 then badField 2 (3 < ·) .outOfRange
      else badField 2 (0 < ·) .malformed) bytes o r

/-- A checksum spec at fault (R29). -/
def badChecksum : ImageFault :=
  faultFrom 2 (1513 < ·) .outOfRange fun _ => faultFrom 2 (fun n => n = 0 ∨ within 1515 0xFFFE n) .outOfRange fun _ =>
    faultFrom 2 (1512 < ·) .outOfRange fun _ => faultFrom 2 noneRefused .malformed fun _ => badField 1 (1 < ·) .malformed

/-- A list part as it is encoded: its count and its parts. -/
def listBytes {α : Type} (encode : α → List Byte) (xs : List α) : List Byte := beBytes 1 xs.length ++ xs.flatMap encode

/-- A template at fault (R16, R29). -/
def badTemplate (rxAllowed : Bool) : ImageFault :=
  let segmentSound := fun (g : Segment) => g.startBlock ≤ 255 ∧ within 1 1514 g.len
  let substSound := fun (u : Subst) => u.offset ≤ 1513 ∧ within 1 16 u.len ∧ u.source.inRange rxAllowed
  let checksumSound := fun (c : ChecksumSpec) =>
    c.spanStart ≤ 1513 ∧ (∀ e ∈ c.spanEnd, within 1 1514 e) ∧ c.fieldOffset ≤ 1512
  faultFrom 2 (fun n => ¬ within 14 1514 n) .outOfRange fun _ =>
    faultIn (listBytes segmentBytes) (fun l => within 1 8 l.length ∧ ∀ g ∈ l, segmentSound g)
      (badList 1 8 segmentBytes segmentSound badSegment) fun _ =>
    faultIn (listBytes substBytes) (fun l => l.length ≤ 6 ∧ ∀ u ∈ l, substSound u)
      (badList 0 6 substBytes substSound (badSubst rxAllowed)) fun _ =>
    badList 0 2 checksumBytes checksumSound badChecksum

/-- A descriptor and what stands behind it. -/
def faultFromDescriptor (counterAllowed : Bool) (behind : ImageFault) : ImageFault :=
  faultIn descriptorBytes (Descriptor.inRange counterAllowed) (badDescriptor counterAllowed) fun _ => behind

/-- A template and what stands behind it. -/
def faultFromTemplate (rxAllowed : Bool) (behind : ImageFault) : ImageFault :=
  faultIn templateBytes (Template.inRange rxAllowed) (badTemplate rxAllowed) fun _ => behind

/-- An optional part and what stands behind it. -/
def faultFromOptional {α : Type} (encode : α → List Byte) (sound : α → Prop) (bad : ImageFault) (behind : ImageFault) :
    ImageFault := faultIn (optionalBytes encode) (fun x => ∀ y ∈ x, sound y) (badOptional bad) fun _ => behind

/-- A CLAIM's fields at fault (R7, R16). -/
def badClaim : ImageFault :=
  let optionalTemplate := faultFromOptional templateBytes (Template.inRange false) (badTemplate false)
  faultFrom 1 (fun n => ¬ within 1 16 n) .outOfRange fun len =>
    faultIn id (fun address => address.length = len) (badField len noneRefused .malformed) fun _ =>
    faultFromDescriptor false <| faultFrom 2 (1517 < ·) .outOfRange fun _ =>
    optionalTemplate <| optionalTemplate <| faultFrom 1 noneRefused .malformed fun _ =>
    faultFrom 4 noneRefused .malformed fun _ => faultFrom 4 noneRefused .malformed fun _ =>
    faultFrom 1 refusedLink .outOfRange fun _ => leftOver

/-- A RESPONDER's fields at fault (R8, R16). -/
def badResponder : ImageFault :=
  faultFromDescriptor false <| faultFromTemplate true <| faultFrom 1 refusedLink .outOfRange fun _ =>
    faultFrom 1 (1 < ·) .malformed fun _ => leftOver

/-- A FILTER's fields at fault (R9, R16). -/
def badFilter : ImageFault := faultFromDescriptor false <| faultFrom 1 (1 < ·) .malformed fun _ => leftOver

/-- A STREAM's fields at fault (R10, R16). -/
def badStream : ImageFault :=
  faultFromDescriptor false <| faultFromDescriptor false <| faultFrom 2 (1514 < ·) .outOfRange fun seqOffset =>
    faultFrom 2 (1514 < ·) .outOfRange fun ackOffset =>
    faultFrom 2 (fun n => 1518 < n ∨ n < seqOffset + 4 ∨ n < ackOffset + 4) .outOfRange fun _ =>
    faultFromOptional probeBytes (Probe.inRange false) (badProbe false) <| faultFrom 1 (1 < ·) .malformed fun _ =>
    faultFromTemplate false <| faultFromTemplate true <| faultFrom 4 noneRefused .malformed fun _ =>
    faultFrom 4 noneRefused .malformed fun _ => faultFrom 1 noneRefused .malformed fun _ =>
    faultFrom 1 refusedLink .outOfRange fun _ =>
    faultFromOptional (fun v : Nat × Nat => beBytes 4 v.1 ++ beBytes 4 v.2) (fun _ => True)
      (faultFrom 4 noneRefused .malformed fun _ => badField 4 noneRefused .malformed) leftOver

/-- An EXCHANGE's fields at fault (R11, R16). -/
def badExchange : ImageFault :=
  let word := fun (behind : ImageFault) => faultFrom 4 noneRefused .malformed fun _ => behind
  let tail := word <| faultFrom 1 noneRefused .malformed fun _ => word <|
    faultFrom 1 refusedLink .outOfRange fun _ => leftOver
  let captureSound := fun (c : CaptureSpec) => c.offset ≤ 1517 ∧ within 1 4 c.len
  let badCapture := faultFrom 2 (1517 < ·) .outOfRange fun _ => badField 1 (fun n => ¬ within 1 4 n) .outOfRange
  let captureBytes := fun (c : CaptureSpec) => beBytes 2 c.offset ++ beBytes 1 c.len
  faultFromTemplate false <| faultFromDescriptor true <|
    faultFromOptional descriptorBytes (Descriptor.inRange false) (badDescriptor false) <|
    faultIn (listBytes captureBytes) (fun l => l.length ≤ 4 ∧ ∀ c ∈ l, captureSound c)
      (badList 0 4 captureBytes captureSound badCapture) fun _ =>
    word <| word <| word <| word <| word <| faultFrom 1 (1 < ·) .malformed fun mode =>
      if mode = 0 then word tail
      else faultFrom 1 (3 < ·) .outOfRange fun _ => faultFrom 1 noneRefused .malformed fun _ => word <| word tail

/-- A PUT_SLOT image at fault (R15): a slot index above 127, a kind that no record has, or a field of the kind. -/
def badImage : ImageFault :=
  faultFrom 1 (127 < ·) .outOfRange fun _ => faultFrom 1 (fun n => n = 0 ∨ 5 < n) .malformed fun kind =>
    match kind with
    | 1 => badClaim
    | 2 => badResponder
    | 3 => badFilter
    | 4 => badStream
    | 5 => badExchange
    | _ => noFault

/-! ## Limits of the queues -/

/-- The answer queue, the own-traffic queue with its kept place, the held queue, the cause list and the two receiving buffers
lie within their capacities (in the staging buffer 1,518 bytes for each frame on its way, the length of each whole one); no
slot has two items (R64, R151, R152, R156, R161, R167). -/
abbrev State.queuesWithin (s : State) : Prop :=
  s.tx.answers.length ≤ Config.answerPlaces ∧
    s.tx.own.length + s.tx.keptPlaces ≤ Config.ownPlaces ∧
    (s.tx.own.map OwnItem.slot).Nodup ∧
    s.held.entries.length ≤ Config.heldFrames ∧ heldTotal s.held.entries ≤ Config.heldBytes ∧
    s.cond.report.causes.length ≤ Config.causePlaces ∧
    (s.rx.staged.map fun f => f.bytes.length).sum +
      1518 * (s.rx.arriving.filter fun a => decide (a = .staged)).length ≤ 4096 ∧
    s.stn.buffer.length + s.stn.untaken.length + (s.stn.arriving.filter fun a => decide (a = .staged)).length ≤ 2

/-- The change list holds at most one record for each slot (R174). -/
abbrev State.changesDistinct (s : State) : Prop := (s.cond.changes.map ChangeRecord.slot).Nodup

/-! ## Custody -/

/-- WAKE_N is asserted in ROUSED, never in HOME, CHECKING or PROXY; the cursor stands exactly in CHECKING; discard mode only in
a return (R44, R52, R56). -/
abbrev State.custodySound (s : State) : Prop :=
  (s.custody.state = .roused → s.custody.wake = true) ∧
    (s.custody.wake = true → s.custody.state = .roused ∨ s.custody.state = .quiesce ∨ s.custody.state = .drain) ∧
    (s.custody.cursor.isSome = true ↔ s.custody.state = .checking) ∧
    (s.custody.discard = true → s.custody.state = .quiesce ∨ s.custody.state = .drain)

/-- The part sends nothing of its own and keeps no frame for the host. -/
abbrev State.nothingOwn (s : State) : Prop :=
  s.tx.answers = [] ∧ s.tx.own = [] ∧ s.tx.carriesOwn = false

/-- What each phase has left: nothing of the part's own and no held frame in HOME and CHECKING, no own-traffic item in
QUIESCE, nothing of the part's own and some held frame in DRAIN (R55, R57, R58, R151, R161). -/
abbrev State.phaseSound (s : State) : Prop :=
  (s.custody.state = .home ∨ s.custody.state = .checking → s.nothingOwn ∧ s.held.entries = []) ∧
    (s.custody.state = .quiesce → s.tx.own = [] ∧ (s.tx.answers ≠ [] ∨ s.tx.carriesOwn = true)) ∧
    (s.custody.state = .drain → s.nothingOwn ∧ s.held.entries ≠ [])

/-! ## Takings the statements speak of -/

/-- A good frame stands at the head of the staging buffer and will be classified: the part runs in ACTIVE and custody is PROXY
or ROUSED (R66), and the frame is no own echo (R69). -/
abbrev State.classifies (s : State) (f : Frame) (rest : List Frame) : Prop :=
  s.enginesRun = true ∧ s.rx.staged = f :: rest ∧ s.ownEcho f = false

/-- The state a classification's tests meet: the frame out of the staging buffer and counted in frames_seen (R67). -/
def State.afterCount (s : State) (rest : List Frame) : State :=
  (s.setRx { s.rx with staged := rest }).setCounters { s.counters with framesSeen := bump32 s.counters.framesSeen }

/-- A record of a slot is replaced and marks are added to the change list, none for no mark; nothing else changes. -/
def State.rewrite (s : State) (i : SlotIx) (r : Record) (marks : BitVec 8) : State :=
  if marks = 0 then s.setSlot i (some r)
  else (s.setSlot i (some r)).setCond { s.cond with changes := addChange s.cond.changes i marks }

/-- The mark of a counter that is raised: none where it is saturated (section 6.6, R174). -/
def countMark (c : Count16) : BitVec 8 := if c = 0xFFFF then 0 else 0x04

/-- Where a wanted item goes: at the tail of the own-traffic queue (R88, R120, R133). -/
def State.queued (s : State) (item : OwnItem) : State := s.setTx { s.tx with own := s.tx.own ++ [item] }

/-- A slot's item leaves the own-traffic queue; the others close up (R152). -/
def State.unqueued (s : State) (i : SlotIx) : State :=
  s.setTx { s.tx with own := s.tx.own.filter fun item => decide (item.slot ≠ i) }

/-- A slot may be given an item: it has none queued, and the queue has room (R88, R152). -/
abbrev State.roomFor (s : State) (i : SlotIx) : Prop :=
  (∀ item ∈ s.tx.own, item.slot ≠ i) ∧ s.tx.own.length + s.tx.keptPlaces < 16

/-- A slot has no item and the queue has no room. -/
abbrev State.noRoomFor (s : State) (i : SlotIx) : Prop :=
  (∀ item ∈ s.tx.own, item.slot ≠ i) ∧ 16 ≤ s.tx.own.length + s.tx.keptPlaces

/-- A due time has come (section 6.3). -/
abbrev State.came (s : State) (due : Time) : Prop := (s.clk.partTime - due).toNat < 2 ^ 31

/-- The part time a delay later. -/
def State.later (s : State) (delay : Nat) : Time := s.clk.partTime + BitVec.ofNat 32 delay

/-- An exchange claims a frame in the fourth test (R72). -/
def Exchange.takes (x : Exchange) (bytes : List Byte) : Prop :=
  if x.expecting = true then
    (∃ d, x.cfg.decline = some d ∧ matchesFrame bytes d = true) ∨
      (descriptorPasses x.sendCounter bytes x.cfg.reply = true ∧
        ∀ c ∈ x.cfg.captureSpecs, c.offset + c.len ≤ bytes.length)
  else descriptorPasses x.sendCounter bytes x.cfg.reply = true

/-- No claim below a slot takes a frame in the conflict watch (R70). -/
abbrev State.noConflictBelow (s : State) (f : Frame) (n : Nat) : Prop :=
  s.policy.conflictWatch = true → ∀ (j : SlotIx) (c : Claim), j.val < n → s.claimAt j = some c → c.state ≠ .lost →
    c.assertedBy f.bytes = false

/-- No stream below a slot claims a frame (R71). -/
abbrev State.noStreamBelow (s : State) (f : Frame) (n : Nat) : Prop :=
  ∀ (j : SlotIx) (x : Stream), j.val < n → s.streamAt j = some x → x.state ≠ .ended →
    matchesFrame f.bytes x.cfg.inbound = false

/-- No exchange below a slot claims a frame (R72). -/
abbrev State.noExchangeBelow (s : State) (f : Frame) (n : Nat) : Prop :=
  ∀ (j : SlotIx) (x : Exchange), j.val < n → s.exchangeAt j = some x → ¬ x.takes f.bytes

/-- No responder below a slot claims a frame (R73). -/
abbrev State.noResponderBelow (s : State) (f : Frame) (n : Nat) : Prop :=
  ∀ (j : SlotIx) (r : Responder), j.val < n → s.responderAt j = some r → matchesFrame f.bytes r.cfg.descriptor = false

/-- No filter below a slot claims a frame (R74). -/
abbrev State.noFilterBelow (s : State) (f : Frame) (n : Nat) : Prop :=
  ∀ (j : SlotIx) (t : Filter), j.val < n → s.filterAt j = some t → matchesFrame f.bytes t.cfg.descriptor = false

/-- A stream's end as R119 says it, but for the condition: the record, its mark, its item. -/
def State.endsStream (s : State) (j : SlotIx) (x : Stream) (marks : BitVec 8) : State :=
  (s.rewrite j (.stream { x with state := .ended, timer := none, itemDue := false }) marks).unqueued j

/-- A claim's loss as R93 says it: the record and its item, CLAIM_LOST, the answers of its responders, its streams in
ascending slot index. -/
def State.losesClaim (s : State) (i : SlotIx) (c : Claim) : State :=
  let s1 := ((s.rewrite i
    (.claim { c with state := .lost, timer := none, reprobePending := false, dueItem := none }) 0x01).unqueued i).raise
      .claimLost (some i)
  let goes := fun (a : Answer) =>
    decide (a.origin = .responder) && decide ((s.responderAt a.slot).map (fun r => r.cfg.claimLink) = some (some i))
  let s2 := (s1.setTx { s1.tx with answers := s1.tx.answers.filter fun a => !goes a }).setCounters
    { s1.counters with answersDropped := bump32By s1.counters.answersDropped (s1.tx.answers.filter goes).length }
  slotIndices.foldl (fun s j =>
    match s.streamAt j with
    | some x =>
      if x.cfg.claimLink = some i ∧ x.state ≠ .ended then (s.endsStream j x 0x01).raise .streamEnded (some j) else s
    | none => s) s2

/-- An exchange's halt as R143 and R94 say it: the record and its item, the condition, its claims in ascending slot index. -/
def State.haltsExchange (s : State) (i : SlotIx) (x : Exchange) (reason : HaltReason) : State :=
  let s1 := ((s.rewrite i (.exchange { x with
    state := .halted, haltReason := some reason, timer := none, itemDue := false, resend := false }) 0x01).unqueued
      i).raise (match reason with | .failed => .exchangeFailed | .declined => .exchangeDeclined) (some i)
  slotIndices.foldl (fun s j =>
    match s.claimAt j with
    | some c => if c.cfg.exchangeLink = some i ∧ c.state ≠ .lost then s.losesClaim j c else s
    | none => s) s1

/-- The item a record has due, as it would stand in the queue (R152). -/
def Record.dueAs (i : SlotIx) : Record → Option OwnItem
  | .claim c => c.dueItem.map (OwnItem.claim i)
  | .stream x => if x.itemDue then some (.stream i) else none
  | .exchange x => if x.itemDue then some (.exchange i) else none
  | .responder _ | .filter _ => none

/-- A record whose due item has been placed (R152). -/
def Record.notDue : Record → Record
  | .claim c => .claim { c with dueItem := none }
  | .stream x => .stream { x with itemDue := false }
  | .exchange x => .exchange { x with itemDue := false }
  | .responder r => .responder r
  | .filter f => .filter f

/-- A proposed value as a tracking stream judges it (R129). -/
def judged (valid : Bool) (proposed current : SeqValue) : SeqValue :=
  if valid = false ∨ (proposed - current).toNat < 2 ^ 31 then proposed else current

/-- QUIESCE's end once no answer waits and nothing of the part's own is carried (R57): HOME where nothing is held (R58, R59),
else DRAIN, the head copied out while STN_RDY is high and the station output is free (R163). -/
def State.quiesceEnds (s : State) : State :=
  match s.held.entries with
  | [] => s.setCustody { state := .home, cursor := none, discard := false, wake := false }
  | e :: _ =>
    let drains := s.setCustody { s.custody with state := .drain }
    if s.pins.stnRdy = true ∧ s.stn.delivering = none ∧ s.stn.waiting = none then
      drains.setStn { s.stn with delivering := some (.heldHead e.frame) }
    else drains

/-- `n` steps of the LEND check taken one after the other (R46). -/
def checkSteps : Nat → State → State
  | 0, s => s
  | n + 1, s =>
    match exec .lendCheckStep s with
    | .next t => checkSteps n t
    | .fault _ | .refused _ => s

end Sys2Proof.Machine
end

