-- ==== Sys2Proof/WellFormed.lean ====
section
/-! DEFINITION. Which terms of `Instr` stand for a command that can occur: a request that passed the framing tests has a
payload of at most 1,024 bytes (R180), a read clocks at least one byte, and an UNKNOWN_REQUEST is a message the framing
tests refuse. -/

namespace Sys2Proof

/-- The size test of R180 on a payload that reached its owner. -/
def payloadFits (payload : List Byte) : Bool := decide (payload.length ≤ Config.maxPayload)

/-- The well-formed commands. -/
def Instr.wellFormed : Instr → Bool
  | .putSlot _ p | .getSlot _ p | .clearSlot _ p | .poolWrite _ p | .poolRead _ p | .lend _ p | .reclaim _ p
  | .recall _ p | .setPolicy _ p | .getPolicy _ p | .readStatus _ p | .readChanges _ p | .readReport _ p
  | .takeSample _ p | .releaseSample _ p | .storeRead _ p | .storeErase _ p | .storeProgram _ p
  | .softReset _ p => payloadFits p
  | .poll count => decide (1 ≤ count)
  | .unknownRequest port message => decide (frameMessage port message = .malformed)
  | .responseRead _ count => decide (1 ≤ count)
  | .lendCheckStep | .powerOn | .rstN | .resetRelease | .profileRecord | .storeEraseDone | .storeProgramDone
  | .lineFrameStart | .lineFrameArrival _ _ | .frameTaking | .stationFrameStart | .stationFrameTaking _ _ | .grant
  | .transmitComplete | .lineLinkDrop | .lineLinkReturn | .stnRdyChange _ | .deliveryEnd | .tick
  | .dueItemPlacement | .probeSpacingExpiry _ | .defenceWindowExpiry _ | .streamPeriodExpiry _
  | .retrySpacingExpiry _ | .exchangeNextDue _ | .replyWaitExpiry _ | .floodWindowEnd | .dozeEntry
  | .warmUpStart _ | .warmUpEnd | .powerLoss => true

end Sys2Proof
end

