-- ==== Sys2Proof/Certificates/Slice0/Obligations.lean ====
section
/-! DEFINITION. The statements for the provers, from the numbered rules of spec/. The witnesses of their hypotheses stand in
Tests/Slice0.lean under the names the docstrings give; `witness_requestBounds` has boundary values of the requests'
operands. In every statement about a request the bytes a master has shifted out stand in the model's own latch (log entry
4). -/

open Sys2Proof Sys2Proof.Machine

/-! ## The command queue and the ports (Chapter 11) -/

/-- Step runs the command at the front of the queue on the state with the queue's rest. That an empty queue idles is the
model's choice (log entry 8) (witness `witness_step`). -/
def Obligations.StepRunsFrontCommand : Prop :=
  (∀ (s : State) (c : Instr) (rest : List Instr), s.pending = c :: rest → step s = exec c { s with pending := rest }) ∧
    ∀ s : State, s.pending = [] → step s = .next s

/-- R181, R184 and R185: what a request meets before its owner: a WORKING slot refuses it BUSY by the note alone, and the
earlier request goes on; a profile load turns the requests outside its list away with BUSY; DOZE starts warm-up, and in DOZE
and warm-up it waits; what waited alone is taken at the end of warm-up as it would have been taken then. Where it waits is
the model's form (log entry 7) (witnesses `witness_workingSlot`, `witness_loading`, `witness_doze`). -/
def Obligations.RequestsMeetThePortUnit : Prop :=
  ∀ (kind : RequestKind) (p : Port) (payload : List Byte) (s : State), s.clk.power = .running →
    ((s.port p).slot = .working →
      exec (requestOn kind p payload) s =
        .next (s.setPort p { slot := .working, note := true, out := s.outAfter p })) ∧
    ((s.port p).slot ≠ .working → payload.length ≤ 1024 →
      (s.clk.state = .active → s.store.load.isSome = true →
        kind ∉ [.getSlot, .poolRead, .getPolicy, .readStatus, .readChanges, .readReport, .takeSample, .releaseSample,
          .storeRead] →
        exec (requestOn kind p payload) s = .next (s.answered p { result := .busy, payload := [] })) ∧
      (s.clk.state = .doze →
        exec (requestOn kind p payload) s =
          .next ((s.working p).setClk
            { s.clk with
              state := .warmUp, quietTicks := 0, wakeDue := none
              waiting := s.clk.waiting ++ [.request p kind payload] })) ∧
      (s.clk.state = .warmUp →
        exec (requestOn kind p payload) s =
          .next ((s.working p).setClk { s.clk with waiting := s.clk.waiting ++ [.request p kind payload] })) ∧
      (s.clk.state ≠ .active → s.clk.waiting = [] →
        ∃ a, exec (requestOn kind p payload) s = .next a ∧
          exec .warmUpEnd a =
            exec (requestOn kind p payload)
              (s.setClk { a.clk with state := .active, quietTicks := 0, waiting := [] })))

/-- R180, the framing tests: which messages are MALFORMED, which are a request, by the table of the request codes, and the
poll. That code 0x00 is unknown on the platform port, and that the bytes of a request act as its command, is inferred (log
entry 16) (witness `witness_framing`). -/
def Obligations.FramingTestsSortMessages : Prop :=
  let codes : List (Byte × RequestKind) :=
    [(0x01, .putSlot), (0x02, .getSlot), (0x03, .clearSlot), (0x04, .poolWrite), (0x05, .poolRead), (0x06, .lend),
      (0x07, .reclaim), (0x08, .recall), (0x09, .setPolicy), (0x0A, .getPolicy), (0x0B, .readStatus),
      (0x0C, .readChanges), (0x0D, .readReport), (0x0E, .takeSample), (0x0F, .releaseSample), (0x10, .storeRead),
      (0x11, .storeErase), (0x12, .storeProgram), (0x13, .softReset)]
  (∀ (p : Port) (code : Byte) (rest : List Byte), (p = .platform ∨ code ≠ 0) → rest.length < 2 →
    frameMessage p (code :: rest) = .malformed) ∧
  (∀ (p : Port) (code hi lo : Byte) (body : List Byte), (p = .platform ∨ code ≠ 0) →
    (1024 < hi.toNat * 256 + lo.toNat ∨ body.length < hi.toNat * 256 + lo.toNat ∨
      (p = .platform ∧ hi.toNat * 256 + lo.toNat < body.length) ∨ code.toNat = 0 ∨ 0x13 < code.toNat) →
    frameMessage p (code :: hi :: lo :: body) = .malformed) ∧
  (∀ row ∈ codes, ∀ (p : Port) (hi lo : Byte) (body : List Byte), hi.toNat * 256 + lo.toNat ≤ 1024 →
    hi.toNat * 256 + lo.toNat ≤ body.length → (p = .platform → body.length = hi.toNat * 256 + lo.toNat) →
    let payload := body.take (hi.toNat * 256 + lo.toNat)
    frameMessage p (row.1 :: hi :: lo :: body) = .request row.2 payload ∧
      ∀ s : State, exec (.unknownRequest p (row.1 :: hi :: lo :: body)) s = exec (requestOn row.2 p payload) s) ∧
  ∀ rest : List Byte, frameMessage .system (0 :: rest) = .noRequest

/-- R180 and R181: a message the framing tests refuse gets BUSY as a note in WORKING; otherwise the slot gives up what it held
and holds MALFORMED, and in DOZE the request also starts warm-up (R184). That the port unit answers it at once in DOZE is
inferred (log entry 7) (witness `witness_malformed`). -/
def Obligations.MalformedMessageIsAnswered : Prop :=
  ∀ (p : Port) (message : List Byte) (s : State), s.clk.power = .running → frameMessage p message = .malformed →
    ((s.port p).slot = .working →
      exec (.unknownRequest p message) s =
        .next (s.setPort p { slot := .working, note := true, out := s.outAfter p })) ∧
    ((s.port p).slot ≠ .working → s.clk.state ≠ .doze →
      exec (.unknownRequest p message) s = .next (s.answered p { result := .malformed, payload := [] })) ∧
    ((s.port p).slot ≠ .working → s.clk.state = .doze →
      exec (.unknownRequest p message) s =
        .next ((s.setClk { s.clk with state := .warmUp, quietTicks := 0, wakeDue := none }).answered p
          { result := .malformed, payload := [] }))

/-- R180 and R181: what a POLL and a read of the slot shift out in each state of the slot, the result codes by their table, with
0xFF past the end, and what each leaves. That a POLL leaves the note too is the model's choice (log entry 4) (witness
`witness_slotReads`). -/
def Obligations.SlotReadsFollowTheTable : Prop :=
  let codes : List (Result × Byte) :=
    [(.done, 0x00), (.accepted, 0x01), (.notReady, 0x02), (.busy, 0x03), (.wrongState, 0x04), (.outOfRange, 0x05),
      (.malformed, 0x06), (.notPermitted, 0x07), (.locked, 0x08), (.checkFailed, 0x09), (.cancelled, 0x0A)]
  (∀ r : Result, ∃ row ∈ codes, row.1 = r) ∧
  ∀ (p : Port) (n : Nat) (s : State), s.clk.power = .running →
    let shifted := fun (message : List Byte) => (message ++ List.replicate n 0xFF).take n
    let polled := fun (message : List Byte) =>
      exec (.poll n) s = .next (s.setPort .system { s.ports.sys with out := shifted message })
    (∀ row ∈ codes, ∀ payload : List Byte, (s.port p).slot = .ready { result := row.1, payload := payload } →
      let message := row.2 :: (beBytes 2 payload.length ++ payload)
      exec (.responseRead p n) s = .next (s.setPort p { s.port p with out := shifted message }) ∧
        (p = .system → polled message)) ∧
    ((s.port p).slot = .working →
      let message : List Byte := [if (s.port p).note then 0x03 else 0x02, 0, 0]
      exec (.responseRead p n) s =
        .next (s.setPort p { slot := .working, note := false, out := shifted message }) ∧
        (p = .system → polled message)) ∧
    ((s.port p).slot = .empty →
      let message : List Byte := [0x02, 0, 0]
      exec (.responseRead p n) s = .next (s.setPort p { slot := .empty, note := false, out := shifted message }) ∧
        (p = .system → polled message))

/-! ## The presence table and the pool (Chapters 1 and 2) -/

/-- R15, R18 and R2: PUT_SLOT's checks in their order, each refusal with the slot, the counts and every other record as they
were: each field at fault (R16, R29; badImage) is refused with its result and its offset; a sound image within the kind limits
is written in one taking, the kind counts with it, and nothing else changes. Which field's offset a fault is met at is in some
cases the model's choice (log entry 9) (witnesses `witness_putSlot`, `witness_badImage`). -/
def Obligations.PutSlotIsCheckedAndWritten : Prop :=
  ∀ (p : Port) (payload : List Byte) (s : State), payload.length ≤ 1024 → s.readyFor p .putSlot →
    (p = .platform →
      exec (.putSlot p payload) s = .next (s.answered p { result := .notPermitted, payload := [] })) ∧
    (p = .system → s.custody.state ≠ .home →
      exec (.putSlot p payload) s = .next (s.answered p { result := .wrongState, payload := [] })) ∧
    (p = .system → s.custody.state = .home → ∀ offset result, badImage payload offset result →
      exec (.putSlot p payload) s = .next (s.answered p { result := result, payload := beBytes 2 offset })) ∧
    (p = .system → s.custody.state = .home → ∀ e, readImage payload = .error e →
      exec (.putSlot p payload) s =
        .next (s.answered p { result := e.result, payload := beBytes 2 e.offset })) ∧
    (p = .system → s.custody.state = .home → ∀ i r, readImage payload = .ok (i, r) →
      (((s.table.counts.remove (s.slot i)).add r).within = false →
        exec (.putSlot p payload) s = .next (s.answered p { result := .outOfRange, payload := [0, 1] })) ∧
      (((s.table.counts.remove (s.slot i)).add r).within = true →
        exec (.putSlot p payload) s =
          .next ((s.setTable
            { s.table with
              slots := s.table.slots.set i.val (some r) i.isLt
              counts := (s.table.counts.remove (s.slot i)).add r }).answered p { result := .done, payload := [] })))

/-- R16, R17 and R18: whatever image PUT_SLOT accepts, the record it stores has every configuration field in its range
and every state field at its initial value; and each clamped field, whatever number is written, is stored as R17's table says:
above its range the maximum, below it the minimum, the maximum delay against the stored minimum (witnesses
`witness_putSlot`, `witness_clamps`). -/
def Obligations.StoredRecordIsInRange : Prop :=
  (∀ (payload : List Byte) (i : SlotIx) (r : Record), readImage payload = .ok (i, r) → r.config.inRange ∧ r.isFresh) ∧
  (∀ (i : SlotIx) (c : ClaimConfig) (count spacing window : Nat), (RecordConfig.claim c).inRange → count < 256 →
    spacing < 2 ^ 32 → window < 2 ^ 32 →
    readImage (putImage i (.claim (Claim.fresh
      { c with probeCount := count, probeSpacing := spacing, defenceWindow := window }))) =
      .ok (i, .claim (Claim.fresh { c with
        probeCount := min count 7
        probeSpacing := max 1 (min spacing (2 ^ 30)), defenceWindow := max 1 (min window (2 ^ 30)) }))) ∧
  (∀ (i : SlotIx) (x : StreamConfig) (values : Option (SeqValue × SeqValue)) (period retry misses : Nat),
    (RecordConfig.stream x).inRange → period < 2 ^ 32 → retry < 2 ^ 32 → misses < 256 →
    readImage (putImage i (.stream (Stream.fresh
      { x with period := period, retrySpacing := retry, missLimit := misses } values))) =
      .ok (i, .stream (Stream.fresh { x with
        period := max 16 (min period (2 ^ 20)), retrySpacing := max 1 (min retry (2 ^ 16))
        missLimit := max 1 (min misses 15) } values))) ∧
  ∀ (i : SlotIx) (x : ExchangeConfig) (captures : Vector SeqValue 4) (counter : SeqValue) (first timeout retries : Nat),
    (RecordConfig.exchange x).inRange → first < 2 ^ 32 → timeout < 2 ^ 32 → retries < 256 →
    let written := fun (schedule : Schedule) => readImage (putImage i (.exchange (Exchange.fresh
      { x with firstDelay := first, schedule := schedule, replyTimeout := timeout, retryLimit := retries } captures
        counter)))
    let stored := fun (schedule : Schedule) => Except.ok (ε := WalkFault) (i, Record.exchange (Exchange.fresh { x with
      firstDelay := max 1 (min first (2 ^ 30)), schedule := schedule
      replyTimeout := max 1 (min timeout (2 ^ 16)), retryLimit := min retries 15 } captures counter))
    (∀ period < 2 ^ 32, written (.fixed period) = stored (.fixed (max 1 (min period (2 ^ 30))))) ∧
    ∀ index fraction low high : Nat, index ≤ 3 → fraction < 256 → low < 2 ^ 32 → high < 2 ^ 32 →
      let least := max 1 (min low (2 ^ 30))
      written (.captured index fraction low high) =
        stored (.captured index (max 1 fraction) least (max least (min high (2 ^ 30))))

/-- R14: the image of every record PUT_SLOT could have stored is read back to that slot and record: no field and no value of
a field is lost on the way (witness `witness_imageReadBack`). -/
def Obligations.PutImageReadsBack : Prop :=
  ∀ (i : SlotIx) (r : Record), r.config.inRange → r.isFresh → readImage (putImage i r) = .ok (i, r)

/-- R19: GET_SLOT is taken from either port in every custody state, even during a profile load, and changes nothing but the
port's slot; its refusals; and the image itself, for an empty slot and for each kind: slot index, kind code, and every field of
the record in the order of section 1.4 in the encodings of R14 and R28; the image PUT_SLOT reads has the fields the host writes
(witness `witness_ready`). -/
def Obligations.GetSlotReturnsTheImage : Prop :=
  let u1 := fun (n : Nat) => ([BitVec.ofNat 8 n] : List Byte)
  let u2 := fun (n : Nat) => u1 (n / 256) ++ u1 n
  let u4 := fun (n : Nat) => u2 (n / 65536) ++ u2 n
  let flag := fun (b : Bool) => u1 (if b then 1 else 0)
  let link := fun (l : Link) => l.elim (u1 255) fun j => u1 j.val
  let probe := fun (p : Probe) =>
    match p with
    | .masked offset vm => u2 offset ++ u1 vm.length ++ u1 0 ++ vm.map Prod.fst ++ vm.map Prod.snd
    | .equalsCounter offset len => u2 offset ++ u1 len ++ u1 1
  let descriptor := fun (d : Descriptor) => u1 d.length ++ d.flatMap probe
  let source := fun (x : Source) =>
    match x with
    | .rx o => u1 0 ++ u2 o
    | .claimAddr => u1 1 ++ u2 0
    | .stationAddr => u1 2 ++ u2 0
    | .seqOut => u1 3 ++ u2 0
    | .seqOutLess1 => u1 4 ++ u2 0
    | .seqIn => u1 5 ++ u2 0
    | .capture k => u1 6 ++ u2 k
    | .counter => u1 7 ++ u2 0
    | .time => u1 8 ++ u2 0
  let template := fun (t : Template) =>
    u2 t.totalLen ++
      u1 t.segments.length ++ t.segments.flatMap (fun g => u1 g.startBlock ++ u2 g.len ++ flag g.endFlag) ++
      u1 t.substs.length ++ t.substs.flatMap (fun u => u2 u.offset ++ u1 u.len ++ source u.source) ++
      u1 t.checksums.length ++ t.checksums.flatMap (fun c =>
        u2 c.spanStart ++ u2 (c.spanEnd.getD 0xFFFF) ++ u2 c.fieldOffset ++ u2 c.baseSum.toNat ++ flag c.zeroAsOnes)
  let optionalTemplate := fun (t : Option Template) => t.elim (u1 0) fun t => u1 1 ++ template t
  let claim := fun (c : ClaimConfig) =>
    u1 1 ++ u1 c.address.length ++ c.address ++ descriptor c.assertion ++ u2 c.assertionOffset ++
      optionalTemplate c.probeTemplate ++ optionalTemplate c.announceTemplate ++ u1 c.probeCount ++ u4 c.probeSpacing ++
      u4 c.defenceWindow ++ link c.exchangeLink
  let responder := fun (r : ResponderConfig) =>
    u1 2 ++ descriptor r.descriptor ++ template r.answerTemplate ++ link r.claimLink ++
      u1 (match r.cls with | .essential => 0 | .courtesy => 1)
  let filter := fun (f : FilterConfig) =>
    u1 3 ++ descriptor f.descriptor ++ u1 (match f.action with | .rouse => 0 | .discard => 1)
  let stream := fun (x : StreamConfig) =>
    u1 4 ++ descriptor x.inbound ++ descriptor x.outbound ++ u2 x.seqOffset ++ u2 x.ackOffset ++ u2 x.headerLen ++
      (x.closeProbe.elim (u1 0) fun p => u1 1 ++ probe p) ++ flag x.tracking ++ template x.probeTemplate ++
      template x.replyTemplate ++ u4 x.period ++ u4 x.retrySpacing ++ u1 x.missLimit ++ link x.claimLink
  let exchange := fun (x : Exchange) =>
    u1 5 ++ template x.cfg.requestTemplate ++ descriptor x.cfg.reply ++
      (x.cfg.decline.elim (u1 0) fun d => u1 1 ++ descriptor d) ++ u1 x.cfg.captureSpecs.length ++
      x.cfg.captureSpecs.flatMap (fun c => u2 c.offset ++ u1 c.len) ++
      x.captures.toList.flatMap (fun v => u4 v.toNat) ++ u4 x.cfg.firstDelay ++
      (match x.cfg.schedule with
        | .fixed period => u1 0 ++ u4 period
        | .captured k f low high => u1 1 ++ u1 k ++ u1 f ++ u4 low ++ u4 high) ++
      u4 x.cfg.replyTimeout ++ u1 x.cfg.retryLimit ++ u4 x.sendCounter.toNat ++ link x.cfg.claimLink
  (∀ (p : Port) (s : State), s.clk.power = .running → s.clk.state = .active → (s.port p).slot ≠ .working →
    (∀ i : SlotIx, exec (.getSlot p [BitVec.ofNat 8 i.val]) s =
      .next (s.answered p { result := .done, payload := slotImage i (s.slot i) })) ∧
    (∀ payload : List Byte, payload.length ≤ 1024 → payload.length ≠ 1 →
      exec (.getSlot p payload) s = .next (s.answered p { result := .malformed, payload := [] })) ∧
    (∀ b : Byte, 127 < b.toNat →
      exec (.getSlot p [b]) s = .next (s.answered p { result := .outOfRange, payload := [] }))) ∧
  ∀ i : SlotIx,
    slotImage i none = u1 i.val ++ u1 0 ∧
    (∀ c : Claim, slotImage i (some (.claim c)) = u1 i.val ++ claim c.cfg ++
      u1 (match c.state with | .held => 0 | .probing => 1 | .contested => 2 | .lost => 3) ++ u1 c.probesRemaining ++
      u2 c.conflictsSeen.toNat ++ flag c.reprobePending) ∧
    (∀ r : Responder, slotImage i (some (.responder r)) =
      u1 i.val ++ responder r.cfg ++ u2 r.answersSent.toNat ++ u2 r.answersSuppressed.toNat) ∧
    (∀ f : Filter, slotImage i (some (.filter f)) = u1 i.val ++ filter f.cfg ++ u2 f.hits.toNat) ∧
    (∀ x : Stream, slotImage i (some (.stream x)) = u1 i.val ++ stream x.cfg ++
      u4 x.ourSeq.toNat ++ u4 x.peerSeq.toNat ++ flag x.valuesValid ++
      u1 (match x.state with | .idle => 0 | .probeDue => 1 | .outstanding => 2 | .ended => 3) ++ u4 x.nextDue.toNat ++
      u1 x.misses ++ u2 x.probesSent.toNat ++ u2 x.acksSeen.toNat ++ u2 x.repliesSent.toNat ++
      u2 x.staleFrames.toNat) ∧
    (∀ x : Exchange, slotImage i (some (.exchange x)) = u1 i.val ++ exchange x ++
      u1 (match x.state with | .waiting => 0 | .queued => 1 | .awaiting => 2 | .rest => 3 | .halted => 4) ++
      (x.haltReason.elim (u1 0) fun r => u1 1 ++ u1 (match r with | .failed => 0 | .declined => 1)) ++
      u1 x.attempts ++ u4 x.nextDue.toNat ++ flag x.openAtReturn ++ u2 x.sends.toNat ++ u2 x.replies.toNat) ∧
    (∀ c : Claim, putImage i (.claim c) = u1 i.val ++ claim c.cfg) ∧
    (∀ r : Responder, putImage i (.responder r) = u1 i.val ++ responder r.cfg) ∧
    (∀ f : Filter, putImage i (.filter f) = u1 i.val ++ filter f.cfg) ∧
    (∀ x : Stream, putImage i (.stream x) = u1 i.val ++ stream x.cfg ++
      (if x.valuesValid then u1 1 ++ u4 x.ourSeq.toNat ++ u4 x.peerSeq.toNat else u1 0)) ∧
    ∀ x : Exchange, putImage i (.exchange x) = u1 i.val ++ exchange x

/-- R20: CLEAR_SLOT's checks in their order; otherwise the record goes and the count of its kind is lowered, and a slot already
empty is answered DONE with nothing changed (witness `witness_ready`). -/
def Obligations.ClearSlotEmptiesTheSlot : Prop :=
  ∀ (p : Port) (payload : List Byte) (s : State), payload.length ≤ 1024 → s.readyFor p .clearSlot →
    (p = .platform →
      exec (.clearSlot p payload) s = .next (s.answered p { result := .notPermitted, payload := [] })) ∧
    (p = .system → s.custody.state ≠ .home →
      exec (.clearSlot p payload) s = .next (s.answered p { result := .wrongState, payload := [] })) ∧
    (p = .system → s.custody.state = .home → payload.length ≠ 1 →
      exec (.clearSlot p payload) s = .next (s.answered p { result := .malformed, payload := [] })) ∧
    (p = .system → s.custody.state = .home → ∀ b : Byte, payload = [b] → 127 < b.toNat →
      exec (.clearSlot p payload) s = .next (s.answered p { result := .outOfRange, payload := [] })) ∧
    (p = .system → s.custody.state = .home → ∀ i : SlotIx, payload = [BitVec.ofNat 8 i.val] →
      exec (.clearSlot p payload) s =
        .next ((s.setTable
          { s.table with
            slots := s.table.slots.set i.val none i.isLt
            counts := s.table.counts.remove (s.slot i) }).answered p { result := .done, payload := [] }) ∧
      (s.slot i = none →
        exec (.clearSlot p payload) s = .next (s.answered p { result := .done, payload := [] })))

/-- R26: an accepted POOL_WRITE writes its data bytes from the start offset upward and leaves every other pool byte and all
else as it was. The premise on the pool is kept by every step (MemoriesStayCanonical) (witness `witness_poolWrite`). -/
def Obligations.PoolWriteWritesItsBytes : Prop :=
  ∀ (start : Nat) (data : List Byte) (s : State), s.readyFor .system .poolWrite → s.custody.state = .home →
    memWf poolBlank s.pool = true → 1 ≤ data.length → data.length ≤ 256 → start + data.length ≤ 16384 →
      ∃ pool, exec (.poolWrite .system (beBytes 2 start ++ data)) s =
          .next ((s.setPool pool).answered .system { result := .done, payload := [] }) ∧
        ∀ a : Nat, memRead poolBlank pool a =
          if start ≤ a ∧ a < start + data.length then data.getD (a - start) 0 else s.poolByte a

/-- R27 and R26: POOL_READ's checks in their order and the bytes it returns, in every custody state; the checks of POOL_WRITE,
each of which leaves the pool unchanged (witness `witness_ready`). -/
def Obligations.PoolRequestsAreChecked : Prop :=
  ∀ (p : Port) (payload : List Byte) (s : State), payload.length ≤ 1024 →
    (s.readyFor p .poolRead →
      (p = .platform →
        exec (.poolRead p payload) s = .next (s.answered p { result := .notPermitted, payload := [] })) ∧
      (p = .system → payload.length ≠ 4 →
        exec (.poolRead p payload) s = .next (s.answered p { result := .malformed, payload := [] })) ∧
      (p = .system → ∀ start n : Nat, start < 65536 → n < 65536 → payload = beBytes 2 start ++ beBytes 2 n →
        (n = 0 ∨ 256 < n ∨ 16383 < start ∨ 16384 < start + n →
          exec (.poolRead p payload) s = .next (s.answered p { result := .outOfRange, payload := [] })) ∧
        (1 ≤ n → n ≤ 256 → start + n ≤ 16384 →
          exec (.poolRead p payload) s =
            .next (s.answered p
              { result := .done, payload := (List.range n).map fun k => s.poolByte (start + k) })))) ∧
    (s.readyFor p .poolWrite →
      (p = .platform →
        exec (.poolWrite p payload) s = .next (s.answered p { result := .notPermitted, payload := [] })) ∧
      (p = .system → s.custody.state ≠ .home →
        exec (.poolWrite p payload) s = .next (s.answered p { result := .wrongState, payload := [] })) ∧
      (p = .system → s.custody.state = .home → payload.length < 3 ∨ 258 < payload.length →
        exec (.poolWrite p payload) s = .next (s.answered p { result := .malformed, payload := [] })) ∧
      (p = .system → s.custody.state = .home → ∀ (start : Nat) (data : List Byte), start < 65536 →
        payload = beBytes 2 start ++ data → 1 ≤ data.length → data.length ≤ 256 →
        16383 < start ∨ 16384 < start + data.length →
        exec (.poolWrite p payload) s = .next (s.answered p { result := .outOfRange, payload := [] })))

/-- R30 to R33, R36, R37 and R39: a template that meets no failing test builds, from whatever its sources supply, a frame of
60 … 1,514 bytes; its chain lies in the pool and gives exactly its total length; each substitution and checksum field lies
inside it. The frame's every byte: the segments' pool bytes laid end to end, over them at each place the value
(SubstitutionFitsItsValue) of the substitution listed last that writes there, then each checksum in the order listed over the
bytes as they stand, then 0x00 up to 60. R34, R41 and R42: a build in a state draws on that state's pool, station address and
part time, the owner's record, the received frame, and the address of the owner or of the claim it links (witnesses
`witness_soundTemplate`, `witness_build`). -/
def Obligations.CheckedTemplateAlwaysBuilds : Prop :=
  let laid := fun (pool : List Host.Cell) (segments : List Segment) =>
    segments.flatMap fun g => (List.range g.len).map fun k => memRead 0x00 pool (64 * g.startBlock + k)
  let substituted := fun (ctx : BuildContext) (t : Template) =>
    (List.range t.totalLen).map fun k =>
      match t.substs.reverse.find? fun u => decide (u.offset ≤ k ∧ k < u.offset + u.len) with
      | some u => (substValue ctx u.source u.len).getD (k - u.offset) 0
      | none => (laid ctx.pool t.segments).getD k 0
  let checksum := fun (n : Nat) (bytes : List Byte) (c : ChecksumSpec) =>
    let total := c.baseSum.toNat + ((List.range (c.spanEnd.getD n - c.spanStart)).map fun j =>
      let k := c.spanStart + j
      if k = c.fieldOffset ∨ k = c.fieldOffset + 1 then 0
      else (bytes.getD k 0).toNat * (if j % 2 = 0 then 256 else 1)).sum
    let folded := if total = 0 then 0 else (total - 1) % 65535 + 1
    if 0xFFFF - folded = 0 ∧ c.zeroAsOnes = true then 0xFFFF else 0xFFFF - folded
  let summed := fun (n : Nat) (bytes : List Byte) (c : ChecksumSpec) =>
    (List.range n).map fun k =>
      if k = c.fieldOffset then BitVec.ofNat 8 (checksum n bytes c / 256)
      else if k = c.fieldOffset + 1 then BitVec.ofNat 8 (checksum n bytes c) else bytes.getD k 0
  (∀ (t : Template) (owner : Record) (rxAllowed : Bool), t.inRange rxAllowed → t.reason owner = none →
    (∀ g ∈ t.segments, 64 * g.startBlock + g.len ≤ 16384) ∧
    (∀ pool, layChain pool t.segments = laid pool t.segments ∧ (layChain pool t.segments).length = t.totalLen) ∧
    (∀ u ∈ t.substs, u.offset + u.len ≤ t.totalLen) ∧
    (∀ c ∈ t.checksums, c.fieldOffset + 2 ≤ c.spanEnd.getD t.totalLen ∧ c.spanEnd.getD t.totalLen ≤ t.totalLen) ∧
    ∀ ctx : BuildContext,
      buildFrame ctx t =
        t.checksums.foldl (summed t.totalLen) (substituted ctx t) ++ List.replicate (60 - t.totalLen) 0 ∧
      (buildFrame ctx t).length = max 60 t.totalLen ∧ max 60 t.totalLen ≤ 1514) ∧
  ∀ (s : State) (owner : Record) (t : Template) (received address : List Byte),
    let linked := fun (link : Link) => ∃ i c, link = some i ∧ s.claimAt i = some c ∧ address = c.cfg.address
    (match owner with
      | .claim c => address = c.cfg.address
      | .responder r => linked r.cfg.claimLink
      | .stream x => linked x.cfg.claimLink
      | .exchange x => linked x.cfg.claimLink
      | .filter _ => False) ∨ (∀ u ∈ t.substs, u.source ≠ .claimAddr) →
    s.build owner t received =
      buildFrame
        { pool := s.pool, stationAddr := s.table.stationAddr, now := s.clk.partTime, owner := owner
          claimAddress := address, received := received } t

/-- R38: in the frame a checked template builds, the 16-bit ones' complement sum of each checksum's span as it stands, plus the
base sum, folds to 0xFFFF (witness `witness_soundTemplate`). -/
def Obligations.EverySpanSumsToAllOnes : Prop :=
  ∀ (t : Template) (owner : Record) (rxAllowed : Bool) (ctx : BuildContext), t.inRange rxAllowed →
    t.reason owner = none → ∀ c ∈ t.checksums,
      foldSum (sumWords (bytesAt (buildFrame ctx t) c.spanStart (c.spanEnd.getD t.totalLen - c.spanStart)) +
        c.baseSum.toNat) = 0xFFFF

/-- R35: what each kind of source writes: exactly the substitution's length; a number's low bytes behind zero bytes; an
address from its first byte with zero bytes behind it; received bytes with 0x00 past the frame's end (witness
`witness_substitution`). -/
def Obligations.SubstitutionFitsItsValue : Prop :=
  ∀ (ctx : BuildContext) (n : Nat),
    (∀ source, (substValue ctx source n).length = n) ∧
    (∀ k < n, (substValue ctx .time n)[n - 1 - k]? =
      some (if k < 4 then BitVec.ofNat 8 (ctx.now.toNat / 256 ^ k) else 0)) ∧
    (∀ t k, ctx.owner = .stream t → k < n →
      (substValue ctx .seqOut n)[n - 1 - k]? =
        some (if k < 4 then BitVec.ofNat 8 (t.ourSeq.toNat / 256 ^ k) else 0) ∧
      (substValue ctx .seqOutLess1 n)[n - 1 - k]? =
        some (if k < 4 then BitVec.ofNat 8 ((t.ourSeq - 1).toNat / 256 ^ k) else 0) ∧
      (substValue ctx .seqIn n)[n - 1 - k]? =
        some (if k < 4 then BitVec.ofNat 8 (t.peerSeq.toNat / 256 ^ k) else 0)) ∧
    (∀ x k j, ctx.owner = .exchange x → k < n →
      (substValue ctx .counter n)[n - 1 - k]? =
        some (if k < 4 then BitVec.ofNat 8 (x.sendCounter.toNat / 256 ^ k) else 0) ∧
      (substValue ctx (.capture j) n)[n - 1 - k]? =
        some (if k < 4 then BitVec.ofNat 8 ((x.captures.toList.getD j 0).toNat / 256 ^ k) else 0)) ∧
    (∀ k < n, (substValue ctx .claimAddr n)[k]? = some (ctx.claimAddress.getD k 0) ∧
      (substValue ctx .stationAddr n)[k]? = some ((beBytes 6 ctx.stationAddr.toNat).getD k 0)) ∧
    ∀ o, ∀ k < n, (substValue ctx (.rx o) n)[k]? = some (ctx.received.getD (o + k) 0)

/-- R3 to R5: when a frame passes a masked probe, an equals-counter probe and a descriptor (witness
`witness_substitution`). -/
def Obligations.ProbesTestTheirBytes : Prop :=
  (∀ (counter : SeqValue) (bytes : List Byte) (offset : Nat) (vm : List (Byte × Byte)),
    (Probe.masked offset vm).passes counter bytes = true ↔
      offset + vm.length ≤ bytes.length ∧
        ∀ k < vm.length, bytes.getD (offset + k) 0 &&& (vm.getD k (0, 0)).2 =
          (vm.getD k (0, 0)).1 &&& (vm.getD k (0, 0)).2) ∧
  (∀ (counter : SeqValue) (bytes : List Byte) (offset len : Nat), len ≤ 4 →
    ((Probe.equalsCounter offset len).passes counter bytes = true ↔
      offset + len ≤ bytes.length ∧
        ∀ k < len, bytes.getD (offset + k) 0 = BitVec.ofNat 8 (counter.toNat / 256 ^ (len - 1 - k)))) ∧
  ∀ (counter : SeqValue) (bytes : List Byte) (d : Descriptor),
    descriptorPasses counter bytes d = true ↔ ∀ p ∈ d, p.passes counter bytes = true

/-! ## Custody (Chapter 3) -/

/-- R45, R53, R54 and R62: the refusals of the requests of custody, in the order of their checks, each with nothing else
changed; a LEND that passes its tests enters CHECKING at the station-address step and is not yet answered (witness
`witness_ready`). -/
def Obligations.CustodyRequestsAreChecked : Prop :=
  ∀ (p : Port) (payload : List Byte) (s : State), payload.length ≤ 1024 →
    (s.readyFor p .lend →
      (p = .platform →
        exec (.lend p payload) s = .next (s.answered p { result := .notPermitted, payload := [] })) ∧
      (p = .system → s.custody.state ≠ .home →
        exec (.lend p payload) s = .next (s.answered p { result := .wrongState, payload := [] })) ∧
      (p = .system → s.custody.state = .home → payload ≠ [] →
        exec (.lend p payload) s = .next (s.answered p { result := .malformed, payload := [] })) ∧
      (p = .system → s.custody.state = .home → payload = [] →
        exec (.lend p payload) s =
          .next ((s.working p).setCustody { s.custody with state := .checking, cursor := some .station }))) ∧
    (s.readyFor p .reclaim →
      (p = .platform →
        exec (.reclaim p payload) s = .next (s.answered p { result := .notPermitted, payload := [] })) ∧
      (p = .system → s.custody.state = .home →
        exec (.reclaim p payload) s = .next (s.answered p { result := .wrongState, payload := [] })) ∧
      (p = .system → s.custody.state = .quiesce ∨ s.custody.state = .drain →
        exec (.reclaim p payload) s = .next (s.answered p { result := .busy, payload := [] })) ∧
      (p = .system → s.custody.state.lent = true → payload ≠ [] →
        exec (.reclaim p payload) s = .next (s.answered p { result := .malformed, payload := [] }))) ∧
    (s.readyFor p .recall →
      (p = .system →
        exec (.recall p payload) s = .next (s.answered p { result := .notPermitted, payload := [] })) ∧
      (p = .platform → s.custody.state = .home →
        exec (.recall p payload) s = .next (s.answered p { result := .wrongState, payload := [] })) ∧
      (p = .platform → s.custody.state ≠ .home → payload ≠ [0] → payload ≠ [1] →
        exec (.recall p payload) s = .next (s.answered p { result := .malformed, payload := [] }))) ∧
    (s.readyFor p .softReset →
      (p = .platform →
        exec (.softReset p payload) s = .next (s.answered p { result := .notPermitted, payload := [] })) ∧
      (p = .system → s.custody.state ≠ .home →
        exec (.softReset p payload) s = .next (s.answered p { result := .wrongState, payload := [] })) ∧
      (p = .system → s.custody.state = .home → s.store.op ≠ none →
        exec (.softReset p payload) s = .next (s.answered p { result := .busy, payload := [] })) ∧
      (p = .system → s.custody.state = .home → s.store.op = none → payload ≠ [] →
        exec (.softReset p payload) s = .next (s.answered p { result := .malformed, payload := [] })))

/-- R46 and R48: one step of the check at each cursor: it fails with CHECK_FAILED, slot and the reason's code, or the cursor
moves on, and nothing else changes (witness `witness_checking`). -/
def Obligations.CheckStepFollowsTheCursor : Prop :=
  let codes : List (CheckReason × Byte) :=
    [(.poolRange, 1), (.chainLength, 2), (.fieldRange, 3), (.noSource, 4), (.linkKind, 5), (.duplicateClaim, 6)]
  ∀ s : State, s.canTake = true → s.custody.state = .checking →
    let failed := fun (slotByte reason : Byte) =>
      (s.setCustody { s.custody with state := .home, cursor := none }).setPort .system
        { s.ports.sys with slot := .ready { result := .checkFailed, payload := [slotByte, reason] }, note := false }
    (s.custody.cursor = some .station → s.table.stationAddr = 0 →
      exec .lendCheckStep s = .next (failed 0xFF 7)) ∧
    (s.custody.cursor = some .station → s.table.stationAddr ≠ 0 →
      exec .lendCheckStep s = .next (s.setCustody { s.custody with cursor := some (.slot 0) })) ∧
    (∀ (i : SlotIx) (r : CheckReason), s.slotReason i = some r → ∃ row ∈ codes, row.1 = r) ∧
    (∀ row ∈ codes, ∀ i : SlotIx, s.custody.cursor = some (.slot i) → s.slotReason i = some row.1 →
      exec .lendCheckStep s = .next (failed (BitVec.ofNat 8 i.val) row.2)) ∧
    ∀ i j : SlotIx, s.custody.cursor = some (.slot i) → s.slotReason i = none → j.val = i.val + 1 →
      exec .lendCheckStep s = .next (s.setCustody { s.custody with cursor := some (.slot j) })

/-- R47 with R31 to R33: the tests of a slot step in their order: an empty slot passes; templates in image order, each by
POOL_RANGE, CHAIN_LENGTH, FIELD_RANGE and NO_SOURCE, then links, then duplicates (witnesses `witness_slotTests`,
`witness_templateReasons`). -/
def Obligations.SlotTestsRunInOrder : Prop :=
  (∀ (t : Template) (owner : Record),
    let n := t.totalLen
    let stop := fun (c : ChecksumSpec) => c.spanEnd.getD n
    let leavesPool := ∃ g ∈ t.segments, 16383 < 64 * g.startBlock + g.len - 1
    let chainFails := t.segments.map Segment.endFlag ≠ List.replicate (t.segments.length - 1) false ++ [true] ∨
      (t.segments.map Segment.len).sum ≠ n
    let fieldFails := (∃ u ∈ t.substs, n < u.offset + u.len) ∨
      (∃ c ∈ t.checksums, n ≤ c.spanStart ∨ (∃ e, c.spanEnd = some e ∧ (n < e ∨ e ≤ c.spanStart)) ∨
        c.fieldOffset < c.spanStart ∨ stop c < c.fieldOffset + 2 ∨ (c.fieldOffset - c.spanStart) % 2 = 1) ∨
      ∃ a b, t.checksums = [a, b] ∧ ((a.spanStart ≤ b.fieldOffset ∧ b.fieldOffset < stop a) ∨
        (a.spanStart ≤ b.fieldOffset + 1 ∧ b.fieldOffset + 1 < stop a))
    let isClaim := ∃ c, owner = .claim c
    let isStream := ∃ x, owner = .stream x
    let isExchange := ∃ x, owner = .exchange x
    let lacksSource := ∃ u ∈ t.substs,
      (u.source = .claimAddr ∧ ¬ isClaim ∧ owner.claimLink = none) ∨
        ((u.source = .seqOut ∨ u.source = .seqOutLess1 ∨ u.source = .seqIn) ∧ ¬ isStream) ∨
        (((∃ k, u.source = .capture k) ∨ u.source = .counter) ∧ ¬ isExchange)
    (leavesPool → t.reason owner = some .poolRange) ∧
    (¬ leavesPool → chainFails → t.reason owner = some .chainLength) ∧
    (¬ leavesPool → ¬ chainFails → fieldFails → t.reason owner = some .fieldRange) ∧
    (¬ leavesPool → ¬ chainFails → ¬ fieldFails → lacksSource → t.reason owner = some .noSource) ∧
    (¬ leavesPool → ¬ chainFails → ¬ fieldFails → ¬ lacksSource → t.reason owner = none)) ∧
  (∀ c : Claim, (Record.claim c).templates = c.cfg.probeTemplate.toList ++ c.cfg.announceTemplate.toList) ∧
  (∀ r : Responder, (Record.responder r).templates = [r.cfg.answerTemplate]) ∧
  (∀ f : Filter, (Record.filter f).templates = []) ∧
  (∀ x : Stream, (Record.stream x).templates = [x.cfg.probeTemplate, x.cfg.replyTemplate]) ∧
  (∀ x : Exchange, (Record.exchange x).templates = [x.cfg.requestTemplate]) ∧
  ∀ (s : State) (i : SlotIx),
    (s.slot i = none → s.slotReason i = none) ∧
    ∀ r : Record, s.slot i = some r →
      (∀ before t after reason, r.templates = before ++ t :: after →
        (∀ u ∈ before, u.reason r = none) → t.reason r = some reason → s.slotReason i = some reason) ∧
      ((∀ t ∈ r.templates, t.reason r = none) →
        (∀ j, r.claimLink = some j → s.claimAt j = none → s.slotReason i = some .linkKind) ∧
        (∀ c j, r = .claim c → c.cfg.exchangeLink = some j → s.exchangeAt j = none →
          s.slotReason i = some .linkKind) ∧
        (∀ c, r = .claim c → (∀ j, c.cfg.exchangeLink = some j → s.exchangeAt j ≠ none) →
          ((∃ j d, i < j ∧ s.claimAt j = some d ∧ d.cfg.address = c.cfg.address) →
            s.slotReason i = some .duplicateClaim) ∧
          ((∀ j d, i < j → s.claimAt j = some d → d.cfg.address ≠ c.cfg.address) → s.slotReason i = none)) ∧
        ((∀ c, r ≠ .claim c) → (∀ j, r.claimLink = some j → s.claimAt j ≠ none) → s.slotReason i = none))

/-- R46 and R47 over a whole check: an unset station address is reported before any slot, otherwise the lowest failing slot
with its reason; a table with no failing slot reaches slot 127 (witness `witness_checkRun`). -/
def Obligations.CheckReportsTheLowestFault : Prop :=
  ∀ s : State, s.canTake = true → s.custody.state = .checking → s.custody.cursor = some .station →
    let failed := fun (slotByte reason : Byte) =>
      (s.setCustody { s.custody with state := .home, cursor := none }).setPort .system
        { s.ports.sys with slot := .ready { result := .checkFailed, payload := [slotByte, reason] }, note := false }
    (s.table.stationAddr = 0 → checkSteps 1 s = failed 0xFF 7) ∧
    (s.table.stationAddr ≠ 0 →
      (∀ (i : SlotIx) (r : CheckReason), s.slotReason i = some r → (∀ j < i, s.slotReason j = none) →
        checkSteps (i.val + 2) s = failed (BitVec.ofNat 8 i.val) r.code) ∧
      ((∀ j : SlotIx, s.slotReason j = none) →
        checkSteps 128 s = s.setCustody { s.custody with cursor := some (.slot 127) }))

/-- R49, R50 and R83: what LEND success makes of each block and of each kind of record, and what it leaves. The transmitter
is idle, as R164's table gives: that a station frame it carried in CHECKING is cut off with it is inferred (log entry 14).
The premise on the number of claims holds of every reachable state (KindCountsAreExact) (witness `witness_lastStep`). -/
def Obligations.LendSuccessStartsEverythingAfresh : Prop :=
  ∀ s : State, s.canTake = true → s.custody.state = .checking → s.custody.cursor = some (.slot 127) →
    s.slotReason 127 = none → s.tally Record.isClaim ≤ 16 →
    ∃ t, exec .lendCheckStep s = .next t ∧
      t = { s with
        custody := { s.custody with state := .proxy, cursor := none, discard := false }
        cond := { changes := [], notices := 0, lendCount := bump32 s.cond.lendCount
                  report := { roused := false, firstCause := none, causes := [], further := 0
                              linkSteady := s.tx.linkUp, floodSeen := false, snapshot := Counters.zero } }
        counters := Counters.zero
        rx := { s.rx with sample := none }
        held := { entries := [], fullLatch := false }
        guard := { state := .normal, demand := 0, run := 0
                   windowEnd := if s.policy.floodEnable
                     then some (s.clk.partTime + BitVec.ofNat 32 s.policy.windowLength) else none }
        tx := { s.tx with carried := none, answers := [], own := t.tx.own }
        table := { s.table with slots := t.table.slots }
        ports := { s.ports with sys := { s.ports.sys with
          slot := .ready { result := .done, payload := [] }, note := false } } } ∧
      t.tx.own = slotIndices.filterMap (fun i =>
        if ((t.claimAt i).map Claim.state) = some .probing then some (.claim i .probe) else none) ∧
      ∀ i : SlotIx,
        (s.slot i = none → t.slot i = none) ∧
        (∀ c, s.slot i = some (.claim c) → t.slot i = some (.claim
          (if s.tx.linkUp = false then { Claim.fresh c.cfg with reprobePending := true }
           else if c.cfg.probeTemplate ≠ none ∧ 0 < c.cfg.probeCount then
             { Claim.fresh c.cfg with state := .probing, probesRemaining := c.cfg.probeCount }
           else Claim.fresh c.cfg))) ∧
        (∀ r, s.slot i = some (.responder r) → t.slot i = some (.responder (Responder.fresh r.cfg))) ∧
        (∀ f, s.slot i = some (.filter f) → t.slot i = some (.filter (Filter.fresh f.cfg))) ∧
        (∀ x, s.slot i = some (.stream x) → t.slot i = some (.stream
          { Stream.fresh x.cfg none with
            ourSeq := x.ourSeq, peerSeq := x.peerSeq, valuesValid := x.valuesValid
            nextDue := s.clk.partTime + BitVec.ofNat 32 x.cfg.period, timer := some .period })) ∧
        ∀ x, s.slot i = some (.exchange x) → t.slot i = some (.exchange
          { Exchange.fresh x.cfg x.captures x.sendCounter with
            nextDue := s.clk.partTime + BitVec.ofNat 32 x.cfg.firstDelay, timer := some .nextDue })

/-- R53 and R55: a RECLAIM in PROXY or ROUSED is answered ACCEPTED; custody and each record become what R55 says, the window
and the own-traffic queue go, the snapshot is copied (R168); QUIESCE ends in the same taking where nothing is left to send
(R57), and DRAIN where nothing is held (R58). All else stays. That a stopped timer is stored as absent is the model's form
(log entry 18); that the exchanges it stops join the change list in ascending slot index is the model's choice (log entry 32)
(witness `witness_lent`). -/
def Obligations.ReclaimStopsTheEngines : Prop :=
  ∀ s : State, s.readyFor .system .reclaim → s.custody.state.lent = true →
    ∃ t, exec (.reclaim .system []) s = .next t ∧
      t = { s with
        custody := t.custody
        tx := { s.tx with own := [] }
        guard := { s.guard with windowEnd := none }
        cond := { s.cond with
          changes := (slotIndices.filter fun i =>
            ((s.exchangeAt i).map fun x => decide (x.state = .queued ∨ x.state = .awaiting)) = some true).foldl
              (fun l i => addChange l i 0x09) s.cond.changes
          report := { s.cond.report with snapshot := s.counters } }
        stn := t.stn
        table := { s.table with slots := t.table.slots }
        ports := (s.answered .system { result := .accepted, payload := [] }).ports } ∧
      (s.tx.answers ≠ [] ∨ s.tx.carriesOwn = true →
        t.custody = { s.custody with state := .quiesce } ∧ t.stn = s.stn) ∧
      (s.tx.answers = [] → s.tx.carriesOwn = false → s.held.entries = [] →
        t.custody = { state := .home, cursor := none, discard := false, wake := false } ∧ t.stn = s.stn) ∧
      (∀ e rest, s.tx.answers = [] → s.tx.carriesOwn = false → s.held.entries = e :: rest →
        t.custody = { s.custody with state := .drain } ∧
        t.stn = (if s.pins.stnRdy = true ∧ s.stn.delivering = none ∧ s.stn.waiting = none
          then { s.stn with delivering := some (.heldHead e.frame) } else s.stn)) ∧
      ∀ i : SlotIx,
        (∀ c, s.slot i = some (.claim c) → t.slot i = some (.claim { c with timer := none, dueItem := none })) ∧
        (∀ x, s.slot i = some (.stream x) → t.slot i = some (.stream { x with timer := none, itemDue := false })) ∧
        (∀ x, s.slot i = some (.exchange x) → t.slot i = some (.exchange
          (if x.state = .queued ∨ x.state = .awaiting then
            { x with timer := none, itemDue := false, resend := false, state := .waiting, openAtReturn := true }
           else { x with timer := none, itemDue := false, resend := false }))) ∧
        ((∀ c, s.slot i ≠ some (.claim c)) → (∀ x, s.slot i ≠ some (.stream x)) →
          (∀ x, s.slot i ≠ some (.exchange x)) → t.slot i = s.slot i)

/-- R54 and R56: a RECALL cancels a check; in PROXY and ROUSED it does what a RECLAIM does (ReclaimStopsTheEngines), answered on
the platform port, and with discard the held queue is also emptied and counted, but for a head whose delivery is under way
(R163); in QUIESCE and DRAIN keep changes nothing. That the snapshot is copied before the removed frames are counted is
inferred (log entry 24) (witnesses `witness_recallChecking`, `witness_lent`, `witness_quiesce`, `witness_drain`). -/
def Obligations.RecallActsByCustody : Prop :=
  ∀ s : State, s.readyFor .platform .recall →
    let emptied := if s.held.entries = [] then s.held else { entries := [], fullLatch := false }
    let discarded := { s.counters with
      heldDiscards := bump32By s.counters.heldDiscards (s.held.entries.length - s.stn.headsUnderWay) }
    let accepted := (s.answered .platform { result := .accepted, payload := [] }).ports
    let idlePort := s.setPort .system PortUnit.reset
    (s.custody.state = .checking → ∀ option : Byte, option = 0 ∨ option = 1 →
      exec (.recall .platform [option]) s =
        .next ((s.setCustody { s.custody with state := .home, cursor := none }).setPorts
          { sys := { s.ports.sys with slot := .ready { result := .cancelled, payload := [] }, note := false }
            plat := { s.ports.plat with slot := .ready { result := .done, payload := [] }, note := false } })) ∧
    (s.custody.state = .quiesce ∨ s.custody.state = .drain →
      exec (.recall .platform [0]) s = .next (s.answered .platform { result := .done, payload := [] })) ∧
    (s.custody.state.lent = true →
      idlePort.readyFor .system .reclaim ∧
      ∃ u, exec (.reclaim .system []) idlePort = .next u ∧
        exec (.recall .platform [0]) s = .next { u with ports := accepted } ∧
        exec (.recall .platform [1]) s = .next { u with
          ports := accepted
          held := emptied
          counters := discarded
          stn := s.stn.detached
          custody :=
            if s.tx.answers ≠ [] ∨ s.tx.carriesOwn = true then
              { s.custody with state := .quiesce, discard := true }
            else { state := .home, cursor := none, discard := false, wake := false } }) ∧
    (s.custody.state = .quiesce →
      exec (.recall .platform [1]) s =
        .next ({ s with custody := { s.custody with discard := true }, held := emptied, counters := discarded,
                        stn := s.stn.detached }.answered .platform { result := .done, payload := [] })) ∧
    (s.custody.state = .drain →
      exec (.recall .platform [1]) s =
        .next ({ s with custody := { state := .home, cursor := none, discard := false, wake := false }
                        held := emptied, counters := discarded
                        stn := s.stn.detached }.answered .platform { result := .done, payload := [] }))

/-- R52 with R44 and R56: WAKE_N is asserted in ROUSED and never in HOME, CHECKING or PROXY, the cursor is present
exactly in CHECKING, discard mode only in a return: every step keeps this (witness `witness_kept`). -/
def Obligations.WakeAgreesWithCustody : Prop :=
  ∀ (s t : State), s.custodySound → step s = .next t → t.custodySound

/-- R55, R57, R58, R151 and R161: in HOME and CHECKING nothing of the part's own waits and no frame is held, QUIESCE
lasts exactly while an answer waits or a frame of the part is carried, DRAIN exactly while a frame is held: every step
keeps this (witness `witness_kept`). -/
def Obligations.PhasesOfTheReturn : Prop :=
  ∀ (s t : State), s.phaseSound → step s = .next t → t.phaseSound

/-- R51: within a lending ROUSED is left by a reclaim alone: not by time, not by any read, not by the end of what roused. The
premise that nothing waits for the end of warm-up holds in ACTIVE (R184) (witness `witness_roused`). -/
def Obligations.RousedEndsOnlyByReclaim : Prop :=
  ∀ (c : Instr) (s t : State), c.wellFormed = true → s.custody.state = .roused → s.clk.waiting = [] →
    isReset c = false → exec c s = .next t →
      t.custody = s.custody ∨ ∃ p payload, c = .reclaim p payload ∨ c = .recall p payload

/-- R23, R26 and R129: while custody is not HOME no command but a reset changes the pool, a slot's kind or configuration
fields, or a stream's sequence values. The premise that nothing waits for the end of warm-up holds in ACTIVE: what waits is
several takings (R184) (witness `witness_lent`). -/
def Obligations.LentTableIsFixed : Prop :=
  ∀ (c : Instr) (s t : State), s.custody.state ≠ .home → s.clk.waiting = [] → isReset c = false →
    exec c s = .next t →
      t.pool = s.pool ∧ t.configs = s.configs ∧ t.seqValues = s.seqValues ∧
        t.table.stationAddr = s.table.stationAddr

/-- R95, R119 and R144: outside HOME and CHECKING a LOST claim stays LOST, an ENDED stream ENDED, an exchange at REST or
HALTED as it is, whatever command comes but a reset, and each premise on the record holds again of the next state. The
premises on what a LOST claim and a still exchange no longer have are what R93 and R143 clear; the end of warm-up is one
taking where nothing waits for it (R184) (witness `witness_terminal`). -/
def Obligations.TerminalStatesStay : Prop :=
  ∀ (cmd : Instr) (s t : State), s.custody.state ≠ .home → s.custody.state ≠ .checking →
    (cmd = .warmUpEnd → s.clk.waiting = []) → isReset cmd = false → exec cmd s = .next t → ∀ i : SlotIx,
      (∀ c, s.claimAt i = some c → c.state = .lost → c.reprobePending = false →
        ∃ c', t.claimAt i = some c' ∧ c'.state = .lost ∧ c'.reprobePending = false) ∧
      (∀ x, s.streamAt i = some x → x.state = .ended → ∃ x', t.streamAt i = some x' ∧ x'.state = .ended) ∧
      (∀ x, s.exchangeAt i = some x → x.state = .rest ∨ x.state = .halted → x.itemDue = false →
        (∀ item ∈ s.tx.own, item.slot ≠ i) →
        ∃ x', t.exchangeAt i = some x' ∧ x'.state = x.state ∧ x'.haltReason = x.haltReason ∧ x'.itemDue = false ∧
          ∀ item ∈ t.tx.own, item.slot ≠ i)

/-- R62 and R189: a SOFT_RESET taken in HOME gives every block its reset values, keeps part time, the store's content and the
input lines, sets the link state from LINK, and starts the profile load, whose end answers DONE; without a valid profile
the load ends at once. That a BUSY note of the system slot is cleared in the same taking is the model's choice (log entry 34)
(witness `witness_ready`). -/
def Obligations.SoftResetKeepsPartTime : Prop :=
  ∀ s : State, s.readyFor .system .softReset → s.custody.state = .home → s.store.op = none →
    exec (.softReset .system []) s =
      .next { State.reset with
        clk := { State.reset.clk with partTime := s.clk.partTime }
        pins := s.pins
        tx := { State.reset.tx with linkUp := s.pins.link }
        store := { cells := s.store.cells, op := none, fault := false
                   load := if s.profileValid then some { position := 0, answers := true } else none }
        ports := { sys := { slot := if s.profileValid then .working else .ready { result := .done, payload := [] }
                            note := false, out := s.ports.sys.view }
                   plat := State.reset.ports.plat }
        draws := s.draws
        pending := s.pending }

/-- R63, R185 and R24: POWER_ON and RST_N hold the machine in reset with part time 0; RESET_RELEASE gives every block its
values, sets the link state from LINK and starts the profile load. What stands while a reset is held or without supply is the
model's choice (log entry 20); what an interrupted store operation leaves is said by StoreOperationsLeaveTheirPage (witness
`witness_reset`). -/
def Obligations.ResetsGiveEveryBlockItsValues : Prop :=
  ∀ s : State,
    let held := fun (power : Power) (linkUp : Bool) (u : State) =>
      u = { State.reset with
        clk := { State.reset.clk with power := power }
        pins := s.pins
        tx := { State.reset.tx with linkUp := linkUp }
        store := u.store
        draws := u.draws
        pending := s.pending }
    (∃ u, exec .powerOn s = .next u ∧ held .resetHeld s.pins.link u ∧ u.store.op = none ∧
      (s.store.op = none → u.store.cells = s.store.cells)) ∧
    (s.clk.power ≠ .off → ∃ u, exec .rstN s = .next u ∧ held .resetHeld s.pins.link u ∧ u.store.op = none ∧
      (s.store.op = none → u.store.cells = s.store.cells)) ∧
    (∃ u, exec .powerLoss s = .next u ∧ held .off s.pins.link u ∧ u.store.op = none ∧
      (s.store.op = none → u.store.cells = s.store.cells)) ∧
    (s.clk.power = .resetHeld → ∃ u, exec .resetRelease s = .next u ∧ held .running s.pins.link u ∧
      u.store = { cells := s.store.cells, op := none, fault := false
                  load := if s.profileValid then some { position := 0, answers := false } else none })

/-! ## Policy, conditions and reports (Chapter 10) -/

/-- R165: the codes of the twelve classes. R172, R13, R76, R84 and R106: what an accepted SET_POLICY stores for each item,
clamped where the manual says so, with nothing else changed: one condition flag, of the class R165's table numbers, in every
custody state and, for rouse and notify, from either port; the other items from the system port in HOME (witness
`witness_ready`). -/
def Obligations.SetPolicyStoresTheItem : Prop :=
  let classes : List (ConditionClass × Nat) :=
    [(.conflict, 0), (.claimLost, 1), (.streamData, 2), (.streamEnded, 3), (.streamSilent, 4), (.exchangeFailed, 5),
      (.exchangeDeclined, 6), (.filterHit, 7), (.linkDown, 8), (.heldFull, 9), (.flood, 10), (.inspect, 11)]
  (∀ row ∈ classes, row.1.code = row.2) ∧ (∀ cls : ConditionClass, (cls, cls.code) ∈ classes) ∧
  ∀ s : State,
    let done : Response := { result := .done, payload := [] }
    (∀ (p : Port) (on : Bool), s.readyFor p .setPolicy → ∀ row ∈ classes,
      let stored := fun (old new : BitVec 12) =>
        ∀ other ∈ classes, new.getLsbD other.2 = if other.1 = row.1 then on else old.getLsbD other.2
      (p = .system → ∃ w, stored s.policy.retain w ∧
        exec (.setPolicy p [1, BitVec.ofNat 8 row.2, flagByte on]) s =
          .next ((s.setPolicy { s.policy with retain := w }).answered p done)) ∧
      (∃ w, stored s.policy.rouse w ∧
        exec (.setPolicy p [2, BitVec.ofNat 8 row.2, flagByte on]) s =
          .next ((s.setPolicy { s.policy with rouse := w }).answered p done)) ∧
      ∃ w, stored s.policy.notify w ∧
        exec (.setPolicy p [3, BitVec.ofNat 8 row.2, flagByte on]) s =
          .next ((s.setPolicy { s.policy with notify := w }).answered p done)) ∧
    (s.readyFor .system .setPolicy → s.custody.state = .home →
      (∀ a : BitVec 48, exec (.setPolicy .system ([4, 0] ++ beBytes 6 a.toNat)) s =
        .next ((s.setTable { s.table with stationAddr := a }).answered .system done)) ∧
      (∀ on : Bool,
        exec (.setPolicy .system [5, 0, flagByte on]) s =
          .next ((s.setPolicy { s.policy with conflictWatch := on }).answered .system done) ∧
        exec (.setPolicy .system [6, 0, flagByte on]) s =
          .next ((s.setPolicy { s.policy with floodEnable := on }).answered .system done) ∧
        exec (.setPolicy .system [12, 0, flagByte on]) s =
          .next ((s.setPolicy { s.policy with dozeEnable := on }).answered .system done)) ∧
      (∀ v : Nat, v < 65536 →
        exec (.setPolicy .system ([7, 0] ++ beBytes 2 v)) s =
          .next ((s.setPolicy { s.policy with windowLength := max 1 (min v 16) }).answered .system done) ∧
        exec (.setPolicy .system ([8, 0] ++ beBytes 2 v)) s =
          .next ((s.setPolicy { s.policy with
            highMark := max 1 (min v 4095)
            lowMark := min s.policy.lowMark (max 1 (min v 4095)) }).answered .system done) ∧
        exec (.setPolicy .system ([9, 0] ++ beBytes 2 v)) s =
          .next ((s.setPolicy { s.policy with lowMark := min (min v 4095) s.policy.highMark }).answered
            .system done)) ∧
      (∀ v : Byte, exec (.setPolicy .system [10, 0, v]) s =
        .next ((s.setPolicy { s.policy with debounce := min v.toNat 3 }).answered .system done)) ∧
      ∀ d : Disposition,
        exec (.setPolicy .system [11, 0, match d with | .discard => 0 | .hold => 1 | .inspect => 2]) s =
          .next ((s.setPolicy { s.policy with disposition := d }).answered .system done))

/-- R172, its six checks in their order, for SET_POLICY; each refusal leaves every item as it was (witness
`witness_ready`). -/
def Obligations.SetPolicyIsChecked : Prop :=
  ∀ (p : Port) (payload : List Byte) (s : State), payload.length ≤ 1024 → s.readyFor p .setPolicy →
    let refused := fun (r : Result) =>
      exec (.setPolicy p payload) s = .next (s.answered p { result := r, payload := [] })
    (payload.length < 2 → refused .malformed) ∧
    ∀ (code index : Byte) (value : List Byte), payload = code :: index :: value →
      (code.toNat = 0 ∨ 12 < code.toNat → refused .malformed) ∧
      ∀ item, policyItem code = some item →
        (p = .platform → code.toNat ≠ 2 → code.toNat ≠ 3 → refused .notPermitted) ∧
        (p = .system ∨ code.toNat = 2 ∨ code.toNat = 3 →
          (code.toNat ≤ 3 → 11 < index.toNat → refused .outOfRange) ∧
          (3 < code.toNat → index ≠ 0 → refused .malformed) ∧
          ((code.toNat ≤ 3 ∧ index.toNat ≤ 11) ∨ (3 < code.toNat ∧ index = 0) →
            (value.length ≠ item.width → refused .malformed) ∧
            (value.length = item.width →
              (3 < code.toNat → s.custody.state ≠ .home → refused .wrongState) ∧
              (code.toNat ≤ 3 ∨ s.custody.state = .home →
                (code.toNat ∈ [1, 2, 3, 5, 6, 12] → 1 < natOfBytes value → refused .malformed) ∧
                (code.toNat = 11 → 2 < natOfBytes value → refused .malformed)))))

/-- R173: GET_POLICY returns the stored value of the item, of the item's width, in every custody state, and changes nothing;
from the platform port only the rouse and notify flags; its refusals in their order (witness `witness_ready`). -/
def Obligations.GetPolicyReturnsTheItem : Prop :=
  ∀ (p : Port) (s : State), s.readyFor p .getPolicy →
    let gives := fun (request value : List Byte) =>
      exec (.getPolicy p request) s = .next (s.answered p { result := .done, payload := value })
    let refused := fun (request : List Byte) (r : Result) =>
      exec (.getPolicy p request) s = .next (s.answered p { result := r, payload := [] })
    (∀ cls : ConditionClass,
      (p = .system → gives [1, BitVec.ofNat 8 cls.code] [flagByte (s.policy.retain.getLsbD cls.code)]) ∧
      gives [2, BitVec.ofNat 8 cls.code] [flagByte (s.policy.rouse.getLsbD cls.code)] ∧
      gives [3, BitVec.ofNat 8 cls.code] [flagByte (s.policy.notify.getLsbD cls.code)]) ∧
    (p = .system →
      gives [4, 0] (beBytes 6 s.table.stationAddr.toNat) ∧
      gives [5, 0] [flagByte s.policy.conflictWatch] ∧ gives [6, 0] [flagByte s.policy.floodEnable] ∧
      gives [7, 0] (beBytes 2 s.policy.windowLength) ∧ gives [8, 0] (beBytes 2 s.policy.highMark) ∧
      gives [9, 0] (beBytes 2 s.policy.lowMark) ∧ gives [10, 0] (beBytes 1 s.policy.debounce) ∧
      gives [11, 0] [match s.policy.disposition with | .discard => 0 | .hold => 1 | .inspect => 2] ∧
      gives [12, 0] [flagByte s.policy.dozeEnable]) ∧
    (∀ request : List Byte, request.length < 2 → refused request .malformed) ∧
    ∀ (code index : Byte) (rest : List Byte), rest.length ≤ 1022 →
      let request := code :: index :: rest
      let mayAsk := p = .system ∨ code.toNat = 2 ∨ code.toNat = 3
      (code.toNat = 0 ∨ 12 < code.toNat → refused request .malformed) ∧
      (1 ≤ code.toNat → code.toNat ≤ 12 →
        (¬ mayAsk → refused request .notPermitted) ∧
        (mayAsk → code.toNat ≤ 3 → 11 < index.toNat → refused request .outOfRange) ∧
        (mayAsk → 3 < code.toNat → index ≠ 0 → refused request .malformed) ∧
        (mayAsk → (code.toNat ≤ 3 ∧ index.toNat ≤ 11) ∨ (3 < code.toNat ∧ index = 0) → rest ≠ [] →
          refused request .malformed))

/-- R166 to R169: the whole effect of raising a condition, under its class's three flags in their order: cause list or
further-cause count and the slot's state mark; ROUSED, WAKE_N, first cause and snapshot only where it finds PROXY; the
notice flag. Nothing else changes (witness `witness_changes`). -/
def Obligations.ConditionFollowsItsFlags : Prop :=
  (∀ (s : State) (cls : ConditionClass) (slot : Option SlotIx),
    let retained := s.policy.retain.getLsbD cls.code
    let rouses := s.policy.rouse.getLsbD cls.code && decide (s.custody.state = .proxy)
    let cause : Cause := { cls, slot, time := s.clk.partTime }
    let r := s.cond.report
    s.raise cls slot = { s with
      custody := if rouses then { s.custody with state := .roused, wake := true } else s.custody
      cond := { s.cond with
        changes :=
          match slot with
          | some i => if retained then addChange s.cond.changes i 0x01 else s.cond.changes
          | none => s.cond.changes
        report := { r with
          causes := if retained = true ∧ r.causes.length < 8 then r.causes ++ [cause] else r.causes
          further := if retained = true ∧ 8 ≤ r.causes.length then bump32 r.further else r.further
          roused := if rouses then true else r.roused
          firstCause := if rouses then some cause else r.firstCause
          snapshot := if rouses then s.counters else r.snapshot }
        notices := if s.policy.notify.getLsbD cls.code then s.cond.notices ||| (1#12 <<< cls.code)
          else s.cond.notices } }) ∧
  ∀ (l : List ChangeRecord) (i : SlotIx) (marks : BitVec 8),
    ((∀ c ∈ l, c.slot ≠ i) → addChange l i marks = l ++ [{ slot := i, marks := marks }]) ∧
    ∀ before old after, l = before ++ { slot := i, marks := old } :: after → (∀ c ∈ before, c.slot ≠ i) →
      addChange l i marks = before ++ { slot := i, marks := old ||| marks } :: after

/-- R178: READ_STATUS answers the 58-byte picture field by field, the custody states by their codes, and changes nothing; any
payload is MALFORMED (witness `witness_ready`). -/
def Obligations.ReadStatusShowsThePicture : Prop :=
  ∀ (p : Port) (s : State), s.readyFor p .readStatus →
    let head : List Byte :=
      match s.held.entries with
      | [] => [0xFF, 0xFF]
      | e :: _ =>
        match e.cause with
        | some (cls, i) => [BitVec.ofNat 8 cls.code, BitVec.ofNat 8 i.val]
        | none => [0xFE, 0xFF]
    let n := s.counters
    let custody : Byte :=
      match s.custody.state with
      | .home => 0
      | .checking => 1
      | .proxy => 2
      | .roused => 3
      | .quiesce => 4
      | .drain => 5
    let picture : List Byte :=
      [custody, flagByte s.custody.discard, flagByte s.custody.wake,
        flagByte (decide (s.cond.notices ≠ 0)), flagByte s.tx.linkUp] ++ beBytes 2 s.cond.notices.toNat ++
      beBytes 4 s.clk.partTime.toNat ++ beBytes 4 s.cond.lendCount.toNat ++
      [BitVec.ofNat 8 s.held.entries.length] ++ beBytes 2 (heldTotal s.held.entries) ++ head ++
      [BitVec.ofNat 8 s.tx.answers.length, BitVec.ofNat 8 s.tx.own.length, flagByte s.rx.sample.isSome,
        flagByte (decide (s.guard.state = .flooded))] ++ beBytes 2 s.guard.demand.toNat ++
      [BitVec.ofNat 8 s.guard.run, BitVec.ofNat 8 s.cond.changes.length, flagByte s.store.op.isSome,
        flagByte s.store.fault] ++
      beBytes 4 n.framesSeen.toNat ++ beBytes 4 n.framesBad.toNat ++ beBytes 4 n.answersSent.toNat ++
      beBytes 4 n.answersDropped.toNat ++ beBytes 4 n.heldDiscards.toNat ++ beBytes 4 n.dozeDiscards.toNat ++
      beBytes 4 n.inspectDiscards.toNat
    picture.length = 58 ∧
    exec (.readStatus p []) s = .next (s.answered p { result := .done, payload := picture }) ∧
    ∀ payload : List Byte, payload.length ≤ 1024 → payload ≠ [] →
      exec (.readStatus p payload) s = .next (s.answered p { result := .malformed, payload := [] })

/-- R169, R175 and R177: READ_REPORT answers the wake report, 45 bytes and 6 for each cause, with the notice flags as they
stood, and from the platform port then clears every notice flag; READ_CHANGES answers the lend count and the list count, and
below the list count the record at the position with the slot's image (GetSlotReturnsTheImage) as it stands, and changes
nothing (witness `witness_ready`). -/
def Obligations.ReportAndChangesAreRead : Prop :=
  ∀ (p : Port) (s : State),
    let r := s.cond.report
    let causeBytes := fun (c : Cause) =>
      [BitVec.ofNat 8 c.cls.code, match c.slot with | some i => BitVec.ofNat 8 i.val | none => 0xFF] ++
        beBytes 4 c.time.toNat
    let report : List Byte :=
      [flagByte r.roused, flagByte r.firstCause.isSome] ++
      (match r.firstCause with | some c => causeBytes c | none => [0, 0xFF, 0, 0, 0, 0]) ++
      [BitVec.ofNat 8 r.causes.length] ++ r.causes.flatMap causeBytes ++ beBytes 4 r.further.toNat ++
      [flagByte r.linkSteady, flagByte r.floodSeen] ++ beBytes 2 s.cond.notices.toNat ++ r.snapshot.bytes
    let lead := beBytes 4 s.cond.lendCount.toNat ++ [BitVec.ofNat 8 s.cond.changes.length]
    report.length = 45 + 6 * r.causes.length ∧
    (s.readyFor p .readReport →
      (p = .platform → exec (.readReport p []) s = .next ((s.setCond { s.cond with notices := 0 }).answered p
        { result := .done, payload := report })) ∧
      (p = .system → exec (.readReport p []) s = .next (s.answered p { result := .done, payload := report })) ∧
      ∀ payload : List Byte, payload.length ≤ 1024 → payload ≠ [] →
        exec (.readReport p payload) s = .next (s.answered p { result := .malformed, payload := [] })) ∧
    (s.readyFor p .readChanges →
      (∀ position : Byte, position.toNat ≤ 127 →
        (∀ c, s.cond.changes[position.toNat]? = some c →
          exec (.readChanges p [position]) s = .next (s.answered p
            { result := .done
              payload := lead ++ [BitVec.ofNat 8 c.slot.val, c.marks] ++ slotImage c.slot (s.slot c.slot) })) ∧
        (s.cond.changes.length ≤ position.toNat →
          exec (.readChanges p [position]) s = .next (s.answered p { result := .done, payload := lead }))) ∧
      (∀ position : Byte, 127 < position.toNat →
        exec (.readChanges p [position]) s = .next (s.answered p { result := .outOfRange, payload := [] })) ∧
      ∀ payload : List Byte, payload.length ≤ 1024 → payload.length ≠ 1 →
        exec (.readChanges p payload) s = .next (s.answered p { result := .malformed, payload := [] }))

/-- R80 and R81: TAKE_SAMPLE answers the inspection slot and empties nothing; RELEASE_SAMPLE empties it exactly where ordinal
and time match; the checks of both in their order (witness `witness_sample`). -/
def Obligations.SampleRequestsFollowTheSlot : Prop :=
  ∀ s : State,
    (s.readyFor .platform .takeSample → ∀ offset n : Nat, offset ≤ 1517 → 1 ≤ n → n ≤ 256 →
      exec (.takeSample .platform (beBytes 2 offset ++ beBytes 2 n)) s = .next (s.answered .platform
        { result := .done
          payload :=
            match s.rx.sample with
            | none => List.replicate 11 0
            | some x =>
              [1] ++ beBytes 4 x.ordinal.toNat ++ beBytes 2 x.frame.bytes.length ++ beBytes 4 x.time.toNat ++
                (x.frame.bytes.drop offset).take n })) ∧
    (s.readyFor .platform .takeSample → ∀ offset n : Nat, offset < 65536 → n < 65536 →
      n = 0 ∨ 256 < n ∨ 1517 < offset →
      exec (.takeSample .platform (beBytes 2 offset ++ beBytes 2 n)) s =
        .next (s.answered .platform { result := .outOfRange, payload := [] })) ∧
    (s.readyFor .platform .releaseSample → ∀ ordinal time : BitVec 32,
      let payload := beBytes 4 ordinal.toNat ++ beBytes 4 time.toNat
      (∀ x, s.rx.sample = some x → x.ordinal = ordinal → x.time = time →
        exec (.releaseSample .platform payload) s =
          .next ((s.setRx { s.rx with sample := none }).answered .platform { result := .done, payload := [1] })) ∧
      ((∀ x, s.rx.sample = some x → x.ordinal ≠ ordinal ∨ x.time ≠ time) →
        exec (.releaseSample .platform payload) s =
          .next (s.answered .platform { result := .done, payload := [0] }))) ∧
    ∀ payload : List Byte, payload.length ≤ 1024 →
      (s.readyFor .system .takeSample → exec (.takeSample .system payload) s =
        .next (s.answered .system { result := .notPermitted, payload := [] })) ∧
      (s.readyFor .system .releaseSample → exec (.releaseSample .system payload) s =
        .next (s.answered .system { result := .notPermitted, payload := [] })) ∧
      (s.readyFor .platform .takeSample → payload.length ≠ 4 → exec (.takeSample .platform payload) s =
        .next (s.answered .platform { result := .malformed, payload := [] })) ∧
      (s.readyFor .platform .releaseSample → payload.length ≠ 8 → exec (.releaseSample .platform payload) s =
        .next (s.answered .platform { result := .malformed, payload := [] }))

/-! ## The profile store (Chapter 11) -/

/-- R186: the store's requests, check by check in their order, from either port where the manual lets it; an accepted erase or
program makes the store busy and is not yet answered; a read answers the page's bytes. That an erase or program which meets a
busy store is BUSY behind the other tests is the model's choice (log entry 27) (witnesses `witness_ready`,
`witness_storeBusy`). -/
def Obligations.StoreRequestsAreChecked : Prop :=
  ∀ (p : Port) (payload : List Byte) (s : State), payload.length ≤ 1024 →
    (s.readyFor p .storeRead →
      (payload.length ≠ 1 →
        exec (.storeRead p payload) s = .next (s.answered p { result := .malformed, payload := [] })) ∧
      ∀ page : Byte, payload = [page] →
        (7 < page.toNat →
          exec (.storeRead p payload) s = .next (s.answered p { result := .outOfRange, payload := [] })) ∧
        (page.toNat ≤ 7 → s.store.op ≠ none →
          exec (.storeRead p payload) s = .next (s.answered p { result := .busy, payload := [] })) ∧
        (page.toNat ≤ 7 → s.store.op = none →
          exec (.storeRead p payload) s = .next (s.answered p
            { result := .done, payload := (List.range 256).map fun k => s.storeByte (256 * page.toNat + k) }))) ∧
    (s.readyFor p .storeErase →
      (p = .platform →
        exec (.storeErase p payload) s = .next (s.answered p { result := .notPermitted, payload := [] })) ∧
      (p = .system → payload.length ≠ 1 →
        exec (.storeErase p payload) s = .next (s.answered p { result := .malformed, payload := [] })) ∧
      (p = .system → ∀ page : Byte, payload = [page] →
        (7 < page.toNat →
          exec (.storeErase p payload) s = .next (s.answered p { result := .outOfRange, payload := [] })) ∧
        (page.toNat < 2 →
          exec (.storeErase p payload) s = .next (s.answered p { result := .locked, payload := [] })) ∧
        (2 ≤ page.toNat → page.toNat ≤ 7 → s.store.op ≠ none →
          exec (.storeErase p payload) s = .next (s.answered p { result := .busy, payload := [] })) ∧
        (2 ≤ page.toNat → page.toNat ≤ 7 → s.store.op = none →
          exec (.storeErase p payload) s =
            .next ((s.working p).setStore { s.store with op := some (.erase page.toNat) })))) ∧
    (s.readyFor p .storeProgram →
      (p = .platform →
        exec (.storeProgram p payload) s = .next (s.answered p { result := .notPermitted, payload := [] })) ∧
      (p = .system → payload.length ≠ 257 →
        exec (.storeProgram p payload) s = .next (s.answered p { result := .malformed, payload := [] })) ∧
      (p = .system → ∀ (page : Byte) (data : List Byte), payload = page :: data → data.length = 256 →
        let erased := ∀ k < 256, s.storeByte (256 * page.toNat + k) = 0xFF
        (7 < page.toNat →
          exec (.storeProgram p payload) s = .next (s.answered p { result := .outOfRange, payload := [] })) ∧
        (page.toNat < 2 →
          exec (.storeProgram p payload) s = .next (s.answered p { result := .locked, payload := [] })) ∧
        (2 ≤ page.toNat → page.toNat ≤ 7 → ¬ erased →
          exec (.storeProgram p payload) s = .next (s.answered p { result := .wrongState, payload := [] })) ∧
        (2 ≤ page.toNat → page.toNat ≤ 7 → erased → s.store.op ≠ none →
          exec (.storeProgram p payload) s = .next (s.answered p { result := .busy, payload := [] })) ∧
        (2 ≤ page.toNat → page.toNat ≤ 7 → erased → s.store.op = none →
          exec (.storeProgram p payload) s =
            .next ((s.working p).setStore { s.store with op := some (.program page.toNat data) }))))

/-- R186 and R187: what an operation leaves of the store. At its end an erase leaves its page all 0xFF, a program the new data,
and the request is answered DONE; an interrupted erase leaves all 0xFF, an interrupted program leaves bytes 0 and 1 at 0xFF and
each other byte new or 0xFF, whatever the free value (log entry 1), so that a torn page 2 is no profile. Every
other byte of the store stays. The premises on the store
are kept by every step (MemoriesStayCanonical) (witnesses `witness_erasing`, `witness_programming`). -/
def Obligations.StoreOperationsLeaveTheirPage : Prop :=
  ∀ s : State, memWf storeBlank s.store.cells = true →
    let finished := fun (cells : List Host.Cell) =>
      (s.setStore { s.store with cells := cells, op := none }).setPort .system
        { s.ports.sys with slot := .ready { result := .done, payload := [] }, note := false }
    let leaves := fun (cells : List Host.Cell) (page : Nat) (ok : Nat → Byte → Prop) =>
      (∀ k < 256, ok k (memRead storeBlank cells (256 * page + k))) ∧
        ∀ a, (a < 256 * page ∨ 256 * page + 256 ≤ a) → memRead storeBlank cells a = s.storeByte a
    (∀ page, s.store.op = some (.erase page) →
      (s.canTake = true → ∃ cells, exec .storeEraseDone s = .next (finished cells) ∧
        leaves cells page fun _ b => b = 0xFF) ∧
      ∀ c ∈ [Instr.powerOn, .rstN, .powerLoss], (c = .rstN → s.clk.power ≠ .off) →
        ∃ t, exec c s = .next t ∧ t.store.op = none ∧ leaves t.store.cells page fun _ b => b = 0xFF) ∧
    ∀ page data, s.store.op = some (.program page data) → data.length = 256 →
      (s.canTake = true → ∃ cells, exec .storeProgramDone s = .next (finished cells) ∧
        leaves cells page fun k b => b = data.getD k 0) ∧
      ∀ c ∈ [Instr.powerOn, .rstN, .powerLoss], (c = .rstN → s.clk.power ≠ .off) →
        ∃ t, exec c s = .next t ∧ t.store.op = none ∧
          leaves t.store.cells page (fun k b => (k < 2 → b = 0xFF) ∧ (b = 0xFF ∨ b = data.getD k 0)) ∧
          (page = 2 → t.profileValid = false)

/-- R189 with R188: one record of a profile load: the load ends where the stream holds 0xFF, ends with the fault flag at a
record that does not fit, has no known type or is not answered DONE, and otherwise does what the record's request would do
from the system port and goes on behind it. That a record's length stands most significant byte first is inferred (log entry
36) (witness `witness_load`). -/
def Obligations.ProfileRecordIsPerformed : Prop :=
  ∀ (s : State) (l : ProfileLoad), s.canTake = true → s.store.load = some l → l.position < 1534 →
    let byteAt := fun (k : Nat) => s.storeByte (514 + k)
    let len := 256 * (byteAt (l.position + 1)).toNat + (byteAt (l.position + 2)).toNat
    let next := l.position + 3 + len
    let ended := fun (u : State) (fault : Bool) =>
      let v := u.setStore { s.store with load := none, fault := fault }
      if l.answers then
        v.setPort .system { s.ports.sys with slot := .ready { result := .done, payload := [] }, note := false }
      else v
    (byteAt l.position = 0xFF → exec .profileRecord s = .next (ended s false)) ∧
    (byteAt l.position ≠ 0xFF →
      (1534 < l.position + 3 ∨ 1534 < next ∨ 3 < (byteAt l.position).toNat ∨ (byteAt l.position).toNat = 0 →
        exec .profileRecord s = .next (ended s true)) ∧
      (next ≤ 1534 → len ≤ 1024 → ∀ kind,
        ((byteAt l.position).toNat = 1 ∧ kind = .putSlot) ∨ ((byteAt l.position).toNat = 2 ∧ kind = .poolWrite) ∨
          ((byteAt l.position).toNat = 3 ∧ kind = .setPolicy) →
        ∃ (u : State) (r : Response),
          exec (requestOn kind .system ((List.range len).map fun k => byteAt (l.position + 3 + k)))
            ((s.setStore { s.store with load := none }).setPort .system PortUnit.reset) = .next u ∧
          u.ports.sys.slot = .ready r ∧
          let done := { s with table := u.table, pool := u.pool, policy := u.policy }
          (r.result ≠ .done → exec .profileRecord s = .next (ended s true)) ∧
          (r.result = .done → next = 1534 → exec .profileRecord s = .next (ended done false)) ∧
          (r.result = .done → next ≠ 1534 →
            exec .profileRecord s =
              .next (done.setStore { s.store with load := some { l with position := next } }))))

/-! ## Reception and classification (Chapter 4) -/

/-- R64, R65 and R184: a starting line frame wakes a part in DOZE and gets a place where 1,518 bytes are free of the 4,096
beside the whole frames' lengths and 1,518 for each frame on its way, or is counted once and refused; the frame that started
first is judged at its arrival by its FCS and its length and joins the staging buffer or is counted bad. That a refused frame
is not judged again is inferred (log entry 12) (witness `witness_lineFrames`). -/
def Obligations.LineFramesAreReceived : Prop :=
  (∀ s : State, s.clk.power = .running →
    let w := if s.clk.state = .doze
      then s.setClk { s.clk with state := .warmUp, quietTicks := 0, wakeDue := none } else s
    let used := (s.rx.staged.map fun f => f.bytes.length).sum +
      1518 * (s.rx.arriving.filter fun a => decide (a = .staged)).length
    (used + 1518 ≤ 4096 →
      exec .lineFrameStart s = .next (w.setRx { s.rx with arriving := s.rx.arriving ++ [.staged] })) ∧
    (4096 < used + 1518 →
      exec .lineFrameStart s =
        .next ((w.setRx { s.rx with arriving := s.rx.arriving ++ [.refused] }).setCounters
          (if s.clk.state = .active then { s.counters with framesBad := bump32 s.counters.framesBad }
            else { s.counters with dozeDiscards := bump32 s.counters.dozeDiscards })))) ∧
  ∀ (s : State) (bytes : List Byte) (fcs : Fcs), s.clk.power = .running →
    (∀ rest, s.rx.arriving = .refused :: rest →
      exec (.lineFrameArrival bytes fcs) s = .next (s.setRx { s.rx with arriving := rest })) ∧
    ∀ rest, s.rx.arriving = .staged :: rest →
      (fcs = crc32 bytes → 14 ≤ bytes.length → bytes.length ≤ 1518 →
        exec (.lineFrameArrival bytes fcs) s =
          .next (s.setRx { s.rx with arriving := rest, staged := s.rx.staged ++ [{ bytes, fcs }] })) ∧
      (fcs ≠ crc32 bytes ∨ bytes.length < 14 ∨ 1518 < bytes.length →
        exec (.lineFrameArrival bytes fcs) s =
          .next ((s.setRx { s.rx with arriving := rest }).setCounters
            { s.counters with framesBad := bump32 s.counters.framesBad }))

/-- R66, R69, R128 and R157: where the frame at the staging buffer's head goes in each custody state: to the station with
tracking in HOME, to the station in CHECKING, to the tests in PROXY and ROUSED, where an own echo is only counted, to the held
queue or, in discard mode, nowhere in the return (witnesses `witness_frameHome`, `witness_frameLent`). -/
def Obligations.FramesFollowCustody : Prop :=
  ∀ (s : State) (f : Frame) (rest : List Frame), s.canTake = true → s.rx.staged = f :: rest →
    let u := s.setRx { s.rx with staged := rest }
    let placed := if s.stn.delivering = none then { s.stn with delivering := some (.passing f) }
      else { s.stn with waiting := some f }
    (s.custody.state = .home ∨ s.custody.state = .checking →
      (s.pins.stnRdy = false ∨ s.stn.waiting ≠ none → exec .frameTaking s = .next u)) ∧
    (s.custody.state = .checking → s.pins.stnRdy = true → s.stn.waiting = none →
      exec .frameTaking s = .next (u.setStn placed)) ∧
    (s.custody.state = .home → s.pins.stnRdy = true → s.stn.waiting = none →
      ∃ t, exec .frameTaking s = .next t ∧
        t = (u.setStn placed).setTable { s.table with slots := t.table.slots } ∧
        ∀ i : SlotIx,
          (∀ x, s.slot i = some (.stream x) → t.slot i = some (.stream
            (if x.cfg.tracking = true ∧ matchesFrame f.bytes x.cfg.inbound = true ∧ x.cfg.headerLen ≤ f.bytes.length
              then { x with
                peerSeq := judged x.valuesValid (seqField f.bytes x.cfg.seqOffset +
                  BitVec.ofNat 32 (f.bytes.length - x.cfg.headerLen)) x.peerSeq
                valuesValid := true }
              else x))) ∧
          ((∀ x, s.slot i ≠ some (.stream x)) → t.slot i = s.slot i)) ∧
    (s.custody.state.lent = true → bytesAt f.bytes 6 6 = beBytes 6 s.table.stationAddr.toNat →
      exec .frameTaking s = .next (s.afterCount rest)) ∧
    (s.custody.state = .quiesce ∨ s.custody.state = .drain →
      (s.custody.discard = true →
        exec .frameTaking s = .next (u.setCounters
          { s.counters with heldDiscards := bump32 s.counters.heldDiscards })) ∧
      (s.custody.discard = false → exec .frameTaking s = .next (u.offerHeld f none)))

/-- R70, R85, R86 and R93: the lowest claim whose address a frame asserts takes it: HELD is defended, with an announcement
wanted and CONFLICT raised; CONTESTED and PROBING are lost, with every queued item, answer and stream that hangs on the claim
(witness `witness_conflict`). -/
def Obligations.ConflictsAreDefendedOrLost : Prop :=
  ∀ (s : State) (f : Frame) (rest : List Frame) (i : SlotIx) (c : Claim), s.classifies f rest →
    s.policy.conflictWatch = true → s.noConflictBelow f i.val → s.claimAt i = some c → c.state ≠ .lost →
    c.assertedBy f.bytes = true →
    let u := s.afterCount rest
    let counted := { c with conflictsSeen := bump16 c.conflictsSeen }
    let defended := { counted with state := .contested, timer := some (.defenceWindow (s.later c.cfg.defenceWindow)) }
    (c.state = .held →
      (c.cfg.announceTemplate ≠ none → c.dueItem = none →
        (s.roomFor i → exec .frameTaking s =
          .next (((u.rewrite i (.claim defended) 0x01).queued (.claim i .announcement)).raise .conflict (some i))) ∧
        (s.noRoomFor i → exec .frameTaking s =
          .next ((u.rewrite i (.claim { defended with dueItem := some .announcement }) 0x01).raise
            .conflict (some i)))) ∧
      (c.cfg.announceTemplate = none ∨ c.dueItem ≠ none ∨ (∃ item ∈ s.tx.own, item.slot = i) →
        exec .frameTaking s = .next ((u.rewrite i (.claim defended) 0x01).raise .conflict (some i)))) ∧
    (c.state = .contested ∨ c.state = .probing →
      ∃ t, exec .frameTaking s = .next t ∧ t = u.losesClaim i counted ∧
        (∃ c', t.claimAt i = some c' ∧ c'.state = .lost) ∧ (∀ item ∈ t.tx.own, item.slot ≠ i) ∧
        (∀ j x, t.streamAt j = some x → x.cfg.claimLink = some i → x.state = .ended) ∧
        (∀ a ∈ t.tx.answers, ∀ r, a.origin = .responder → t.responderAt a.slot = some r → r.cfg.claimLink ≠ some i) ∧
        ∀ j, j ≠ i → t.claimAt j = s.claimAt j)

/-- R71 and R115 to R118: the lowest stream not ENDED whose inbound descriptor a frame passes decides it: short, close, data, or
by the table of its sequence and acknowledgement values (witness `witness_streamFrame`). -/
def Obligations.StreamFramesAreDecided : Prop :=
  ∀ (s : State) (f : Frame) (rest : List Frame) (i : SlotIx) (x : Stream), s.classifies f rest →
    s.noConflictBelow f 128 → s.noStreamBelow f i.val → s.streamAt i = some x → x.state ≠ .ended →
    matchesFrame f.bytes x.cfg.inbound = true →
    let u := s.afterCount rest
    let sv := seqField f.bytes x.cfg.seqOffset
    let av := seqField f.bytes x.cfg.ackOffset
    let closes := ∃ p, x.cfg.closeProbe = some p ∧ p.passes 0 f.bytes = true
    let held := (u.offerHeld f (some (.streamData, i))).raise .streamData (some i)
    (f.bytes.length < x.cfg.headerLen → exec .frameTaking s =
      .next (u.setCounters { u.counters with framesBad := bump32 u.counters.framesBad })) ∧
    (x.cfg.headerLen ≤ f.bytes.length →
      (closes → exec .frameTaking s =
        .next (((u.offerHeld f (some (.streamEnded, i))).endsStream i x 0x01).raise .streamEnded (some i))) ∧
      (¬ closes →
        (x.cfg.headerLen + 2 ≤ f.bytes.length → exec .frameTaking s = .next held) ∧
        (f.bytes.length < x.cfg.headerLen + 2 →
          (sv = x.peerSeq - 1 →
            (s.tx.linkUp = true → s.tx.answers.length < 8 → exec .frameTaking s =
              .next (u.setTx { u.tx with answers := u.tx.answers ++
                [{ bytes := u.build (.stream x) x.cfg.replyTemplate f.bytes, slot := i, origin := .stream }] })) ∧
            (s.tx.linkUp = false ∨ 8 ≤ s.tx.answers.length → exec .frameTaking s =
              .next (u.setCounters { u.counters with answersDropped := bump32 u.counters.answersDropped }))) ∧
          (sv = x.peerSeq → av = x.ourSeq →
            (x.state = .outstanding → exec .frameTaking s =
              .next ((u.rewrite i (.stream { x with
                acksSeen := bump16 x.acksSeen, state := .idle, misses := 0, itemDue := false, timer := some .period
                nextDue := s.later x.cfg.period }) 0x01).unqueued i)) ∧
            (x.state ≠ .outstanding → exec .frameTaking s =
              .next (u.rewrite i (.stream { x with acksSeen := bump16 x.acksSeen }) (countMark x.acksSeen)))) ∧
          ((sv = x.peerSeq ∧ av ≠ x.ourSeq ∧ (av - x.ourSeq).toNat < 2 ^ 31) ∨
            (sv ≠ x.peerSeq - 1 ∧ sv ≠ x.peerSeq ∧ (sv - x.peerSeq).toNat < 2 ^ 31) →
            exec .frameTaking s = .next held) ∧
          ((sv = x.peerSeq ∧ 2 ^ 31 ≤ (av - x.ourSeq).toNat) ∨
            (sv ≠ x.peerSeq - 1 ∧ 2 ^ 31 ≤ (sv - x.peerSeq).toNat) →
            exec .frameTaking s =
              .next (u.rewrite i (.stream { x with staleFrames := bump16 x.staleFrames })
                (countMark x.staleFrames))))))

/-- R72, R136 to R140, R143 and R94: the lowest exchange a frame is for acts on it: a decline is held and halts the exchange
with its claims; a reply is captured and schedules the next round or REST; a reply nobody waits for goes no further (witness
`witness_exchangeFrame`). -/
def Obligations.ExchangeFramesAreDecided : Prop :=
  ∀ (s : State) (f : Frame) (rest : List Frame) (i : SlotIx) (x : Exchange), s.classifies f rest →
    s.noConflictBelow f 128 → s.noStreamBelow f 128 → s.noExchangeBelow f i.val → s.exchangeAt i = some x →
    x.takes f.bytes →
    let u := s.afterCount rest
    let declines := ∃ d, x.cfg.decline = some d ∧ matchesFrame f.bytes d = true
    let awaits := x.state = .awaiting ∨ (x.state = .queued ∧ x.resend = true)
    let captures := Vector.ofFn fun k : Fin 4 =>
      match x.cfg.captureSpecs[k.val]? with
      | some c => BitVec.ofNat 32 (natOfBytes (bytesAt f.bytes c.offset c.len))
      | none => x.captures.get k
    let replied := fun (x' : Exchange) =>
      (u.rewrite i (.exchange { x' with
        captures := captures, replies := bump16 x.replies, itemDue := false, attempts := 0, resend := false })
          (if captures = x.captures then 0x01 else 0x03)).unqueued i
    (awaits → declines → exec .frameTaking s =
      .next ((u.offerHeld f (some (.exchangeDeclined, i))).haltsExchange i x .declined)) ∧
    (awaits → ¬ declines →
      (∀ period, x.cfg.schedule = .fixed period → exec .frameTaking s =
        .next (replied { x with state := .waiting, timer := some .nextDue, nextDue := s.later period })) ∧
      ∀ k fraction minDelay maxDelay, x.cfg.schedule = .captured k fraction minDelay maxDelay →
        let v := captures.toList.getD k 0
        let delay := v.toNat * 16 * fraction / 256
        (v = 0xFFFFFFFF → exec .frameTaking s = .next (replied { x with state := .rest, timer := none })) ∧
        (v ≠ 0xFFFFFFFF → minDelay ≤ maxDelay → exec .frameTaking s =
          .next (replied { x with
            state := .waiting, timer := some .nextDue, nextDue := s.later (max minDelay (min delay maxDelay)) }))) ∧
    (¬ awaits → exec .frameTaking s = .next u)

/-- R73 and R99 to R102: the lowest responder a frame matches counts it toward the demand and then, case by case, does nothing,
counts a suppressed answer, drops, or answers (witness `witness_responder`). -/
def Obligations.RespondersAnswerInCases : Prop :=
  ∀ (s : State) (f : Frame) (rest : List Frame) (i : SlotIx) (r : Responder), s.classifies f rest →
    s.noConflictBelow f 128 → s.noStreamBelow f 128 → s.noExchangeBelow f 128 → s.noResponderBelow f i.val →
    s.responderAt i = some r → matchesFrame f.bytes r.cfg.descriptor = true →
    let u := if s.policy.floodEnable = true ∧ s.guard.windowEnd ≠ none
      then (s.afterCount rest).setGuard { s.guard with demand := bump16 s.guard.demand } else s.afterCount rest
    let gateOpen := ∀ j, r.cfg.claimLink = some j →
      ∃ c, s.claimAt j = some c ∧ (c.state = .held ∨ c.state = .contested)
    let flooded := r.cfg.cls = .courtesy ∧ s.guard.state = .flooded
    (¬ gateOpen → exec .frameTaking s = .next u) ∧
    (gateOpen → flooded → exec .frameTaking s =
      .next (u.rewrite i (.responder { r with answersSuppressed := bump16 r.answersSuppressed })
        (countMark r.answersSuppressed))) ∧
    (gateOpen → ¬ flooded →
      (s.tx.linkUp = true → s.tx.answers.length < 8 → exec .frameTaking s =
        .next (u.setTx { u.tx with answers := u.tx.answers ++
          [{ bytes := u.build (.responder r) r.cfg.answerTemplate f.bytes, slot := i, origin := .responder }] })) ∧
      (s.tx.linkUp = false ∨ 8 ≤ s.tx.answers.length → exec .frameTaking s =
        .next (u.setCounters { u.counters with answersDropped := bump32 u.counters.answersDropped })))

/-- R74, R75, R79, R103, R104, R161 and R162: a frame no responder matches meets the lowest filter it matches, and without
one the default disposition; what offering a frame to the held queue does (witness `witness_filter`). -/
def Obligations.FiltersAndTheDefaultDisposition : Prop :=
  (∀ (s : State) (f : Frame) (rest : List Frame), s.classifies f rest →
    s.noConflictBelow f 128 → s.noStreamBelow f 128 → s.noExchangeBelow f 128 → s.noResponderBelow f 128 →
    let u := s.afterCount rest
    (∀ i t, s.noFilterBelow f i.val → s.filterAt i = some t → matchesFrame f.bytes t.cfg.descriptor = true →
      let hit := u.rewrite i (.filter { t with hits := bump16 t.hits }) (countMark t.hits)
      (t.cfg.action = .discard → exec .frameTaking s = .next hit) ∧
      (t.cfg.action = .rouse → exec .frameTaking s =
        .next ((hit.offerHeld f (some (.filterHit, i))).raise .filterHit (some i)))) ∧
    (s.noFilterBelow f 128 →
      (s.policy.disposition = .discard → exec .frameTaking s = .next u) ∧
      (s.policy.disposition = .hold → exec .frameTaking s = .next (u.offerHeld f none)) ∧
      (s.policy.disposition = .inspect →
        (s.rx.sample = none → exec .frameTaking s =
          .next ((u.setRx { u.rx with
            sample := some { frame := f, ordinal := u.counters.framesSeen, time := s.clk.partTime } }).raise
              .inspect none)) ∧
        (s.rx.sample ≠ none → exec .frameTaking s =
          .next (u.setCounters { u.counters with inspectDiscards := bump32 u.counters.inspectDiscards }))))) ∧
  ∀ (s : State) (f : Frame) (cause : Option (ConditionClass × SlotIx)),
    let refused := s.setCounters { s.counters with heldDiscards := bump32 s.counters.heldDiscards }
    (s.held.entries.length < 32 → heldTotal s.held.entries + f.bytes.length ≤ 24576 →
      s.offerHeld f cause = s.setHeld { s.held with entries := s.held.entries ++ [{ frame := f, cause := cause }] }) ∧
    (32 ≤ s.held.entries.length ∨ 24576 < heldTotal s.held.entries + f.bytes.length →
      (s.held.fullLatch = true → s.offerHeld f cause = refused) ∧
      (s.held.fullLatch = false →
        s.offerHeld f cause = (refused.setHeld { s.held with fullLatch := true }).raise .heldFull none))

/-! ## The engines' timers (Chapters 5 to 8) -/

/-- R87, R88, R90 and R91: what the expiry of a claim's timer does in PROXY and ROUSED with the link up; with the link down, or
before the due time, nothing (witnesses `witness_probeSpacing`, `witness_defence`). -/
def Obligations.ClaimTimersExpire : Prop :=
  ∀ (s : State) (i : SlotIx) (c : Claim) (due : Time), s.claimAt i = some c →
    (c.timer = some (.probeSpacing due) → c.state = .probing →
      (s.enginesRun = true → s.tx.linkUp = true → s.came due →
        (0 < c.probesRemaining → c.dueItem = none →
          (s.roomFor i → exec (.probeSpacingExpiry i) s =
            .next ((s.setSlot i (some (.claim { c with timer := none }))).queued (.claim i .probe))) ∧
          (s.noRoomFor i → exec (.probeSpacingExpiry i) s =
            .next (s.setSlot i (some (.claim { c with timer := none, dueItem := some .probe }))))) ∧
        (0 < c.probesRemaining → c.dueItem ≠ none ∨ (∃ item ∈ s.tx.own, item.slot = i) →
          exec (.probeSpacingExpiry i) s = .next (s.setSlot i (some (.claim { c with timer := none })))) ∧
        (c.probesRemaining = 0 → exec (.probeSpacingExpiry i) s =
          .next (s.rewrite i (.claim { c with state := .held, timer := none }) 0x01))) ∧
      (s.enginesRun = false ∨ s.tx.linkUp = false ∨ ¬ s.came due → exec (.probeSpacingExpiry i) s = .next s)) ∧
    (c.timer = some (.defenceWindow due) → c.state = .contested →
      (s.enginesRun = true → s.tx.linkUp = true → s.came due → exec (.defenceWindowExpiry i) s =
        .next (s.rewrite i (.claim { c with state := .held, timer := none }) 0x01)) ∧
      (s.enginesRun = false ∨ s.tx.linkUp = false ∨ ¬ s.came due → exec (.defenceWindowExpiry i) s = .next s))

/-- R113, R119, R120 and R122: what the expiry of a stream's timer does: a period makes the probe due and wants its item; a
retry spacing counts a miss and wants it again, or ends the stream at the miss limit (witnesses `witness_period`,
`witness_retry`). -/
def Obligations.StreamTimersExpire : Prop :=
  ∀ (s : State) (i : SlotIx) (x : Stream), s.streamAt i = some x → s.enginesRun = true → s.came x.nextDue →
    (x.timer = some .period → x.state = .idle →
      let due := { x with state := .probeDue, timer := none }
      (s.tx.linkUp = true → s.roomFor i → exec (.streamPeriodExpiry i) s =
        .next ((s.rewrite i (.stream due) 0x01).queued (.stream i))) ∧
      (s.tx.linkUp = false ∨ s.noRoomFor i → exec (.streamPeriodExpiry i) s =
        .next (s.rewrite i (.stream { due with itemDue := true }) 0x01))) ∧
    (x.timer = some .retrySpacing → x.state = .outstanding →
      let missed := { x with misses := x.misses + 1, timer := none }
      (s.tx.linkUp = false → exec (.retrySpacingExpiry i) s = .next s) ∧
      (s.tx.linkUp = true →
        (x.cfg.missLimit ≤ x.misses + 1 → exec (.retrySpacingExpiry i) s =
          .next ((s.endsStream i missed 0x01).raise .streamSilent (some i))) ∧
        (x.misses + 1 < x.cfg.missLimit →
          (s.roomFor i → exec (.retrySpacingExpiry i) s =
            .next ((s.rewrite i (.stream missed) 0x04).queued (.stream i))) ∧
          (s.noRoomFor i → exec (.retrySpacingExpiry i) s =
            .next (s.rewrite i (.stream { missed with itemDue := true }) 0x04)))))

/-- R133, R141 and R143: what the expiry of an exchange's timer does: the next due time queues the request; a reply wait
queues it again, or halts the exchange when its retries are spent (witnesses `witness_nextDue`, `witness_replyWait`). -/
def Obligations.ExchangeTimersExpire : Prop :=
  ∀ (s : State) (i : SlotIx) (x : Exchange), s.exchangeAt i = some x → s.enginesRun = true → s.came x.nextDue →
    (x.timer = some .nextDue → x.state = .waiting →
      let wanted := { x with state := .queued, resend := false, timer := none }
      (s.tx.linkUp = true → s.roomFor i → exec (.exchangeNextDue i) s =
        .next ((s.rewrite i (.exchange wanted) 0x01).queued (.exchange i))) ∧
      (s.tx.linkUp = false ∨ s.noRoomFor i → exec (.exchangeNextDue i) s =
        .next (s.rewrite i (.exchange { wanted with itemDue := true }) 0x01))) ∧
    (x.timer = some .replyWait → x.state = .awaiting →
      let tried := { x with attempts := x.attempts + 1 }
      (s.tx.linkUp = false → exec (.replyWaitExpiry i) s = .next s) ∧
      (s.tx.linkUp = true →
        (x.cfg.retryLimit < x.attempts + 1 → exec (.replyWaitExpiry i) s =
          .next (s.haltsExchange i tried .failed)) ∧
        (x.attempts + 1 ≤ x.cfg.retryLimit →
          let again := { tried with state := .queued, resend := true, timer := none }
          (s.roomFor i → exec (.replyWaitExpiry i) s =
            .next ((s.rewrite i (.exchange again) 0x01).queued (.exchange i))) ∧
          (s.noRoomFor i → exec (.replyWaitExpiry i) s =
            .next (s.rewrite i (.exchange { again with itemDue := true }) 0x01)))))

/-- R105 to R108: the flood guard's judgement at a window's end and the next window. That a run is compared by "at least" is the
model's choice (log entry 10): the premise bounds the run (witness `witness_flood`). -/
def Obligations.FloodWindowsAreJudged : Prop :=
  ∀ (s : State) (due : Time), s.enginesRun = true → s.guard.windowEnd = some due →
    let next := fun (u : State) (state : GuardState) (run : Nat) =>
      u.setGuard { state := state, demand := 0, run := run, windowEnd := some (s.later s.policy.windowLength) }
    (¬ s.came due → exec .floodWindowEnd s = .next s) ∧
    (s.came due → s.guard.state = .normal →
      (s.guard.demand.toNat ≤ s.policy.highMark → exec .floodWindowEnd s = .next (next s .normal 0)) ∧
      (s.policy.highMark < s.guard.demand.toNat → s.guard.run < s.policy.debounce →
        exec .floodWindowEnd s = .next (next s .normal (s.guard.run + 1))) ∧
      (s.policy.highMark < s.guard.demand.toNat → s.guard.run = s.policy.debounce →
        exec .floodWindowEnd s =
          .next ((next (s.setCond { s.cond with report := { s.cond.report with floodSeen := true } }) .flooded 0).raise
            .flood none))) ∧
    (s.came due → s.guard.state = .flooded →
      (s.guard.demand.toNat ≤ s.policy.lowMark → exec .floodWindowEnd s = .next (next s .normal 0)) ∧
      (s.policy.lowMark < s.guard.demand.toNat →
        exec .floodWindowEnd s = .next (next s .flooded s.guard.run)))

/-! ## The clock (Chapter 11) -/

/-- R182 to R184: a tick raises part time by 1 in every clock state; in ACTIVE it counts quiet ticks and the fourth enters
DOZE with the earliest due time as the wake due time; in DOZE the wake due time starts warm-up; the end of warm-up is ACTIVE.
In DOZE and warm-up a change of LINK, a station frame, a change of STN_RDY and the end of a delivery are received and wait,
the first two waking a dozing part; what waited alone is taken at the end of warm-up as it would have been taken then. The
model's own are: what enters DOZE in a tick's own taking (log entry 6), where an event waits (log entry 7), that a station
frame's start alone meets the line link state (log entry 35), and that a frame on its way keeps no part awake (log entry 31)
(witnesses `witness_quiet`, `witness_dozing`, `witness_dozeEvents`). -/
def Obligations.TheClockFollowsItsTicks : Prop :=
  ∀ s : State, s.clk.power = .running →
    let now := s.clk.partTime + 1
    let quiet := s.policy.dozeEnable = true ∧ s.custody.state = .proxy ∧ s.tx.linkUp = true ∧ s.tx.answers = [] ∧
      s.tx.own = [] ∧ (∀ i r, s.slot i = some r → r.dueAs i = none) ∧ s.tx.carried = none ∧
      s.ports.sys.slot ≠ .working ∧ s.ports.plat.slot ≠ .working ∧ s.rx.staged = []
    let running := fun (due : Time) => s.guard.windowEnd = some due ∨
      ∃ i r, s.slot i = some r ∧ r.timerDue = some due
    let wakes := fun (at' : Time) (d : Option Time) =>
      (d = none → ∀ due, ¬ running due) ∧
        ∀ w, d = some w → running w ∧ ∀ due, running due → (w - at').toNat ≤ (due - at').toNat
    (s.clk.state = .active →
      (¬ quiet → exec .tick s = .next (s.setClk { s.clk with partTime := now, quietTicks := 0 })) ∧
      (quiet → s.clk.quietTicks < 3 →
        exec .tick s = .next (s.setClk { s.clk with partTime := now, quietTicks := s.clk.quietTicks + 1 })) ∧
      (quiet → 3 ≤ s.clk.quietTicks → ∃ d, wakes now d ∧
        exec .tick s = .next (s.setClk { s.clk with
          partTime := now, state := .doze, quietTicks := 4, wakeDue := d })) ∧
      (s.clk.quietTicks = 4 → ∃ d, wakes s.clk.partTime d ∧
        exec .dozeEntry s = .next (s.setClk { s.clk with state := .doze, wakeDue := d }))) ∧
    (s.clk.state = .warmUp →
      exec .tick s = .next (s.setClk { s.clk with partTime := now }) ∧
      (s.clk.waiting = [] → exec .warmUpEnd s =
        .next (s.setClk { s.clk with state := .active, quietTicks := 0 }))) ∧
    (s.clk.state = .doze →
      let warming := fun (time : Time) => s.setClk
        { s.clk with partTime := time, state := .warmUp, quietTicks := 0, wakeDue := none }
      (∀ w, s.clk.wakeDue = some w → (now - w).toNat < 2 ^ 31 → exec .tick s = .next (warming now)) ∧
      (s.clk.wakeDue = none ∨ (∃ w, s.clk.wakeDue = some w ∧ 2 ^ 31 ≤ (now - w).toNat) →
        exec .tick s = .next (s.setClk { s.clk with partTime := now })) ∧
      (∀ cause, cause ≠ .wakeDue ∨ (∃ w, s.clk.wakeDue = some w ∧ s.came w) →
        exec (.warmUpStart cause) s = .next (warming s.clk.partTime))) ∧
    (s.clk.state ≠ .active →
      let woken := if s.clk.state = .doze
        then s.setClk { s.clk with state := .warmUp, quietTicks := 0, wakeDue := none } else s
      let waits := fun (u : State) (w : Waiting) => u.setClk { u.clk with waiting := u.clk.waiting ++ [w] }
      let onTheWay := fun (l : List Arriving) => (l.filter fun a => decide (a = .staged)).length
      (s.pins.link = true → exec .lineLinkDrop s = .next
        ((((waits woken .linkDrop).setPins { s.pins with link := false }).setRx { s.rx with arriving := [] }).setCounters
          { s.counters with framesBad := bump32By s.counters.framesBad (onTheWay s.rx.arriving) })) ∧
      (s.pins.link = false → exec .lineLinkReturn s =
        .next ((waits woken .linkReturn).setPins { s.pins with link := true })) ∧
      (exec .stationFrameStart s = .next (woken.setStn { s.stn with arriving := s.stn.arriving ++
        [if s.tx.linkUp = true ∧
            s.stn.buffer.length + s.stn.untaken.length + onTheWay s.stn.arriving < 2
          then .staged else .refused] })) ∧
      (∀ (bytes : List Byte) (fcs : Fcs) (a : Arriving) (rest : List Arriving), s.stn.arriving = a :: rest →
        let good := fcs = crc32 bytes ∧ 14 ≤ bytes.length ∧ bytes.length ≤ 1518
        (a = .refused ∨ ¬ good →
          exec (.stationFrameTaking bytes fcs) s = .next (s.setStn { s.stn with arriving := rest })) ∧
        (a = .staged → good → exec (.stationFrameTaking bytes fcs) s =
          .next ((waits s .stationFrame).setStn
            { s.stn with arriving := rest, untaken := s.stn.untaken ++ [{ bytes, fcs }] }))) ∧
      (∀ high, s.pins.stnRdy ≠ high → exec (.stnRdyChange high) s =
        .next ((waits s (.stnRdy high)).setPins { s.pins with stnRdy := high })) ∧
      exec .deliveryEnd s = .next (waits s .deliveryEnd)) ∧
    (s.clk.state = .warmUp → s.clk.waiting = [] → s.stn.untaken = [] →
      ∀ c : Instr, c = .lineLinkDrop ∨ c = .lineLinkReturn ∨ (∃ bytes fcs, c = .stationFrameTaking bytes fcs) ∨
        (∃ high, c = .stnRdyChange high) ∨ c = .deliveryEnd →
        ∃ a, exec c s = .next a ∧
          exec .warmUpEnd a =
            exec c (s.setClk { s.clk with state := .active, quietTicks := 0, waiting := [] }))

/-! ## The transmitter, the line link and the station path (Chapter 9) -/

/-- R121, R134 and R153 to R155 with R40: a grant goes to the next class if it waits, else to the other; what it takes,
builds and marks; and what the completion of each kind of frame does in every custody state: its timer starts only while the
table is lent, and in QUIESCE the phase then ends where no answer waits (R57). That an item without its template is removed
and nothing carried is the model's choice (log entry 27) (witnesses `witness_grant`, `witness_complete`,
`witness_completeReturning`). -/
def Obligations.FramesAreGrantedAndCompleted : Prop :=
  (∀ s : State, s.canTake = true → s.tx.linkUp = true → s.tx.carried = none →
    let granted := fun (u : State) (c : Carried) => u.setTx { u.tx with carried := some c }
    let own := fun (rest : List OwnItem) => s.setTx { s.tx with nextClass := .station, own := rest }
    let partTurn := s.tx.nextClass = .part ∨ s.stn.buffer = []
    (∀ f rest, s.stn.buffer = f :: rest → s.tx.nextClass = .station ∨ (s.tx.answers = [] ∧ s.tx.own = []) →
      exec .grant s = .next (granted ((s.setStn { s.stn with buffer := rest }).setTx
        { s.tx with nextClass := .part }) (.station f))) ∧
    (∀ a rest, s.tx.answers = a :: rest → partTurn →
      exec .grant s = .next (granted (s.setTx { s.tx with nextClass := .station, answers := rest })
        (.answer a.slot a.origin { bytes := a.bytes, fcs := crc32 a.bytes }))) ∧
    (∀ item rest, s.tx.answers = [] → s.tx.own = item :: rest → partTurn →
      (∀ i purpose c, item = .claim i purpose → s.claimAt i = some c →
        let template := match purpose with
          | .probe => c.cfg.probeTemplate
          | .announcement => c.cfg.announceTemplate
        (∀ t, template = some t → let bytes := s.build (.claim c) t []
          exec .grant s = .next (granted (own rest) (.own item { bytes := bytes, fcs := crc32 bytes }))) ∧
        (template = none → exec .grant s = .next (own rest))) ∧
      (∀ i x, item = .stream i → s.streamAt i = some x →
        let bytes := s.build (.stream x) x.cfg.probeTemplate []
        let frame : Frame := { bytes := bytes, fcs := crc32 bytes }
        (x.state = .probeDue → exec .grant s =
          .next (granted ((own rest).rewrite i (.stream { x with state := .outstanding }) 0x01) (.own item frame))) ∧
        (x.state ≠ .probeDue → exec .grant s = .next (granted (own rest) (.own item frame)))) ∧
      (∀ i x, item = .exchange i → s.exchangeAt i = some x → x.state = .queued →
        let bytes := s.build (.exchange { x with sendCounter := x.sendCounter + 1 }) x.cfg.requestTemplate []
        exec .grant s =
          .next (granted ((own rest).rewrite i
            (.exchange { x with sendCounter := x.sendCounter + 1, state := .awaiting }) 0x01)
            (.own item { bytes := bytes, fcs := crc32 bytes })))) ∧
    (s.stn.buffer = [] → s.tx.answers = [] → s.tx.own = [] → exec .grant s = .next s)) ∧
  ∀ s : State, s.canTake = true →
    let lent := s.custody.state = .proxy ∨ s.custody.state = .roused
    let idle := s.setTx { s.tx with carried := none }
    let counted := idle.setCounters { s.counters with answersSent := bump32 s.counters.answersSent }
    let leaves := fun (u : State) => exec .transmitComplete s =
      .next (if s.custody.state = .quiesce ∧ s.tx.answers = [] then u.quiesceEnds else u)
    (s.tx.carried = none → exec .transmitComplete s = .next s) ∧
    (∀ f, s.tx.carried = some (.station f) → leaves idle) ∧
    (∀ i f r, s.tx.carried = some (.answer i .responder f) → s.responderAt i = some r →
      leaves (counted.rewrite i (.responder { r with answersSent := bump16 r.answersSent })
        (countMark r.answersSent))) ∧
    (∀ i f x, s.tx.carried = some (.answer i .stream f) → s.streamAt i = some x →
      leaves (counted.rewrite i (.stream { x with repliesSent := bump16 x.repliesSent })
        (countMark x.repliesSent))) ∧
    (∀ i f, s.tx.carried = some (.own (.claim i .announcement) f) → leaves idle) ∧
    (∀ i f c, s.tx.carried = some (.own (.claim i .probe) f) → s.claimAt i = some c →
      let sent := { c with probesRemaining := c.probesRemaining - 1 }
      let marks := if c.probesRemaining = 0 then 0 else 0x04
      (c.state = .probing → lent → leaves (idle.rewrite i
        (.claim { sent with timer := some (.probeSpacing (s.later c.cfg.probeSpacing)) }) marks)) ∧
      (c.state = .probing → ¬ lent → leaves (idle.rewrite i (.claim sent) marks)) ∧
      (c.state ≠ .probing → leaves idle)) ∧
    (∀ i f x, s.tx.carried = some (.own (.stream i) f) → s.streamAt i = some x →
      let sent := { x with probesSent := bump16 x.probesSent }
      let waits := x.state = .outstanding ∧ (∀ item ∈ s.tx.own, item.slot ≠ i) ∧ x.itemDue = false ∧ lent
      (waits → leaves (idle.rewrite i (.stream { sent with
        timer := some .retrySpacing, nextDue := s.later x.cfg.retrySpacing }) (countMark x.probesSent))) ∧
      (¬ waits → leaves (idle.rewrite i (.stream sent) (countMark x.probesSent)))) ∧
    (∀ i f x, s.tx.carried = some (.own (.exchange i) f) → s.exchangeAt i = some x →
      let sent := { x with sends := bump16 x.sends }
      let waits := x.state = .awaiting ∧ lent
      (waits → leaves (idle.rewrite i (.exchange { sent with
        timer := some .replyWait, nextDue := s.later (x.cfg.replyTimeout * 2 ^ min x.attempts 5) })
        (countMark x.sends))) ∧
      (¬ waits → leaves (idle.rewrite i (.exchange sent) (countMark x.sends))))

/-- R65, R91, R158 and R159: a line link drop in ACTIVE: the carried frame is aborted by its class, the answers dropped and
counted, the station buffer and every frame on its way in lost; while the table is lent each claim not LOST is marked for
reprobing and LINK_DOWN raised; in QUIESCE it ends the phase (R57). The change list gets the re-queued exchange's state mark
(R148), then the counters mark of each claim newly marked (R96), in ascending slot index, which is the model's choice (log
entry 32). What becomes of frames on their way in is inferred (log entry 13) (witnesses `witness_linkDrop`,
`witness_dropReturning`). -/
def Obligations.LineLinkDropsByItsSteps : Prop :=
  ∀ s : State, s.canTake = true → s.pins.link = true → s.tx.linkUp = true →
    let isAnswer := match s.tx.carried with | some (.answer _ _ _) => 1 | _ => 0
    let cut := (s.rx.arriving.filter fun a => decide (a = .staged)).length
    let dropped := fun (u : State) => { s with
      pins := { s.pins with link := false }
      rx := { s.rx with arriving := [] }
      counters := { s.counters with
        framesBad := bump32By s.counters.framesBad cut
        answersDropped := bump32By s.counters.answersDropped (isAnswer + s.tx.answers.length) }
      tx := { s.tx with linkUp := false, carried := none, answers := [], own := u.tx.own }
      stn := { s.stn with arriving := [], untaken := [], buffer := [] }
      table := { s.table with slots := u.table.slots }
      cond := { s.cond with changes := u.cond.changes, report := { s.cond.report with linkSteady := false } } }
    let stands := fun (item : OwnItem) => (∀ other ∈ s.tx.own, other.slot ≠ item.slot) ∧
      match item with
      | .claim i _ => ∃ c, s.claimAt i = some c ∧ c.state ≠ .lost ∧ c.dueItem = none
      | .stream i => ∃ x, s.streamAt i = some x ∧ x.state = .outstanding ∧ x.itemDue = false
      | .exchange i => ∃ x, s.exchangeAt i = some x ∧ x.state = .awaiting ∧ x.itemDue = false
    let requeued := fun (item : OwnItem) => (∃ f, s.tx.carried = some (.own item f)) ∧ stands item
    (s.custody.state.lent = true → ∃ u, exec .lineLinkDrop s = .next ((dropped u).raise .linkDown none) ∧
      (∀ item, requeued item → u.tx.own = item :: s.tx.own) ∧
      ((∀ item, ¬ requeued item) → u.tx.own = s.tx.own) ∧
      (∃ base, (∀ i, requeued (.exchange i) → base = addChange s.cond.changes i 0x01) ∧
        ((∀ i, ¬ requeued (.exchange i)) → base = s.cond.changes) ∧
        u.cond.changes = (slotIndices.filter fun i =>
          (s.claimAt i).any fun c => decide (c.state ≠ .lost) && !c.reprobePending).foldl
            (fun l i => addChange l i 0x04) base) ∧
      ∀ i : SlotIx,
        (∀ c, s.claimAt i = some c → u.claimAt i = some
          (if c.state = .lost then c else { c with reprobePending := true })) ∧
        (∀ x, s.exchangeAt i = some x →
          (requeued (.exchange i) → u.exchangeAt i = some { x with state := .queued }) ∧
          (¬ requeued (.exchange i) → u.exchangeAt i = some x)) ∧
        (s.claimAt i = none → s.exchangeAt i = none → u.slot i = s.slot i)) ∧
    (s.custody.state = .home ∨ s.custody.state = .checking ∨ s.custody.state = .drain →
      exec .lineLinkDrop s = .next (dropped s)) ∧
    (s.custody.state = .quiesce → exec .lineLinkDrop s = .next (dropped s).quiesceEnds)

/-- R92, R126, R146, R152, R153 and R160: a line link return in ACTIVE sets the link state up and, while the table is lent,
starts each slot's traffic again: a queued item of a reprobed claim becomes a probe where it stands, and the items the
engines want and those due are placed at the tail in ascending slot index as far as there is room, the others staying due;
the claims' and exchanges' marks join the change list in the same order (inferred, log entry 15); the arbiter's grant follows
in the same taking, and reports its own change (the state mark of an exchange it makes AWAITING again is the model's choice,
log entry 33). A due-item placement moves the due items, in ascending slot index, to the tail of the own-traffic queue as far
as there is room (witnesses `witness_linkReturn`, `witness_linkReturnHome`, `witness_placement`). -/
def Obligations.LinkReturnAndPlacementQueueTheTraffic : Prop :=
  ∀ s : State,
    let queuedAt := fun (i : SlotIx) => s.tx.own.any fun item => decide (item.slot = i)
    let room := 16 - (s.tx.own.length + s.tx.keptPlaces)
    (s.canTake = true → s.pins.link = false → s.tx.linkUp = false →
      let risen := { s with pins := { s.pins with link := true }, tx := { s.tx with linkUp := true } }
      (s.custody.state.lent = false → ∃ t, exec .lineLinkReturn s = .next t ∧ exec .grant risen = .next t) ∧
      (s.custody.state.lent = true →
        let reprobes := fun (c : Claim) =>
          c.reprobePending = true ∧ c.cfg.probeTemplate ≠ none ∧ 0 < c.cfg.probeCount
        let wanted := slotIndices.filterMap fun i =>
          if queuedAt i then none else
            match s.slot i with
            | some (.claim c) => if reprobes c then some (.claim i .probe) else c.dueItem.map (OwnItem.claim i)
            | some (.stream x) =>
              if (x.state = .outstanding ∧ x.timer = some .retrySpacing) ∨ x.itemDue = true
                then some (.stream i) else none
            | some (.exchange x) =>
              if x.state = .awaiting ∨ x.itemDue = true then some (.exchange i) else none
            | _ => none
        let placed := fun (i : SlotIx) => (wanted.take room).any fun item => decide (item.slot = i)
        let late := fun (i : SlotIx) => (wanted.drop room).any fun item => decide (item.slot = i)
        let returned := fun (i : SlotIx) (r : Record) =>
          match r with
          | .claim c => Record.claim
            (if reprobes c then { c with
              state := .probing, probesRemaining := c.cfg.probeCount, timer := none, reprobePending := false
              dueItem := if late i then some .probe else none }
            else if c.reprobePending = true then { c with
              state := .held, timer := none, reprobePending := false
              dueItem := if placed i then none else c.dueItem }
            else { c with dueItem := if placed i then none else c.dueItem })
          | .stream x => .stream
            (if x.state = .outstanding ∧ x.timer = some .retrySpacing then
              { x with timer := none, nextDue := s.clk.partTime, itemDue := late i }
            else { x with itemDue := x.itemDue && !placed i })
          | .exchange x => .exchange
            (if x.state = .awaiting then { x with state := .queued, resend := true, timer := none, itemDue := late i }
            else { x with itemDue := x.itemDue && !placed i })
          | other => other
        let marked := fun (l : List ChangeRecord) (i : SlotIx) =>
          match s.slot i with
          | some (.claim c) =>
            if c.reprobePending = false then l
            else addChange l i (if c.state = (if reprobes c then .probing else .held) then 0x04 else 0x01)
          | some (.exchange x) => if x.state = .awaiting then addChange l i 0x01 else l
          | _ => l
        let turned := fun (item : OwnItem) =>
          match item with
          | .claim i purpose => OwnItem.claim i (if (s.claimAt i).any fun c => decide (reprobes c) then .probe else purpose)
          | other => other
        ∃ u t, exec .lineLinkReturn s = .next t ∧ exec .grant u = .next t ∧
          u = { risen with
            tx := { risen.tx with own := s.tx.own.map turned ++ wanted.take room }
            table := { s.table with slots := u.table.slots }
            cond := { s.cond with changes := slotIndices.foldl marked s.cond.changes } } ∧
          ∀ i : SlotIx, u.slot i = (s.slot i).map (returned i))) ∧
    (s.enginesRun = true →
      let dueItems := slotIndices.filterMap fun i => if queuedAt i then none else (s.slot i).bind (Record.dueAs i)
      let placed := fun (i : SlotIx) => (dueItems.take room).any fun item => decide (item.slot = i)
      (s.tx.linkUp = false → exec .dueItemPlacement s = .next s) ∧
      (s.tx.linkUp = true → ∃ t, exec .dueItemPlacement s = .next t ∧
        t = (s.setTx { s.tx with own := s.tx.own ++ dueItems.take room }).setTable
          { s.table with slots := t.table.slots } ∧
        ∀ i : SlotIx, t.slot i = if placed i then (s.slot i).map Record.notDue else s.slot i))

/-- R58, R124, R128, R156, R157 and R163: a station frame gets one of two places or is discarded, and is judged and tested by
custody when it is whole; STN_RDY's changes and the end of a delivery move the station output and, in DRAIN, the held queue.
That the line link state is tested at the frame's start alone is the model's choice (log entry 35); what becomes of a frame
waiting in DRAIN is inferred (log entry 17) (witnesses `witness_stationFrame`, `witness_delivery`). -/
def Obligations.TheStationPathMovesItsFrames : Prop :=
  ∀ s : State, s.canTake = true →
    let home : CustodyUnit := { state := .home, cursor := none, discard := false, wake := false }
    let fed := fun (u : State) =>
      match u.held.entries with
      | [] => u
      | e :: _ =>
        if u.custody.state = .drain ∧ u.pins.stnRdy = true ∧ u.stn.delivering = none ∧ u.stn.waiting = none then
          u.setStn { u.stn with delivering := some (.heldHead e.frame) } else u
    (exec .stationFrameStart s = .next (s.setStn { s.stn with arriving := s.stn.arriving ++
      [if s.tx.linkUp = true ∧
          s.stn.buffer.length + s.stn.untaken.length + (s.stn.arriving.filter fun a => decide (a = .staged)).length < 2
        then .staged else .refused] })) ∧
    (∀ (bytes : List Byte) (fcs : Fcs) (a : Arriving) (rest : List Arriving), s.stn.arriving = a :: rest →
      let u := s.setStn { s.stn with arriving := rest }
      let good := fcs = crc32 bytes ∧ 14 ≤ bytes.length ∧ bytes.length ≤ 1518
      (a = .refused ∨ ¬ good → exec (.stationFrameTaking bytes fcs) s = .next u) ∧
      (a = .staged → good →
        let joined := s.setStn { s.stn with arriving := rest, buffer := s.stn.buffer ++ [{ bytes, fcs }] }
        (s.custody.state ∈ [.checking, .quiesce, .drain] →
          exec (.stationFrameTaking bytes fcs) s = .next joined) ∧
        (s.custody.state = .home → ∃ t, exec (.stationFrameTaking bytes fcs) s = .next t ∧
          t = joined.setTable { s.table with slots := t.table.slots } ∧ ∀ i : SlotIx,
            (∀ x, s.slot i = some (.stream x) → t.slot i = some (.stream
              (if x.cfg.tracking = true ∧ matchesFrame bytes x.cfg.outbound = true ∧ x.cfg.headerLen ≤ bytes.length
                then { x with
                  ourSeq := judged x.valuesValid (seqField bytes x.cfg.seqOffset +
                    BitVec.ofNat 32 (bytes.length - x.cfg.headerLen)) x.ourSeq
                  peerSeq := judged x.valuesValid (seqField bytes x.cfg.ackOffset) x.peerSeq
                  valuesValid := true }
                else x))) ∧
            ((∀ x, s.slot i ≠ some (.stream x)) → t.slot i = s.slot i)) ∧
        (s.custody.state.lent = true →
          exec (.stationFrameTaking bytes fcs) s = .next (slotIndices.foldl (fun v i =>
            match v.streamAt i with
            | some x => if x.state ≠ .ended ∧ matchesFrame bytes x.cfg.outbound = true
                then v.endsStream i x 0x11 else v
            | none => v) joined)))) ∧
    (s.pins.stnRdy = false → exec (.stnRdyChange true) s = .next (fed (s.setPins { s.pins with stnRdy := true }))) ∧
    (s.pins.stnRdy = true → exec (.stnRdyChange false) s =
      .next ((s.setPins { s.pins with stnRdy := false }).setStn { s.stn with waiting := none })) ∧
    (s.stn.delivering = none → exec .deliveryEnd s = .next s) ∧
    ∀ d, s.stn.delivering = some d →
      let freed := s.setStn { s.stn with
        delivering := if s.pins.stnRdy = true then s.stn.waiting.map Delivery.passing else none, waiting := none }
      (∀ f, d = .passing f → exec .deliveryEnd s = .next (fed freed)) ∧
      (∀ f, d = .heldHead f → s.custody.state ≠ .drain → exec .deliveryEnd s = .next freed) ∧
      ∀ f e rest, d = .heldHead f → s.custody.state = .drain → s.held.entries = e :: rest →
        (rest = [] → exec .deliveryEnd s =
          .next ((freed.setHeld { entries := [], fullLatch := false }).setCustody home)) ∧
        (rest ≠ [] → exec .deliveryEnd s = .next (fed (freed.setHeld { entries := rest, fullLatch := false })))

/-! ## What every step keeps -/

/-- R25 and R186: the pool and the store stay in canonical form inside their 16,384 and 2,048 bytes, and a store
operation concerns a user page: every step keeps this (witness `witness_kept`). -/
def Obligations.MemoriesStayCanonical : Prop :=
  ∀ (s t : State), s.memoriesSound → step s = .next t → t.memoriesSound

/-- R2: the kind counts are the numbers of claims, streams and exchanges in the table, within 16, 32 and 16: every step
keeps this (witness `witness_kept`). -/
def Obligations.KindCountsAreExact : Prop :=
  ∀ (s t : State), s.countsSound → step s = .next t → t.countsSound

/-- R64, R151, R152, R156, R161, R167 and R174: no queue, buffer or list grows past its capacity, no slot has two items
queued or two change records: every step keeps this (witness `witness_kept`). -/
def Obligations.QueuesStayWithin : Prop :=
  ∀ (s t : State), s.queuesWithin ∧ s.changesDistinct → step s = .next t → t.queuesWithin ∧ t.changesDistinct

/-- The state after reset has every property that each step keeps, the table is empty, the pool reads zero (R24, R25), every
policy item has its built-in value (R171), part time is 0 (R182). That the store reads 0xFF but for its part code is the
model's choice (log entry 2). -/
def Obligations.ResetStateIsSound : Prop :=
  let s := State.reset
  s.memoriesSound ∧ s.countsSound ∧ s.queuesWithin ∧ s.changesDistinct ∧ s.custodySound ∧ s.phaseSound ∧
    (∀ i, s.slot i = none) ∧ s.table.stationAddr = 0 ∧ (∀ a, s.poolByte a = 0) ∧
    (∀ a, 2 ≤ a → s.storeByte a = 0xFF) ∧ s.custody.state = .home ∧ s.counters = ⟨0, 0, 0, 0, 0, 0, 0⟩ ∧
    (∀ cls : ConditionClass, s.policy.retain.getLsbD cls.code = true ∧ s.policy.notify.getLsbD cls.code = true ∧
      (s.policy.rouse.getLsbD cls.code = true ↔ 1 ≤ cls.code ∧ cls.code ≤ 7)) ∧
    s.policy.conflictWatch = true ∧ s.policy.floodEnable = true ∧ s.policy.windowLength = 4 ∧
    s.policy.highMark = 200 ∧ s.policy.lowMark = 50 ∧ s.policy.debounce = 1 ∧ s.policy.disposition = .discard ∧
    s.policy.dozeEnable = false ∧ s.clk.partTime = 0
end

