-- ==== Sys2Proof/Laws/State.lean ====
section
/-! SUPPORT. One lemma per field for each update of a block: no later proof unfolds a record update. -/

namespace Sys2Proof.Machine

variable (s : State)

/-! ## setClk -/

@[simp] theorem State.setClk_clk (x : ClockUnit) : (s.setClk x).clk = x := rfl
@[simp] theorem State.setClk_pins (x : ClockUnit) : (s.setClk x).pins = s.pins := rfl
@[simp] theorem State.setClk_ports (x : ClockUnit) : (s.setClk x).ports = s.ports := rfl
@[simp] theorem State.setClk_store (x : ClockUnit) : (s.setClk x).store = s.store := rfl
@[simp] theorem State.setClk_table (x : ClockUnit) : (s.setClk x).table = s.table := rfl
@[simp] theorem State.setClk_pool (x : ClockUnit) : (s.setClk x).pool = s.pool := rfl
@[simp] theorem State.setClk_custody (x : ClockUnit) : (s.setClk x).custody = s.custody := rfl
@[simp] theorem State.setClk_policy (x : ClockUnit) : (s.setClk x).policy = s.policy := rfl
@[simp] theorem State.setClk_guard (x : ClockUnit) : (s.setClk x).guard = s.guard := rfl
@[simp] theorem State.setClk_rx (x : ClockUnit) : (s.setClk x).rx = s.rx := rfl
@[simp] theorem State.setClk_counters (x : ClockUnit) : (s.setClk x).counters = s.counters := rfl
@[simp] theorem State.setClk_tx (x : ClockUnit) : (s.setClk x).tx = s.tx := rfl
@[simp] theorem State.setClk_stn (x : ClockUnit) : (s.setClk x).stn = s.stn := rfl
@[simp] theorem State.setClk_held (x : ClockUnit) : (s.setClk x).held = s.held := rfl
@[simp] theorem State.setClk_cond (x : ClockUnit) : (s.setClk x).cond = s.cond := rfl
@[simp] theorem State.setClk_draws (x : ClockUnit) : (s.setClk x).draws = s.draws := rfl
@[simp] theorem State.setClk_pending (x : ClockUnit) : (s.setClk x).pending = s.pending := rfl
@[simp] theorem State.setClk_setClk (x y : ClockUnit) : (s.setClk x).setClk y = s.setClk y := rfl
@[simp] theorem State.setClk_self : s.setClk s.clk = s := rfl

/-! ## setPins -/

@[simp] theorem State.setPins_clk (x : Pins) : (s.setPins x).clk = s.clk := rfl
@[simp] theorem State.setPins_pins (x : Pins) : (s.setPins x).pins = x := rfl
@[simp] theorem State.setPins_ports (x : Pins) : (s.setPins x).ports = s.ports := rfl
@[simp] theorem State.setPins_store (x : Pins) : (s.setPins x).store = s.store := rfl
@[simp] theorem State.setPins_table (x : Pins) : (s.setPins x).table = s.table := rfl
@[simp] theorem State.setPins_pool (x : Pins) : (s.setPins x).pool = s.pool := rfl
@[simp] theorem State.setPins_custody (x : Pins) : (s.setPins x).custody = s.custody := rfl
@[simp] theorem State.setPins_policy (x : Pins) : (s.setPins x).policy = s.policy := rfl
@[simp] theorem State.setPins_guard (x : Pins) : (s.setPins x).guard = s.guard := rfl
@[simp] theorem State.setPins_rx (x : Pins) : (s.setPins x).rx = s.rx := rfl
@[simp] theorem State.setPins_counters (x : Pins) : (s.setPins x).counters = s.counters := rfl
@[simp] theorem State.setPins_tx (x : Pins) : (s.setPins x).tx = s.tx := rfl
@[simp] theorem State.setPins_stn (x : Pins) : (s.setPins x).stn = s.stn := rfl
@[simp] theorem State.setPins_held (x : Pins) : (s.setPins x).held = s.held := rfl
@[simp] theorem State.setPins_cond (x : Pins) : (s.setPins x).cond = s.cond := rfl
@[simp] theorem State.setPins_draws (x : Pins) : (s.setPins x).draws = s.draws := rfl
@[simp] theorem State.setPins_pending (x : Pins) : (s.setPins x).pending = s.pending := rfl
@[simp] theorem State.setPins_setPins (x y : Pins) : (s.setPins x).setPins y = s.setPins y := rfl
@[simp] theorem State.setPins_self : s.setPins s.pins = s := rfl

/-! ## setPorts -/

@[simp] theorem State.setPorts_clk (x : Ports) : (s.setPorts x).clk = s.clk := rfl
@[simp] theorem State.setPorts_pins (x : Ports) : (s.setPorts x).pins = s.pins := rfl
@[simp] theorem State.setPorts_ports (x : Ports) : (s.setPorts x).ports = x := rfl
@[simp] theorem State.setPorts_store (x : Ports) : (s.setPorts x).store = s.store := rfl
@[simp] theorem State.setPorts_table (x : Ports) : (s.setPorts x).table = s.table := rfl
@[simp] theorem State.setPorts_pool (x : Ports) : (s.setPorts x).pool = s.pool := rfl
@[simp] theorem State.setPorts_custody (x : Ports) : (s.setPorts x).custody = s.custody := rfl
@[simp] theorem State.setPorts_policy (x : Ports) : (s.setPorts x).policy = s.policy := rfl
@[simp] theorem State.setPorts_guard (x : Ports) : (s.setPorts x).guard = s.guard := rfl
@[simp] theorem State.setPorts_rx (x : Ports) : (s.setPorts x).rx = s.rx := rfl
@[simp] theorem State.setPorts_counters (x : Ports) : (s.setPorts x).counters = s.counters := rfl
@[simp] theorem State.setPorts_tx (x : Ports) : (s.setPorts x).tx = s.tx := rfl
@[simp] theorem State.setPorts_stn (x : Ports) : (s.setPorts x).stn = s.stn := rfl
@[simp] theorem State.setPorts_held (x : Ports) : (s.setPorts x).held = s.held := rfl
@[simp] theorem State.setPorts_cond (x : Ports) : (s.setPorts x).cond = s.cond := rfl
@[simp] theorem State.setPorts_draws (x : Ports) : (s.setPorts x).draws = s.draws := rfl
@[simp] theorem State.setPorts_pending (x : Ports) : (s.setPorts x).pending = s.pending := rfl
@[simp] theorem State.setPorts_setPorts (x y : Ports) : (s.setPorts x).setPorts y = s.setPorts y := rfl
@[simp] theorem State.setPorts_self : s.setPorts s.ports = s := rfl

/-! ## setStore -/

@[simp] theorem State.setStore_clk (x : StoreUnit) : (s.setStore x).clk = s.clk := rfl
@[simp] theorem State.setStore_pins (x : StoreUnit) : (s.setStore x).pins = s.pins := rfl
@[simp] theorem State.setStore_ports (x : StoreUnit) : (s.setStore x).ports = s.ports := rfl
@[simp] theorem State.setStore_store (x : StoreUnit) : (s.setStore x).store = x := rfl
@[simp] theorem State.setStore_table (x : StoreUnit) : (s.setStore x).table = s.table := rfl
@[simp] theorem State.setStore_pool (x : StoreUnit) : (s.setStore x).pool = s.pool := rfl
@[simp] theorem State.setStore_custody (x : StoreUnit) : (s.setStore x).custody = s.custody := rfl
@[simp] theorem State.setStore_policy (x : StoreUnit) : (s.setStore x).policy = s.policy := rfl
@[simp] theorem State.setStore_guard (x : StoreUnit) : (s.setStore x).guard = s.guard := rfl
@[simp] theorem State.setStore_rx (x : StoreUnit) : (s.setStore x).rx = s.rx := rfl
@[simp] theorem State.setStore_counters (x : StoreUnit) : (s.setStore x).counters = s.counters := rfl
@[simp] theorem State.setStore_tx (x : StoreUnit) : (s.setStore x).tx = s.tx := rfl
@[simp] theorem State.setStore_stn (x : StoreUnit) : (s.setStore x).stn = s.stn := rfl
@[simp] theorem State.setStore_held (x : StoreUnit) : (s.setStore x).held = s.held := rfl
@[simp] theorem State.setStore_cond (x : StoreUnit) : (s.setStore x).cond = s.cond := rfl
@[simp] theorem State.setStore_draws (x : StoreUnit) : (s.setStore x).draws = s.draws := rfl
@[simp] theorem State.setStore_pending (x : StoreUnit) : (s.setStore x).pending = s.pending := rfl
@[simp] theorem State.setStore_setStore (x y : StoreUnit) : (s.setStore x).setStore y = s.setStore y := rfl
@[simp] theorem State.setStore_self : s.setStore s.store = s := rfl

/-! ## setTable -/

@[simp] theorem State.setTable_clk (x : Table) : (s.setTable x).clk = s.clk := rfl
@[simp] theorem State.setTable_pins (x : Table) : (s.setTable x).pins = s.pins := rfl
@[simp] theorem State.setTable_ports (x : Table) : (s.setTable x).ports = s.ports := rfl
@[simp] theorem State.setTable_store (x : Table) : (s.setTable x).store = s.store := rfl
@[simp] theorem State.setTable_table (x : Table) : (s.setTable x).table = x := rfl
@[simp] theorem State.setTable_pool (x : Table) : (s.setTable x).pool = s.pool := rfl
@[simp] theorem State.setTable_custody (x : Table) : (s.setTable x).custody = s.custody := rfl
@[simp] theorem State.setTable_policy (x : Table) : (s.setTable x).policy = s.policy := rfl
@[simp] theorem State.setTable_guard (x : Table) : (s.setTable x).guard = s.guard := rfl
@[simp] theorem State.setTable_rx (x : Table) : (s.setTable x).rx = s.rx := rfl
@[simp] theorem State.setTable_counters (x : Table) : (s.setTable x).counters = s.counters := rfl
@[simp] theorem State.setTable_tx (x : Table) : (s.setTable x).tx = s.tx := rfl
@[simp] theorem State.setTable_stn (x : Table) : (s.setTable x).stn = s.stn := rfl
@[simp] theorem State.setTable_held (x : Table) : (s.setTable x).held = s.held := rfl
@[simp] theorem State.setTable_cond (x : Table) : (s.setTable x).cond = s.cond := rfl
@[simp] theorem State.setTable_draws (x : Table) : (s.setTable x).draws = s.draws := rfl
@[simp] theorem State.setTable_pending (x : Table) : (s.setTable x).pending = s.pending := rfl
@[simp] theorem State.setTable_setTable (x y : Table) : (s.setTable x).setTable y = s.setTable y := rfl
@[simp] theorem State.setTable_self : s.setTable s.table = s := rfl

/-! ## setPool -/

@[simp] theorem State.setPool_clk (x : List Host.Cell) : (s.setPool x).clk = s.clk := rfl
@[simp] theorem State.setPool_pins (x : List Host.Cell) : (s.setPool x).pins = s.pins := rfl
@[simp] theorem State.setPool_ports (x : List Host.Cell) : (s.setPool x).ports = s.ports := rfl
@[simp] theorem State.setPool_store (x : List Host.Cell) : (s.setPool x).store = s.store := rfl
@[simp] theorem State.setPool_table (x : List Host.Cell) : (s.setPool x).table = s.table := rfl
@[simp] theorem State.setPool_pool (x : List Host.Cell) : (s.setPool x).pool = x := rfl
@[simp] theorem State.setPool_custody (x : List Host.Cell) : (s.setPool x).custody = s.custody := rfl
@[simp] theorem State.setPool_policy (x : List Host.Cell) : (s.setPool x).policy = s.policy := rfl
@[simp] theorem State.setPool_guard (x : List Host.Cell) : (s.setPool x).guard = s.guard := rfl
@[simp] theorem State.setPool_rx (x : List Host.Cell) : (s.setPool x).rx = s.rx := rfl
@[simp] theorem State.setPool_counters (x : List Host.Cell) : (s.setPool x).counters = s.counters := rfl
@[simp] theorem State.setPool_tx (x : List Host.Cell) : (s.setPool x).tx = s.tx := rfl
@[simp] theorem State.setPool_stn (x : List Host.Cell) : (s.setPool x).stn = s.stn := rfl
@[simp] theorem State.setPool_held (x : List Host.Cell) : (s.setPool x).held = s.held := rfl
@[simp] theorem State.setPool_cond (x : List Host.Cell) : (s.setPool x).cond = s.cond := rfl
@[simp] theorem State.setPool_draws (x : List Host.Cell) : (s.setPool x).draws = s.draws := rfl
@[simp] theorem State.setPool_pending (x : List Host.Cell) : (s.setPool x).pending = s.pending := rfl
@[simp] theorem State.setPool_setPool (x y : List Host.Cell) : (s.setPool x).setPool y = s.setPool y := rfl
@[simp] theorem State.setPool_self : s.setPool s.pool = s := rfl

/-! ## setCustody -/

@[simp] theorem State.setCustody_clk (x : CustodyUnit) : (s.setCustody x).clk = s.clk := rfl
@[simp] theorem State.setCustody_pins (x : CustodyUnit) : (s.setCustody x).pins = s.pins := rfl
@[simp] theorem State.setCustody_ports (x : CustodyUnit) : (s.setCustody x).ports = s.ports := rfl
@[simp] theorem State.setCustody_store (x : CustodyUnit) : (s.setCustody x).store = s.store := rfl
@[simp] theorem State.setCustody_table (x : CustodyUnit) : (s.setCustody x).table = s.table := rfl
@[simp] theorem State.setCustody_pool (x : CustodyUnit) : (s.setCustody x).pool = s.pool := rfl
@[simp] theorem State.setCustody_custody (x : CustodyUnit) : (s.setCustody x).custody = x := rfl
@[simp] theorem State.setCustody_policy (x : CustodyUnit) : (s.setCustody x).policy = s.policy := rfl
@[simp] theorem State.setCustody_guard (x : CustodyUnit) : (s.setCustody x).guard = s.guard := rfl
@[simp] theorem State.setCustody_rx (x : CustodyUnit) : (s.setCustody x).rx = s.rx := rfl
@[simp] theorem State.setCustody_counters (x : CustodyUnit) : (s.setCustody x).counters = s.counters := rfl
@[simp] theorem State.setCustody_tx (x : CustodyUnit) : (s.setCustody x).tx = s.tx := rfl
@[simp] theorem State.setCustody_stn (x : CustodyUnit) : (s.setCustody x).stn = s.stn := rfl
@[simp] theorem State.setCustody_held (x : CustodyUnit) : (s.setCustody x).held = s.held := rfl
@[simp] theorem State.setCustody_cond (x : CustodyUnit) : (s.setCustody x).cond = s.cond := rfl
@[simp] theorem State.setCustody_draws (x : CustodyUnit) : (s.setCustody x).draws = s.draws := rfl
@[simp] theorem State.setCustody_pending (x : CustodyUnit) : (s.setCustody x).pending = s.pending := rfl
@[simp] theorem State.setCustody_setCustody (x y : CustodyUnit) : (s.setCustody x).setCustody y = s.setCustody y := rfl
@[simp] theorem State.setCustody_self : s.setCustody s.custody = s := rfl

/-! ## setPolicy -/

@[simp] theorem State.setPolicy_clk (x : Policy) : (s.setPolicy x).clk = s.clk := rfl
@[simp] theorem State.setPolicy_pins (x : Policy) : (s.setPolicy x).pins = s.pins := rfl
@[simp] theorem State.setPolicy_ports (x : Policy) : (s.setPolicy x).ports = s.ports := rfl
@[simp] theorem State.setPolicy_store (x : Policy) : (s.setPolicy x).store = s.store := rfl
@[simp] theorem State.setPolicy_table (x : Policy) : (s.setPolicy x).table = s.table := rfl
@[simp] theorem State.setPolicy_pool (x : Policy) : (s.setPolicy x).pool = s.pool := rfl
@[simp] theorem State.setPolicy_custody (x : Policy) : (s.setPolicy x).custody = s.custody := rfl
@[simp] theorem State.setPolicy_policy (x : Policy) : (s.setPolicy x).policy = x := rfl
@[simp] theorem State.setPolicy_guard (x : Policy) : (s.setPolicy x).guard = s.guard := rfl
@[simp] theorem State.setPolicy_rx (x : Policy) : (s.setPolicy x).rx = s.rx := rfl
@[simp] theorem State.setPolicy_counters (x : Policy) : (s.setPolicy x).counters = s.counters := rfl
@[simp] theorem State.setPolicy_tx (x : Policy) : (s.setPolicy x).tx = s.tx := rfl
@[simp] theorem State.setPolicy_stn (x : Policy) : (s.setPolicy x).stn = s.stn := rfl
@[simp] theorem State.setPolicy_held (x : Policy) : (s.setPolicy x).held = s.held := rfl
@[simp] theorem State.setPolicy_cond (x : Policy) : (s.setPolicy x).cond = s.cond := rfl
@[simp] theorem State.setPolicy_draws (x : Policy) : (s.setPolicy x).draws = s.draws := rfl
@[simp] theorem State.setPolicy_pending (x : Policy) : (s.setPolicy x).pending = s.pending := rfl
@[simp] theorem State.setPolicy_setPolicy (x y : Policy) : (s.setPolicy x).setPolicy y = s.setPolicy y := rfl
@[simp] theorem State.setPolicy_self : s.setPolicy s.policy = s := rfl

/-! ## setGuard -/

@[simp] theorem State.setGuard_clk (x : FloodGuard) : (s.setGuard x).clk = s.clk := rfl
@[simp] theorem State.setGuard_pins (x : FloodGuard) : (s.setGuard x).pins = s.pins := rfl
@[simp] theorem State.setGuard_ports (x : FloodGuard) : (s.setGuard x).ports = s.ports := rfl
@[simp] theorem State.setGuard_store (x : FloodGuard) : (s.setGuard x).store = s.store := rfl
@[simp] theorem State.setGuard_table (x : FloodGuard) : (s.setGuard x).table = s.table := rfl
@[simp] theorem State.setGuard_pool (x : FloodGuard) : (s.setGuard x).pool = s.pool := rfl
@[simp] theorem State.setGuard_custody (x : FloodGuard) : (s.setGuard x).custody = s.custody := rfl
@[simp] theorem State.setGuard_policy (x : FloodGuard) : (s.setGuard x).policy = s.policy := rfl
@[simp] theorem State.setGuard_guard (x : FloodGuard) : (s.setGuard x).guard = x := rfl
@[simp] theorem State.setGuard_rx (x : FloodGuard) : (s.setGuard x).rx = s.rx := rfl
@[simp] theorem State.setGuard_counters (x : FloodGuard) : (s.setGuard x).counters = s.counters := rfl
@[simp] theorem State.setGuard_tx (x : FloodGuard) : (s.setGuard x).tx = s.tx := rfl
@[simp] theorem State.setGuard_stn (x : FloodGuard) : (s.setGuard x).stn = s.stn := rfl
@[simp] theorem State.setGuard_held (x : FloodGuard) : (s.setGuard x).held = s.held := rfl
@[simp] theorem State.setGuard_cond (x : FloodGuard) : (s.setGuard x).cond = s.cond := rfl
@[simp] theorem State.setGuard_draws (x : FloodGuard) : (s.setGuard x).draws = s.draws := rfl
@[simp] theorem State.setGuard_pending (x : FloodGuard) : (s.setGuard x).pending = s.pending := rfl
@[simp] theorem State.setGuard_setGuard (x y : FloodGuard) : (s.setGuard x).setGuard y = s.setGuard y := rfl
@[simp] theorem State.setGuard_self : s.setGuard s.guard = s := rfl

/-! ## setRx -/

@[simp] theorem State.setRx_clk (x : Classifier) : (s.setRx x).clk = s.clk := rfl
@[simp] theorem State.setRx_pins (x : Classifier) : (s.setRx x).pins = s.pins := rfl
@[simp] theorem State.setRx_ports (x : Classifier) : (s.setRx x).ports = s.ports := rfl
@[simp] theorem State.setRx_store (x : Classifier) : (s.setRx x).store = s.store := rfl
@[simp] theorem State.setRx_table (x : Classifier) : (s.setRx x).table = s.table := rfl
@[simp] theorem State.setRx_pool (x : Classifier) : (s.setRx x).pool = s.pool := rfl
@[simp] theorem State.setRx_custody (x : Classifier) : (s.setRx x).custody = s.custody := rfl
@[simp] theorem State.setRx_policy (x : Classifier) : (s.setRx x).policy = s.policy := rfl
@[simp] theorem State.setRx_guard (x : Classifier) : (s.setRx x).guard = s.guard := rfl
@[simp] theorem State.setRx_rx (x : Classifier) : (s.setRx x).rx = x := rfl
@[simp] theorem State.setRx_counters (x : Classifier) : (s.setRx x).counters = s.counters := rfl
@[simp] theorem State.setRx_tx (x : Classifier) : (s.setRx x).tx = s.tx := rfl
@[simp] theorem State.setRx_stn (x : Classifier) : (s.setRx x).stn = s.stn := rfl
@[simp] theorem State.setRx_held (x : Classifier) : (s.setRx x).held = s.held := rfl
@[simp] theorem State.setRx_cond (x : Classifier) : (s.setRx x).cond = s.cond := rfl
@[simp] theorem State.setRx_draws (x : Classifier) : (s.setRx x).draws = s.draws := rfl
@[simp] theorem State.setRx_pending (x : Classifier) : (s.setRx x).pending = s.pending := rfl
@[simp] theorem State.setRx_setRx (x y : Classifier) : (s.setRx x).setRx y = s.setRx y := rfl
@[simp] theorem State.setRx_self : s.setRx s.rx = s := rfl

/-! ## setCounters -/

@[simp] theorem State.setCounters_clk (x : Counters) : (s.setCounters x).clk = s.clk := rfl
@[simp] theorem State.setCounters_pins (x : Counters) : (s.setCounters x).pins = s.pins := rfl
@[simp] theorem State.setCounters_ports (x : Counters) : (s.setCounters x).ports = s.ports := rfl
@[simp] theorem State.setCounters_store (x : Counters) : (s.setCounters x).store = s.store := rfl
@[simp] theorem State.setCounters_table (x : Counters) : (s.setCounters x).table = s.table := rfl
@[simp] theorem State.setCounters_pool (x : Counters) : (s.setCounters x).pool = s.pool := rfl
@[simp] theorem State.setCounters_custody (x : Counters) : (s.setCounters x).custody = s.custody := rfl
@[simp] theorem State.setCounters_policy (x : Counters) : (s.setCounters x).policy = s.policy := rfl
@[simp] theorem State.setCounters_guard (x : Counters) : (s.setCounters x).guard = s.guard := rfl
@[simp] theorem State.setCounters_rx (x : Counters) : (s.setCounters x).rx = s.rx := rfl
@[simp] theorem State.setCounters_counters (x : Counters) : (s.setCounters x).counters = x := rfl
@[simp] theorem State.setCounters_tx (x : Counters) : (s.setCounters x).tx = s.tx := rfl
@[simp] theorem State.setCounters_stn (x : Counters) : (s.setCounters x).stn = s.stn := rfl
@[simp] theorem State.setCounters_held (x : Counters) : (s.setCounters x).held = s.held := rfl
@[simp] theorem State.setCounters_cond (x : Counters) : (s.setCounters x).cond = s.cond := rfl
@[simp] theorem State.setCounters_draws (x : Counters) : (s.setCounters x).draws = s.draws := rfl
@[simp] theorem State.setCounters_pending (x : Counters) : (s.setCounters x).pending = s.pending := rfl
@[simp] theorem State.setCounters_setCounters (x y : Counters) : (s.setCounters x).setCounters y = s.setCounters y := rfl
@[simp] theorem State.setCounters_self : s.setCounters s.counters = s := rfl

/-! ## setTx -/

@[simp] theorem State.setTx_clk (x : Transmitter) : (s.setTx x).clk = s.clk := rfl
@[simp] theorem State.setTx_pins (x : Transmitter) : (s.setTx x).pins = s.pins := rfl
@[simp] theorem State.setTx_ports (x : Transmitter) : (s.setTx x).ports = s.ports := rfl
@[simp] theorem State.setTx_store (x : Transmitter) : (s.setTx x).store = s.store := rfl
@[simp] theorem State.setTx_table (x : Transmitter) : (s.setTx x).table = s.table := rfl
@[simp] theorem State.setTx_pool (x : Transmitter) : (s.setTx x).pool = s.pool := rfl
@[simp] theorem State.setTx_custody (x : Transmitter) : (s.setTx x).custody = s.custody := rfl
@[simp] theorem State.setTx_policy (x : Transmitter) : (s.setTx x).policy = s.policy := rfl
@[simp] theorem State.setTx_guard (x : Transmitter) : (s.setTx x).guard = s.guard := rfl
@[simp] theorem State.setTx_rx (x : Transmitter) : (s.setTx x).rx = s.rx := rfl
@[simp] theorem State.setTx_counters (x : Transmitter) : (s.setTx x).counters = s.counters := rfl
@[simp] theorem State.setTx_tx (x : Transmitter) : (s.setTx x).tx = x := rfl
@[simp] theorem State.setTx_stn (x : Transmitter) : (s.setTx x).stn = s.stn := rfl
@[simp] theorem State.setTx_held (x : Transmitter) : (s.setTx x).held = s.held := rfl
@[simp] theorem State.setTx_cond (x : Transmitter) : (s.setTx x).cond = s.cond := rfl
@[simp] theorem State.setTx_draws (x : Transmitter) : (s.setTx x).draws = s.draws := rfl
@[simp] theorem State.setTx_pending (x : Transmitter) : (s.setTx x).pending = s.pending := rfl
@[simp] theorem State.setTx_setTx (x y : Transmitter) : (s.setTx x).setTx y = s.setTx y := rfl
@[simp] theorem State.setTx_self : s.setTx s.tx = s := rfl

/-! ## setStn -/

@[simp] theorem State.setStn_clk (x : StationPath) : (s.setStn x).clk = s.clk := rfl
@[simp] theorem State.setStn_pins (x : StationPath) : (s.setStn x).pins = s.pins := rfl
@[simp] theorem State.setStn_ports (x : StationPath) : (s.setStn x).ports = s.ports := rfl
@[simp] theorem State.setStn_store (x : StationPath) : (s.setStn x).store = s.store := rfl
@[simp] theorem State.setStn_table (x : StationPath) : (s.setStn x).table = s.table := rfl
@[simp] theorem State.setStn_pool (x : StationPath) : (s.setStn x).pool = s.pool := rfl
@[simp] theorem State.setStn_custody (x : StationPath) : (s.setStn x).custody = s.custody := rfl
@[simp] theorem State.setStn_policy (x : StationPath) : (s.setStn x).policy = s.policy := rfl
@[simp] theorem State.setStn_guard (x : StationPath) : (s.setStn x).guard = s.guard := rfl
@[simp] theorem State.setStn_rx (x : StationPath) : (s.setStn x).rx = s.rx := rfl
@[simp] theorem State.setStn_counters (x : StationPath) : (s.setStn x).counters = s.counters := rfl
@[simp] theorem State.setStn_tx (x : StationPath) : (s.setStn x).tx = s.tx := rfl
@[simp] theorem State.setStn_stn (x : StationPath) : (s.setStn x).stn = x := rfl
@[simp] theorem State.setStn_held (x : StationPath) : (s.setStn x).held = s.held := rfl
@[simp] theorem State.setStn_cond (x : StationPath) : (s.setStn x).cond = s.cond := rfl
@[simp] theorem State.setStn_draws (x : StationPath) : (s.setStn x).draws = s.draws := rfl
@[simp] theorem State.setStn_pending (x : StationPath) : (s.setStn x).pending = s.pending := rfl
@[simp] theorem State.setStn_setStn (x y : StationPath) : (s.setStn x).setStn y = s.setStn y := rfl
@[simp] theorem State.setStn_self : s.setStn s.stn = s := rfl

/-! ## setHeld -/

@[simp] theorem State.setHeld_clk (x : HeldQueue) : (s.setHeld x).clk = s.clk := rfl
@[simp] theorem State.setHeld_pins (x : HeldQueue) : (s.setHeld x).pins = s.pins := rfl
@[simp] theorem State.setHeld_ports (x : HeldQueue) : (s.setHeld x).ports = s.ports := rfl
@[simp] theorem State.setHeld_store (x : HeldQueue) : (s.setHeld x).store = s.store := rfl
@[simp] theorem State.setHeld_table (x : HeldQueue) : (s.setHeld x).table = s.table := rfl
@[simp] theorem State.setHeld_pool (x : HeldQueue) : (s.setHeld x).pool = s.pool := rfl
@[simp] theorem State.setHeld_custody (x : HeldQueue) : (s.setHeld x).custody = s.custody := rfl
@[simp] theorem State.setHeld_policy (x : HeldQueue) : (s.setHeld x).policy = s.policy := rfl
@[simp] theorem State.setHeld_guard (x : HeldQueue) : (s.setHeld x).guard = s.guard := rfl
@[simp] theorem State.setHeld_rx (x : HeldQueue) : (s.setHeld x).rx = s.rx := rfl
@[simp] theorem State.setHeld_counters (x : HeldQueue) : (s.setHeld x).counters = s.counters := rfl
@[simp] theorem State.setHeld_tx (x : HeldQueue) : (s.setHeld x).tx = s.tx := rfl
@[simp] theorem State.setHeld_stn (x : HeldQueue) : (s.setHeld x).stn = s.stn := rfl
@[simp] theorem State.setHeld_held (x : HeldQueue) : (s.setHeld x).held = x := rfl
@[simp] theorem State.setHeld_cond (x : HeldQueue) : (s.setHeld x).cond = s.cond := rfl
@[simp] theorem State.setHeld_draws (x : HeldQueue) : (s.setHeld x).draws = s.draws := rfl
@[simp] theorem State.setHeld_pending (x : HeldQueue) : (s.setHeld x).pending = s.pending := rfl
@[simp] theorem State.setHeld_setHeld (x y : HeldQueue) : (s.setHeld x).setHeld y = s.setHeld y := rfl
@[simp] theorem State.setHeld_self : s.setHeld s.held = s := rfl

/-! ## setCond -/

@[simp] theorem State.setCond_clk (x : ConditionUnit) : (s.setCond x).clk = s.clk := rfl
@[simp] theorem State.setCond_pins (x : ConditionUnit) : (s.setCond x).pins = s.pins := rfl
@[simp] theorem State.setCond_ports (x : ConditionUnit) : (s.setCond x).ports = s.ports := rfl
@[simp] theorem State.setCond_store (x : ConditionUnit) : (s.setCond x).store = s.store := rfl
@[simp] theorem State.setCond_table (x : ConditionUnit) : (s.setCond x).table = s.table := rfl
@[simp] theorem State.setCond_pool (x : ConditionUnit) : (s.setCond x).pool = s.pool := rfl
@[simp] theorem State.setCond_custody (x : ConditionUnit) : (s.setCond x).custody = s.custody := rfl
@[simp] theorem State.setCond_policy (x : ConditionUnit) : (s.setCond x).policy = s.policy := rfl
@[simp] theorem State.setCond_guard (x : ConditionUnit) : (s.setCond x).guard = s.guard := rfl
@[simp] theorem State.setCond_rx (x : ConditionUnit) : (s.setCond x).rx = s.rx := rfl
@[simp] theorem State.setCond_counters (x : ConditionUnit) : (s.setCond x).counters = s.counters := rfl
@[simp] theorem State.setCond_tx (x : ConditionUnit) : (s.setCond x).tx = s.tx := rfl
@[simp] theorem State.setCond_stn (x : ConditionUnit) : (s.setCond x).stn = s.stn := rfl
@[simp] theorem State.setCond_held (x : ConditionUnit) : (s.setCond x).held = s.held := rfl
@[simp] theorem State.setCond_cond (x : ConditionUnit) : (s.setCond x).cond = x := rfl
@[simp] theorem State.setCond_draws (x : ConditionUnit) : (s.setCond x).draws = s.draws := rfl
@[simp] theorem State.setCond_pending (x : ConditionUnit) : (s.setCond x).pending = s.pending := rfl
@[simp] theorem State.setCond_setCond (x y : ConditionUnit) : (s.setCond x).setCond y = s.setCond y := rfl
@[simp] theorem State.setCond_self : s.setCond s.cond = s := rfl

/-! ## setDraws -/

@[simp] theorem State.setDraws_clk (x : Nat) : (s.setDraws x).clk = s.clk := rfl
@[simp] theorem State.setDraws_pins (x : Nat) : (s.setDraws x).pins = s.pins := rfl
@[simp] theorem State.setDraws_ports (x : Nat) : (s.setDraws x).ports = s.ports := rfl
@[simp] theorem State.setDraws_store (x : Nat) : (s.setDraws x).store = s.store := rfl
@[simp] theorem State.setDraws_table (x : Nat) : (s.setDraws x).table = s.table := rfl
@[simp] theorem State.setDraws_pool (x : Nat) : (s.setDraws x).pool = s.pool := rfl
@[simp] theorem State.setDraws_custody (x : Nat) : (s.setDraws x).custody = s.custody := rfl
@[simp] theorem State.setDraws_policy (x : Nat) : (s.setDraws x).policy = s.policy := rfl
@[simp] theorem State.setDraws_guard (x : Nat) : (s.setDraws x).guard = s.guard := rfl
@[simp] theorem State.setDraws_rx (x : Nat) : (s.setDraws x).rx = s.rx := rfl
@[simp] theorem State.setDraws_counters (x : Nat) : (s.setDraws x).counters = s.counters := rfl
@[simp] theorem State.setDraws_tx (x : Nat) : (s.setDraws x).tx = s.tx := rfl
@[simp] theorem State.setDraws_stn (x : Nat) : (s.setDraws x).stn = s.stn := rfl
@[simp] theorem State.setDraws_held (x : Nat) : (s.setDraws x).held = s.held := rfl
@[simp] theorem State.setDraws_cond (x : Nat) : (s.setDraws x).cond = s.cond := rfl
@[simp] theorem State.setDraws_draws (x : Nat) : (s.setDraws x).draws = x := rfl
@[simp] theorem State.setDraws_pending (x : Nat) : (s.setDraws x).pending = s.pending := rfl
@[simp] theorem State.setDraws_setDraws (x y : Nat) : (s.setDraws x).setDraws y = s.setDraws y := rfl
@[simp] theorem State.setDraws_self : s.setDraws s.draws = s := rfl

end Sys2Proof.Machine
end

