-- ==== Sys2Proof/Laws/Ops.lean ====
section
/-! SUPPORT. What each shared operation leaves as it was, one statement for each operation, and the reads of a slot after a
write of one. -/

namespace Sys2Proof.Machine

/-! ## Slots -/

/-- A slot after a slot's contents are replaced. -/
theorem State.slot_setSlot (s : State) (i j : SlotIx) (r : Option Record) :
    (s.setSlot i r).slot j = if i = j then r else s.slot j := by
  unfold State.slot State.setSlot State.setTable
  by_cases h : i = j
  · subst h; simp [Vector.get_eq_getElem]
  · have : i.val ≠ j.val := fun e => h (Fin.ext e)
    simp [Vector.get_eq_getElem, h, this]

@[simp] theorem State.slot_setSlot_same (s : State) (i : SlotIx) (r : Option Record) :
    (s.setSlot i r).slot i = r := by simp [State.slot_setSlot]

/-- A slot's contents replaced twice are replaced once. -/
@[simp] theorem State.setSlot_setSlot (s : State) (i : SlotIx) (r r' : Option Record) :
    (s.setSlot i r).setSlot i r' = s.setSlot i r' := by
  simp [State.setSlot, State.setTable, Vector.set_set]

/-- A slot's contents replaced by themselves. -/
theorem State.setSlot_self (s : State) (i : SlotIx) (r : Option Record) (h : s.slot i = r) : s.setSlot i r = s := by
  subst h
  simp [State.setSlot, State.setTable, State.slot, Vector.get_eq_getElem]

/-- A slot holds a claim exactly where `claimAt` answers it. -/
theorem State.claimAt_eq_some (s : State) (i : SlotIx) (c : Claim) :
    s.claimAt i = some c ↔ s.slot i = some (.claim c) := by
  unfold State.claimAt; split <;> simp_all

theorem State.responderAt_eq_some (s : State) (i : SlotIx) (r : Responder) :
    s.responderAt i = some r ↔ s.slot i = some (.responder r) := by
  unfold State.responderAt; split <;> simp_all

theorem State.filterAt_eq_some (s : State) (i : SlotIx) (f : Filter) :
    s.filterAt i = some f ↔ s.slot i = some (.filter f) := by
  unfold State.filterAt; split <;> simp_all

theorem State.streamAt_eq_some (s : State) (i : SlotIx) (t : Stream) :
    s.streamAt i = some t ↔ s.slot i = some (.stream t) := by
  unfold State.streamAt; split <;> simp_all

theorem State.exchangeAt_eq_some (s : State) (i : SlotIx) (x : Exchange) :
    s.exchangeAt i = some x ↔ s.slot i = some (.exchange x) := by
  unfold State.exchangeAt; split <;> simp_all

/-! ## A slot is not touched by the update of another block -/

@[simp] theorem State.slot_setClk (s : State) (x : ClockUnit) (i : SlotIx) : (s.setClk x).slot i = s.slot i := rfl
@[simp] theorem State.slot_setPins (s : State) (x : Pins) (i : SlotIx) : (s.setPins x).slot i = s.slot i := rfl
@[simp] theorem State.slot_setPorts (s : State) (x : Ports) (i : SlotIx) : (s.setPorts x).slot i = s.slot i := rfl
@[simp] theorem State.slot_setStore (s : State) (x : StoreUnit) (i : SlotIx) : (s.setStore x).slot i = s.slot i := rfl
@[simp] theorem State.slot_setPool (s : State) (x : List Host.Cell) (i : SlotIx) : (s.setPool x).slot i = s.slot i := rfl
@[simp] theorem State.slot_setCustody (s : State) (x : CustodyUnit) (i : SlotIx) : (s.setCustody x).slot i = s.slot i := rfl
@[simp] theorem State.slot_setPolicy (s : State) (x : Policy) (i : SlotIx) : (s.setPolicy x).slot i = s.slot i := rfl
@[simp] theorem State.slot_setGuard (s : State) (x : FloodGuard) (i : SlotIx) : (s.setGuard x).slot i = s.slot i := rfl
@[simp] theorem State.slot_setRx (s : State) (x : Classifier) (i : SlotIx) : (s.setRx x).slot i = s.slot i := rfl
@[simp] theorem State.slot_setCounters (s : State) (x : Counters) (i : SlotIx) : (s.setCounters x).slot i = s.slot i := rfl
@[simp] theorem State.slot_setTx (s : State) (x : Transmitter) (i : SlotIx) : (s.setTx x).slot i = s.slot i := rfl
@[simp] theorem State.slot_setStn (s : State) (x : StationPath) (i : SlotIx) : (s.setStn x).slot i = s.slot i := rfl
@[simp] theorem State.slot_setHeld (s : State) (x : HeldQueue) (i : SlotIx) : (s.setHeld x).slot i = s.slot i := rfl
@[simp] theorem State.slot_setCond (s : State) (x : ConditionUnit) (i : SlotIx) : (s.setCond x).slot i = s.slot i := rfl
@[simp] theorem State.slot_setDraws (s : State) (x : Nat) (i : SlotIx) : (s.setDraws x).slot i = s.slot i := rfl

@[simp] theorem State.claimAt_setClk (s : State) (x : ClockUnit) (i : SlotIx) : (s.setClk x).claimAt i = s.claimAt i := rfl
@[simp] theorem State.claimAt_setPins (s : State) (x : Pins) (i : SlotIx) : (s.setPins x).claimAt i = s.claimAt i := rfl
@[simp] theorem State.claimAt_setPorts (s : State) (x : Ports) (i : SlotIx) : (s.setPorts x).claimAt i = s.claimAt i := rfl
@[simp] theorem State.claimAt_setStore (s : State) (x : StoreUnit) (i : SlotIx) : (s.setStore x).claimAt i = s.claimAt i := rfl
@[simp] theorem State.claimAt_setPool (s : State) (x : List Host.Cell) (i : SlotIx) : (s.setPool x).claimAt i = s.claimAt i := rfl
@[simp] theorem State.claimAt_setCustody (s : State) (x : CustodyUnit) (i : SlotIx) : (s.setCustody x).claimAt i = s.claimAt i := rfl
@[simp] theorem State.claimAt_setPolicy (s : State) (x : Policy) (i : SlotIx) : (s.setPolicy x).claimAt i = s.claimAt i := rfl
@[simp] theorem State.claimAt_setGuard (s : State) (x : FloodGuard) (i : SlotIx) : (s.setGuard x).claimAt i = s.claimAt i := rfl
@[simp] theorem State.claimAt_setRx (s : State) (x : Classifier) (i : SlotIx) : (s.setRx x).claimAt i = s.claimAt i := rfl
@[simp] theorem State.claimAt_setCounters (s : State) (x : Counters) (i : SlotIx) : (s.setCounters x).claimAt i = s.claimAt i := rfl
@[simp] theorem State.claimAt_setTx (s : State) (x : Transmitter) (i : SlotIx) : (s.setTx x).claimAt i = s.claimAt i := rfl
@[simp] theorem State.claimAt_setStn (s : State) (x : StationPath) (i : SlotIx) : (s.setStn x).claimAt i = s.claimAt i := rfl
@[simp] theorem State.claimAt_setHeld (s : State) (x : HeldQueue) (i : SlotIx) : (s.setHeld x).claimAt i = s.claimAt i := rfl
@[simp] theorem State.claimAt_setCond (s : State) (x : ConditionUnit) (i : SlotIx) : (s.setCond x).claimAt i = s.claimAt i := rfl
@[simp] theorem State.claimAt_setDraws (s : State) (x : Nat) (i : SlotIx) : (s.setDraws x).claimAt i = s.claimAt i := rfl

@[simp] theorem State.responderAt_setClk (s : State) (x : ClockUnit) (i : SlotIx) : (s.setClk x).responderAt i = s.responderAt i := rfl
@[simp] theorem State.responderAt_setPins (s : State) (x : Pins) (i : SlotIx) : (s.setPins x).responderAt i = s.responderAt i := rfl
@[simp] theorem State.responderAt_setPorts (s : State) (x : Ports) (i : SlotIx) : (s.setPorts x).responderAt i = s.responderAt i := rfl
@[simp] theorem State.responderAt_setStore (s : State) (x : StoreUnit) (i : SlotIx) : (s.setStore x).responderAt i = s.responderAt i := rfl
@[simp] theorem State.responderAt_setPool (s : State) (x : List Host.Cell) (i : SlotIx) : (s.setPool x).responderAt i = s.responderAt i := rfl
@[simp] theorem State.responderAt_setCustody (s : State) (x : CustodyUnit) (i : SlotIx) : (s.setCustody x).responderAt i = s.responderAt i := rfl
@[simp] theorem State.responderAt_setPolicy (s : State) (x : Policy) (i : SlotIx) : (s.setPolicy x).responderAt i = s.responderAt i := rfl
@[simp] theorem State.responderAt_setGuard (s : State) (x : FloodGuard) (i : SlotIx) : (s.setGuard x).responderAt i = s.responderAt i := rfl
@[simp] theorem State.responderAt_setRx (s : State) (x : Classifier) (i : SlotIx) : (s.setRx x).responderAt i = s.responderAt i := rfl
@[simp] theorem State.responderAt_setCounters (s : State) (x : Counters) (i : SlotIx) : (s.setCounters x).responderAt i = s.responderAt i := rfl
@[simp] theorem State.responderAt_setTx (s : State) (x : Transmitter) (i : SlotIx) : (s.setTx x).responderAt i = s.responderAt i := rfl
@[simp] theorem State.responderAt_setStn (s : State) (x : StationPath) (i : SlotIx) : (s.setStn x).responderAt i = s.responderAt i := rfl
@[simp] theorem State.responderAt_setHeld (s : State) (x : HeldQueue) (i : SlotIx) : (s.setHeld x).responderAt i = s.responderAt i := rfl
@[simp] theorem State.responderAt_setCond (s : State) (x : ConditionUnit) (i : SlotIx) : (s.setCond x).responderAt i = s.responderAt i := rfl
@[simp] theorem State.responderAt_setDraws (s : State) (x : Nat) (i : SlotIx) : (s.setDraws x).responderAt i = s.responderAt i := rfl

@[simp] theorem State.filterAt_setClk (s : State) (x : ClockUnit) (i : SlotIx) : (s.setClk x).filterAt i = s.filterAt i := rfl
@[simp] theorem State.filterAt_setPins (s : State) (x : Pins) (i : SlotIx) : (s.setPins x).filterAt i = s.filterAt i := rfl
@[simp] theorem State.filterAt_setPorts (s : State) (x : Ports) (i : SlotIx) : (s.setPorts x).filterAt i = s.filterAt i := rfl
@[simp] theorem State.filterAt_setStore (s : State) (x : StoreUnit) (i : SlotIx) : (s.setStore x).filterAt i = s.filterAt i := rfl
@[simp] theorem State.filterAt_setPool (s : State) (x : List Host.Cell) (i : SlotIx) : (s.setPool x).filterAt i = s.filterAt i := rfl
@[simp] theorem State.filterAt_setCustody (s : State) (x : CustodyUnit) (i : SlotIx) : (s.setCustody x).filterAt i = s.filterAt i := rfl
@[simp] theorem State.filterAt_setPolicy (s : State) (x : Policy) (i : SlotIx) : (s.setPolicy x).filterAt i = s.filterAt i := rfl
@[simp] theorem State.filterAt_setGuard (s : State) (x : FloodGuard) (i : SlotIx) : (s.setGuard x).filterAt i = s.filterAt i := rfl
@[simp] theorem State.filterAt_setRx (s : State) (x : Classifier) (i : SlotIx) : (s.setRx x).filterAt i = s.filterAt i := rfl
@[simp] theorem State.filterAt_setCounters (s : State) (x : Counters) (i : SlotIx) : (s.setCounters x).filterAt i = s.filterAt i := rfl
@[simp] theorem State.filterAt_setTx (s : State) (x : Transmitter) (i : SlotIx) : (s.setTx x).filterAt i = s.filterAt i := rfl
@[simp] theorem State.filterAt_setStn (s : State) (x : StationPath) (i : SlotIx) : (s.setStn x).filterAt i = s.filterAt i := rfl
@[simp] theorem State.filterAt_setHeld (s : State) (x : HeldQueue) (i : SlotIx) : (s.setHeld x).filterAt i = s.filterAt i := rfl
@[simp] theorem State.filterAt_setCond (s : State) (x : ConditionUnit) (i : SlotIx) : (s.setCond x).filterAt i = s.filterAt i := rfl
@[simp] theorem State.filterAt_setDraws (s : State) (x : Nat) (i : SlotIx) : (s.setDraws x).filterAt i = s.filterAt i := rfl

@[simp] theorem State.streamAt_setClk (s : State) (x : ClockUnit) (i : SlotIx) : (s.setClk x).streamAt i = s.streamAt i := rfl
@[simp] theorem State.streamAt_setPins (s : State) (x : Pins) (i : SlotIx) : (s.setPins x).streamAt i = s.streamAt i := rfl
@[simp] theorem State.streamAt_setPorts (s : State) (x : Ports) (i : SlotIx) : (s.setPorts x).streamAt i = s.streamAt i := rfl
@[simp] theorem State.streamAt_setStore (s : State) (x : StoreUnit) (i : SlotIx) : (s.setStore x).streamAt i = s.streamAt i := rfl
@[simp] theorem State.streamAt_setPool (s : State) (x : List Host.Cell) (i : SlotIx) : (s.setPool x).streamAt i = s.streamAt i := rfl
@[simp] theorem State.streamAt_setCustody (s : State) (x : CustodyUnit) (i : SlotIx) : (s.setCustody x).streamAt i = s.streamAt i := rfl
@[simp] theorem State.streamAt_setPolicy (s : State) (x : Policy) (i : SlotIx) : (s.setPolicy x).streamAt i = s.streamAt i := rfl
@[simp] theorem State.streamAt_setGuard (s : State) (x : FloodGuard) (i : SlotIx) : (s.setGuard x).streamAt i = s.streamAt i := rfl
@[simp] theorem State.streamAt_setRx (s : State) (x : Classifier) (i : SlotIx) : (s.setRx x).streamAt i = s.streamAt i := rfl
@[simp] theorem State.streamAt_setCounters (s : State) (x : Counters) (i : SlotIx) : (s.setCounters x).streamAt i = s.streamAt i := rfl
@[simp] theorem State.streamAt_setTx (s : State) (x : Transmitter) (i : SlotIx) : (s.setTx x).streamAt i = s.streamAt i := rfl
@[simp] theorem State.streamAt_setStn (s : State) (x : StationPath) (i : SlotIx) : (s.setStn x).streamAt i = s.streamAt i := rfl
@[simp] theorem State.streamAt_setHeld (s : State) (x : HeldQueue) (i : SlotIx) : (s.setHeld x).streamAt i = s.streamAt i := rfl
@[simp] theorem State.streamAt_setCond (s : State) (x : ConditionUnit) (i : SlotIx) : (s.setCond x).streamAt i = s.streamAt i := rfl
@[simp] theorem State.streamAt_setDraws (s : State) (x : Nat) (i : SlotIx) : (s.setDraws x).streamAt i = s.streamAt i := rfl

@[simp] theorem State.exchangeAt_setClk (s : State) (x : ClockUnit) (i : SlotIx) : (s.setClk x).exchangeAt i = s.exchangeAt i := rfl
@[simp] theorem State.exchangeAt_setPins (s : State) (x : Pins) (i : SlotIx) : (s.setPins x).exchangeAt i = s.exchangeAt i := rfl
@[simp] theorem State.exchangeAt_setPorts (s : State) (x : Ports) (i : SlotIx) : (s.setPorts x).exchangeAt i = s.exchangeAt i := rfl
@[simp] theorem State.exchangeAt_setStore (s : State) (x : StoreUnit) (i : SlotIx) : (s.setStore x).exchangeAt i = s.exchangeAt i := rfl
@[simp] theorem State.exchangeAt_setPool (s : State) (x : List Host.Cell) (i : SlotIx) : (s.setPool x).exchangeAt i = s.exchangeAt i := rfl
@[simp] theorem State.exchangeAt_setCustody (s : State) (x : CustodyUnit) (i : SlotIx) : (s.setCustody x).exchangeAt i = s.exchangeAt i := rfl
@[simp] theorem State.exchangeAt_setPolicy (s : State) (x : Policy) (i : SlotIx) : (s.setPolicy x).exchangeAt i = s.exchangeAt i := rfl
@[simp] theorem State.exchangeAt_setGuard (s : State) (x : FloodGuard) (i : SlotIx) : (s.setGuard x).exchangeAt i = s.exchangeAt i := rfl
@[simp] theorem State.exchangeAt_setRx (s : State) (x : Classifier) (i : SlotIx) : (s.setRx x).exchangeAt i = s.exchangeAt i := rfl
@[simp] theorem State.exchangeAt_setCounters (s : State) (x : Counters) (i : SlotIx) : (s.setCounters x).exchangeAt i = s.exchangeAt i := rfl
@[simp] theorem State.exchangeAt_setTx (s : State) (x : Transmitter) (i : SlotIx) : (s.setTx x).exchangeAt i = s.exchangeAt i := rfl
@[simp] theorem State.exchangeAt_setStn (s : State) (x : StationPath) (i : SlotIx) : (s.setStn x).exchangeAt i = s.exchangeAt i := rfl
@[simp] theorem State.exchangeAt_setHeld (s : State) (x : HeldQueue) (i : SlotIx) : (s.setHeld x).exchangeAt i = s.exchangeAt i := rfl
@[simp] theorem State.exchangeAt_setCond (s : State) (x : ConditionUnit) (i : SlotIx) : (s.setCond x).exchangeAt i = s.exchangeAt i := rfl
@[simp] theorem State.exchangeAt_setDraws (s : State) (x : Nat) (i : SlotIx) : (s.setDraws x).exchangeAt i = s.exchangeAt i := rfl

/-- What a slot holds decides which record it is found to be. -/
theorem State.at_congr {s u : State} {i : SlotIx} (h : s.slot i = u.slot i) :
    s.claimAt i = u.claimAt i ∧ s.responderAt i = u.responderAt i ∧ s.filterAt i = u.filterAt i ∧
      s.streamAt i = u.streamAt i ∧ s.exchangeAt i = u.exchangeAt i := by
  simp [State.claimAt, State.responderAt, State.filterAt, State.streamAt, State.exchangeAt, h]

/-! ## Frames -/

/-- A slot write changes the table alone. -/
@[simp] theorem State.setSlot_frame (s : State) (i : SlotIx) (r : Option Record) :
    (s.setSlot i r).clk = s.clk ∧ (s.setSlot i r).pins = s.pins ∧ (s.setSlot i r).ports = s.ports ∧
    (s.setSlot i r).store = s.store ∧ (s.setSlot i r).pool = s.pool ∧ (s.setSlot i r).custody = s.custody ∧
    (s.setSlot i r).policy = s.policy ∧ (s.setSlot i r).guard = s.guard ∧ (s.setSlot i r).rx = s.rx ∧
    (s.setSlot i r).counters = s.counters ∧ (s.setSlot i r).tx = s.tx ∧ (s.setSlot i r).stn = s.stn ∧
    (s.setSlot i r).held = s.held ∧ (s.setSlot i r).cond = s.cond ∧ (s.setSlot i r).draws = s.draws ∧
    (s.setSlot i r).pending = s.pending := by
  simp [State.setSlot]

/-- A count changes the counters alone. -/
@[simp] theorem State.count_frame (s : State) (f : Counters → Counters) :
    (s.count f).clk = s.clk ∧ (s.count f).pins = s.pins ∧ (s.count f).ports = s.ports ∧
    (s.count f).store = s.store ∧ (s.count f).table = s.table ∧ (s.count f).pool = s.pool ∧
    (s.count f).custody = s.custody ∧ (s.count f).policy = s.policy ∧ (s.count f).guard = s.guard ∧
    (s.count f).rx = s.rx ∧ (s.count f).tx = s.tx ∧ (s.count f).stn = s.stn ∧ (s.count f).held = s.held ∧
    (s.count f).cond = s.cond ∧ (s.count f).draws = s.draws ∧ (s.count f).pending = s.pending := by
  simp [State.count]

@[simp] theorem State.count_slot (s : State) (f : Counters → Counters) (k : SlotIx) : (s.count f).slot k = s.slot k := by
  simp [State.slot]

/-- A report changes the condition unit alone. -/
@[simp] theorem State.report_frame (s : State) (i : SlotIx) (m : BitVec 8) :
    (s.report i m).clk = s.clk ∧ (s.report i m).pins = s.pins ∧ (s.report i m).ports = s.ports ∧
    (s.report i m).store = s.store ∧ (s.report i m).table = s.table ∧ (s.report i m).pool = s.pool ∧
    (s.report i m).custody = s.custody ∧ (s.report i m).policy = s.policy ∧ (s.report i m).guard = s.guard ∧
    (s.report i m).rx = s.rx ∧ (s.report i m).counters = s.counters ∧ (s.report i m).tx = s.tx ∧
    (s.report i m).stn = s.stn ∧ (s.report i m).held = s.held ∧ (s.report i m).draws = s.draws ∧
    (s.report i m).pending = s.pending := by
  unfold State.report; split <;> simp

@[simp] theorem State.report_slot (s : State) (i : SlotIx) (m : BitVec 8) (k : SlotIx) : (s.report i m).slot k = s.slot k := by
  simp [State.slot]

/-- Retaining changes the condition unit alone. -/
@[simp] theorem State.retainCondition_frame (s : State) (c : ConditionClass) (i : Option SlotIx) :
    (s.retainCondition c i).clk = s.clk ∧ (s.retainCondition c i).pins = s.pins ∧
    (s.retainCondition c i).ports = s.ports ∧ (s.retainCondition c i).store = s.store ∧
    (s.retainCondition c i).table = s.table ∧ (s.retainCondition c i).pool = s.pool ∧
    (s.retainCondition c i).custody = s.custody ∧ (s.retainCondition c i).policy = s.policy ∧
    (s.retainCondition c i).guard = s.guard ∧ (s.retainCondition c i).rx = s.rx ∧
    (s.retainCondition c i).counters = s.counters ∧ (s.retainCondition c i).tx = s.tx ∧
    (s.retainCondition c i).stn = s.stn ∧ (s.retainCondition c i).held = s.held ∧
    (s.retainCondition c i).draws = s.draws ∧ (s.retainCondition c i).pending = s.pending := by
  unfold State.retainCondition; cases i <;> simp

@[simp] theorem State.retainCondition_slot (s : State) (c : ConditionClass) (i : Option SlotIx) (k : SlotIx) : (s.retainCondition c i).slot k = s.slot k := by
  simp [State.slot]

/-- Rousing changes custody and the condition unit alone. -/
@[simp] theorem State.rouseFor_frame (s : State) (c : ConditionClass) (i : Option SlotIx) :
    (s.rouseFor c i).clk = s.clk ∧ (s.rouseFor c i).pins = s.pins ∧ (s.rouseFor c i).ports = s.ports ∧
    (s.rouseFor c i).store = s.store ∧ (s.rouseFor c i).table = s.table ∧ (s.rouseFor c i).pool = s.pool ∧
    (s.rouseFor c i).policy = s.policy ∧ (s.rouseFor c i).guard = s.guard ∧ (s.rouseFor c i).rx = s.rx ∧
    (s.rouseFor c i).counters = s.counters ∧ (s.rouseFor c i).tx = s.tx ∧ (s.rouseFor c i).stn = s.stn ∧
    (s.rouseFor c i).held = s.held ∧ (s.rouseFor c i).draws = s.draws ∧ (s.rouseFor c i).pending = s.pending := by
  unfold State.rouseFor; split <;> simp

@[simp] theorem State.rouseFor_slot (s : State) (c : ConditionClass) (i : Option SlotIx) (k : SlotIx) : (s.rouseFor c i).slot k = s.slot k := by
  simp [State.slot]

/-- A notice changes the condition unit alone. -/
@[simp] theorem State.notifyOf_frame (s : State) (c : ConditionClass) :
    (s.notifyOf c).clk = s.clk ∧ (s.notifyOf c).pins = s.pins ∧ (s.notifyOf c).ports = s.ports ∧
    (s.notifyOf c).store = s.store ∧ (s.notifyOf c).table = s.table ∧ (s.notifyOf c).pool = s.pool ∧
    (s.notifyOf c).custody = s.custody ∧ (s.notifyOf c).policy = s.policy ∧ (s.notifyOf c).guard = s.guard ∧
    (s.notifyOf c).rx = s.rx ∧ (s.notifyOf c).counters = s.counters ∧ (s.notifyOf c).tx = s.tx ∧
    (s.notifyOf c).stn = s.stn ∧ (s.notifyOf c).held = s.held ∧ (s.notifyOf c).draws = s.draws ∧
    (s.notifyOf c).pending = s.pending := by
  simp [State.notifyOf]

@[simp] theorem State.notifyOf_slot (s : State) (c : ConditionClass) (k : SlotIx) : (s.notifyOf c).slot k = s.slot k := by
  simp [State.slot]

/-- A condition changes custody and the condition unit alone. -/
@[simp] theorem State.raise_frame (s : State) (c : ConditionClass) (i : Option SlotIx) :
    (s.raise c i).clk = s.clk ∧ (s.raise c i).pins = s.pins ∧ (s.raise c i).ports = s.ports ∧
    (s.raise c i).store = s.store ∧ (s.raise c i).table = s.table ∧ (s.raise c i).pool = s.pool ∧
    (s.raise c i).policy = s.policy ∧ (s.raise c i).guard = s.guard ∧ (s.raise c i).rx = s.rx ∧
    (s.raise c i).counters = s.counters ∧ (s.raise c i).tx = s.tx ∧ (s.raise c i).stn = s.stn ∧
    (s.raise c i).held = s.held ∧ (s.raise c i).draws = s.draws ∧ (s.raise c i).pending = s.pending := by
  by_cases h1 : flagAt s.policy.retain c.code = true <;> by_cases h2 : flagAt s.policy.rouse c.code = true <;>
    by_cases h3 : flagAt s.policy.notify c.code = true <;> simp [State.raise, h1, h2, h3]

@[simp] theorem State.raise_slot (s : State) (c : ConditionClass) (i : Option SlotIx) (k : SlotIx) : (s.raise c i).slot k = s.slot k := by
  simp [State.slot]

/-- An offer to the held queue changes the queue, its count and what HELD_FULL changes. -/
@[simp] theorem State.offerHeld_frame (s : State) (f : Frame) (c : Option (ConditionClass × SlotIx)) :
    (s.offerHeld f c).clk = s.clk ∧ (s.offerHeld f c).pins = s.pins ∧ (s.offerHeld f c).ports = s.ports ∧
    (s.offerHeld f c).store = s.store ∧ (s.offerHeld f c).table = s.table ∧ (s.offerHeld f c).pool = s.pool ∧
    (s.offerHeld f c).policy = s.policy ∧ (s.offerHeld f c).guard = s.guard ∧ (s.offerHeld f c).rx = s.rx ∧
    (s.offerHeld f c).tx = s.tx ∧ (s.offerHeld f c).stn = s.stn ∧ (s.offerHeld f c).draws = s.draws ∧
    (s.offerHeld f c).pending = s.pending := by
  by_cases h1 : heldHasRoom s.held.entries f = true <;> by_cases h2 : s.held.fullLatch = true <;>
    simp [State.offerHeld, h1, h2]

@[simp] theorem State.offerHeld_slot (s : State) (f : Frame) (c : Option (ConditionClass × SlotIx)) (k : SlotIx) : (s.offerHeld f c).slot k = s.slot k := by
  simp [State.slot]

/-- Emptying the held queue changes the queue and its count alone. -/
@[simp] theorem State.discardHeld_frame (s : State) :
    (s.discardHeld).clk = s.clk ∧ (s.discardHeld).pins = s.pins ∧ (s.discardHeld).ports = s.ports ∧
    (s.discardHeld).store = s.store ∧ (s.discardHeld).table = s.table ∧ (s.discardHeld).pool = s.pool ∧
    (s.discardHeld).custody = s.custody ∧ (s.discardHeld).policy = s.policy ∧ (s.discardHeld).guard = s.guard ∧
    (s.discardHeld).rx = s.rx ∧ (s.discardHeld).tx = s.tx ∧ (s.discardHeld).stn = s.stn ∧
    (s.discardHeld).cond = s.cond ∧ (s.discardHeld).draws = s.draws ∧ (s.discardHeld).pending = s.pending := by
  unfold State.discardHeld; split <;> simp

@[simp] theorem State.discardHeld_slot (s : State) (k : SlotIx) : (s.discardHeld).slot k = s.slot k := by
  simp [State.slot]

/-- A pushed item changes the transmitter alone. -/
@[simp] theorem State.pushItem_frame (s : State) (it : OwnItem) :
    (s.pushItem it).clk = s.clk ∧ (s.pushItem it).pins = s.pins ∧ (s.pushItem it).ports = s.ports ∧
    (s.pushItem it).store = s.store ∧ (s.pushItem it).table = s.table ∧ (s.pushItem it).pool = s.pool ∧
    (s.pushItem it).custody = s.custody ∧ (s.pushItem it).policy = s.policy ∧ (s.pushItem it).guard = s.guard ∧
    (s.pushItem it).rx = s.rx ∧ (s.pushItem it).counters = s.counters ∧ (s.pushItem it).stn = s.stn ∧
    (s.pushItem it).held = s.held ∧ (s.pushItem it).cond = s.cond ∧ (s.pushItem it).draws = s.draws ∧
    (s.pushItem it).pending = s.pending := by
  unfold State.pushItem; split <;> simp

@[simp] theorem State.pushItem_slot (s : State) (it : OwnItem) (k : SlotIx) : (s.pushItem it).slot k = s.slot k := by
  simp [State.slot]

/-- A withdrawn item changes the transmitter alone. -/
@[simp] theorem State.withdrawItem_frame (s : State) (i : SlotIx) :
    (s.withdrawItem i).clk = s.clk ∧ (s.withdrawItem i).pins = s.pins ∧ (s.withdrawItem i).ports = s.ports ∧
    (s.withdrawItem i).store = s.store ∧ (s.withdrawItem i).table = s.table ∧ (s.withdrawItem i).pool = s.pool ∧
    (s.withdrawItem i).custody = s.custody ∧ (s.withdrawItem i).policy = s.policy ∧
    (s.withdrawItem i).guard = s.guard ∧ (s.withdrawItem i).rx = s.rx ∧ (s.withdrawItem i).counters = s.counters ∧
    (s.withdrawItem i).stn = s.stn ∧ (s.withdrawItem i).held = s.held ∧ (s.withdrawItem i).cond = s.cond ∧
    (s.withdrawItem i).draws = s.draws ∧ (s.withdrawItem i).pending = s.pending := by
  simp [State.withdrawItem]

@[simp] theorem State.withdrawItem_slot (s : State) (i : SlotIx) (k : SlotIx) : (s.withdrawItem i).slot k = s.slot k := by
  simp [State.slot]

/-- Copying the held head out changes the station path alone. -/
@[simp] theorem State.feedStation_frame (s : State) :
    (s.feedStation).clk = s.clk ∧ (s.feedStation).pins = s.pins ∧ (s.feedStation).ports = s.ports ∧
    (s.feedStation).store = s.store ∧ (s.feedStation).table = s.table ∧ (s.feedStation).pool = s.pool ∧
    (s.feedStation).custody = s.custody ∧ (s.feedStation).policy = s.policy ∧ (s.feedStation).guard = s.guard ∧
    (s.feedStation).rx = s.rx ∧ (s.feedStation).counters = s.counters ∧ (s.feedStation).tx = s.tx ∧
    (s.feedStation).held = s.held ∧ (s.feedStation).cond = s.cond ∧ (s.feedStation).draws = s.draws ∧
    (s.feedStation).pending = s.pending := by
  unfold State.feedStation; split <;> (try split) <;> simp

@[simp] theorem State.feedStation_slot (s : State) (k : SlotIx) : (s.feedStation).slot k = s.slot k := by
  simp [State.slot]

/-- Writing a claim changes the table and the change list alone. -/
@[simp] theorem State.putClaim_frame (s : State) (i : SlotIx) (a b : Claim) :
    (s.putClaim i a b).clk = s.clk ∧ (s.putClaim i a b).pins = s.pins ∧ (s.putClaim i a b).ports = s.ports ∧
    (s.putClaim i a b).store = s.store ∧ (s.putClaim i a b).pool = s.pool ∧
    (s.putClaim i a b).custody = s.custody ∧ (s.putClaim i a b).policy = s.policy ∧
    (s.putClaim i a b).guard = s.guard ∧ (s.putClaim i a b).rx = s.rx ∧ (s.putClaim i a b).counters = s.counters ∧
    (s.putClaim i a b).tx = s.tx ∧ (s.putClaim i a b).stn = s.stn ∧ (s.putClaim i a b).held = s.held ∧
    (s.putClaim i a b).draws = s.draws ∧ (s.putClaim i a b).pending = s.pending := by
  simp [State.putClaim]

/-- Writing a responder changes the table and the change list alone. -/
@[simp] theorem State.putResponder_frame (s : State) (i : SlotIx) (a b : Responder) :
    (s.putResponder i a b).clk = s.clk ∧ (s.putResponder i a b).pins = s.pins ∧
    (s.putResponder i a b).ports = s.ports ∧ (s.putResponder i a b).store = s.store ∧
    (s.putResponder i a b).pool = s.pool ∧ (s.putResponder i a b).custody = s.custody ∧
    (s.putResponder i a b).policy = s.policy ∧ (s.putResponder i a b).guard = s.guard ∧
    (s.putResponder i a b).rx = s.rx ∧ (s.putResponder i a b).counters = s.counters ∧
    (s.putResponder i a b).tx = s.tx ∧ (s.putResponder i a b).stn = s.stn ∧ (s.putResponder i a b).held = s.held ∧
    (s.putResponder i a b).draws = s.draws ∧ (s.putResponder i a b).pending = s.pending := by
  simp [State.putResponder]

/-- Writing a filter changes the table and the change list alone. -/
@[simp] theorem State.putFilter_frame (s : State) (i : SlotIx) (a b : Filter) :
    (s.putFilter i a b).clk = s.clk ∧ (s.putFilter i a b).pins = s.pins ∧ (s.putFilter i a b).ports = s.ports ∧
    (s.putFilter i a b).store = s.store ∧ (s.putFilter i a b).pool = s.pool ∧
    (s.putFilter i a b).custody = s.custody ∧ (s.putFilter i a b).policy = s.policy ∧
    (s.putFilter i a b).guard = s.guard ∧ (s.putFilter i a b).rx = s.rx ∧
    (s.putFilter i a b).counters = s.counters ∧ (s.putFilter i a b).tx = s.tx ∧ (s.putFilter i a b).stn = s.stn ∧
    (s.putFilter i a b).held = s.held ∧ (s.putFilter i a b).draws = s.draws ∧
    (s.putFilter i a b).pending = s.pending := by
  simp [State.putFilter]

/-- Writing a stream changes the table and the change list alone. -/
@[simp] theorem State.putStream_frame (s : State) (i : SlotIx) (a b : Stream) (m : BitVec 8) :
    (s.putStream i a b m).clk = s.clk ∧ (s.putStream i a b m).pins = s.pins ∧
    (s.putStream i a b m).ports = s.ports ∧ (s.putStream i a b m).store = s.store ∧
    (s.putStream i a b m).pool = s.pool ∧ (s.putStream i a b m).custody = s.custody ∧
    (s.putStream i a b m).policy = s.policy ∧ (s.putStream i a b m).guard = s.guard ∧
    (s.putStream i a b m).rx = s.rx ∧ (s.putStream i a b m).counters = s.counters ∧
    (s.putStream i a b m).tx = s.tx ∧ (s.putStream i a b m).stn = s.stn ∧ (s.putStream i a b m).held = s.held ∧
    (s.putStream i a b m).draws = s.draws ∧ (s.putStream i a b m).pending = s.pending := by
  simp [State.putStream]

/-- Writing an exchange changes the table and the change list alone. -/
@[simp] theorem State.putExchange_frame (s : State) (i : SlotIx) (a b : Exchange) (m : BitVec 8) :
    (s.putExchange i a b m).clk = s.clk ∧ (s.putExchange i a b m).pins = s.pins ∧
    (s.putExchange i a b m).ports = s.ports ∧ (s.putExchange i a b m).store = s.store ∧
    (s.putExchange i a b m).pool = s.pool ∧ (s.putExchange i a b m).custody = s.custody ∧
    (s.putExchange i a b m).policy = s.policy ∧ (s.putExchange i a b m).guard = s.guard ∧
    (s.putExchange i a b m).rx = s.rx ∧ (s.putExchange i a b m).counters = s.counters ∧
    (s.putExchange i a b m).tx = s.tx ∧ (s.putExchange i a b m).stn = s.stn ∧
    (s.putExchange i a b m).held = s.held ∧ (s.putExchange i a b m).draws = s.draws ∧
    (s.putExchange i a b m).pending = s.pending := by
  simp [State.putExchange]

/-- An answer changes the transmitter or a count alone. -/
@[simp] theorem State.answerWith_frame (s : State) (i : SlotIx) (g : AnswerOrigin) (r : Record) (t : Template) (b : List Byte) :
    (s.answerWith i g r t b).clk = s.clk ∧ (s.answerWith i g r t b).pins = s.pins ∧
    (s.answerWith i g r t b).ports = s.ports ∧ (s.answerWith i g r t b).store = s.store ∧
    (s.answerWith i g r t b).table = s.table ∧ (s.answerWith i g r t b).pool = s.pool ∧
    (s.answerWith i g r t b).custody = s.custody ∧ (s.answerWith i g r t b).policy = s.policy ∧
    (s.answerWith i g r t b).guard = s.guard ∧ (s.answerWith i g r t b).rx = s.rx ∧
    (s.answerWith i g r t b).stn = s.stn ∧ (s.answerWith i g r t b).held = s.held ∧
    (s.answerWith i g r t b).cond = s.cond ∧ (s.answerWith i g r t b).draws = s.draws ∧
    (s.answerWith i g r t b).pending = s.pending := by
  unfold State.answerWith; split <;> simp

@[simp] theorem State.answerWith_slot (s : State) (i : SlotIx) (g : AnswerOrigin) (r : Record) (t : Template) (b : List Byte) (k : SlotIx) : (s.answerWith i g r t b).slot k = s.slot k := by
  simp [State.slot]

/-- A claim that wants an item changes the queue or its own record alone. -/
@[simp] theorem State.wantClaimItem_frame (s : State) (i : SlotIx) (c : Claim) (p : Purpose) :
    (s.wantClaimItem i c p).clk = s.clk ∧ (s.wantClaimItem i c p).pins = s.pins ∧
    (s.wantClaimItem i c p).ports = s.ports ∧ (s.wantClaimItem i c p).store = s.store ∧
    (s.wantClaimItem i c p).pool = s.pool ∧ (s.wantClaimItem i c p).custody = s.custody ∧
    (s.wantClaimItem i c p).policy = s.policy ∧ (s.wantClaimItem i c p).guard = s.guard ∧
    (s.wantClaimItem i c p).rx = s.rx ∧ (s.wantClaimItem i c p).counters = s.counters ∧
    (s.wantClaimItem i c p).stn = s.stn ∧ (s.wantClaimItem i c p).held = s.held ∧
    (s.wantClaimItem i c p).cond = s.cond ∧ (s.wantClaimItem i c p).draws = s.draws ∧
    (s.wantClaimItem i c p).pending = s.pending := by
  unfold State.wantClaimItem; split <;> (try split) <;> simp

/-- Placing a probe item changes the queue or the record alone. -/
@[simp] theorem State.placeStreamItem_frame (s : State) (i : SlotIx) (t : Stream) :
    (s.placeStreamItem i t).clk = s.clk ∧ (s.placeStreamItem i t).pins = s.pins ∧
    (s.placeStreamItem i t).ports = s.ports ∧ (s.placeStreamItem i t).store = s.store ∧
    (s.placeStreamItem i t).pool = s.pool ∧ (s.placeStreamItem i t).custody = s.custody ∧
    (s.placeStreamItem i t).policy = s.policy ∧ (s.placeStreamItem i t).guard = s.guard ∧
    (s.placeStreamItem i t).rx = s.rx ∧ (s.placeStreamItem i t).counters = s.counters ∧
    (s.placeStreamItem i t).stn = s.stn ∧ (s.placeStreamItem i t).held = s.held ∧
    (s.placeStreamItem i t).cond = s.cond ∧ (s.placeStreamItem i t).draws = s.draws ∧
    (s.placeStreamItem i t).pending = s.pending := by
  unfold State.placeStreamItem; split <;> simp

/-- Placing a request item changes the queue or the record alone. -/
@[simp] theorem State.placeExchangeItem_frame (s : State) (i : SlotIx) (x : Exchange) :
    (s.placeExchangeItem i x).clk = s.clk ∧ (s.placeExchangeItem i x).pins = s.pins ∧
    (s.placeExchangeItem i x).ports = s.ports ∧ (s.placeExchangeItem i x).store = s.store ∧
    (s.placeExchangeItem i x).pool = s.pool ∧ (s.placeExchangeItem i x).custody = s.custody ∧
    (s.placeExchangeItem i x).policy = s.policy ∧ (s.placeExchangeItem i x).guard = s.guard ∧
    (s.placeExchangeItem i x).rx = s.rx ∧ (s.placeExchangeItem i x).counters = s.counters ∧
    (s.placeExchangeItem i x).stn = s.stn ∧ (s.placeExchangeItem i x).held = s.held ∧
    (s.placeExchangeItem i x).cond = s.cond ∧ (s.placeExchangeItem i x).draws = s.draws ∧
    (s.placeExchangeItem i x).pending = s.pending := by
  unfold State.placeExchangeItem; split <;> simp

/-- Placing a claim's due item changes the queue and the record alone. -/
@[simp] theorem State.placeClaimDue_frame (s : State) (i : SlotIx) (c : Claim) :
    (s.placeClaimDue i c).clk = s.clk ∧ (s.placeClaimDue i c).pins = s.pins ∧
    (s.placeClaimDue i c).ports = s.ports ∧ (s.placeClaimDue i c).store = s.store ∧
    (s.placeClaimDue i c).pool = s.pool ∧ (s.placeClaimDue i c).custody = s.custody ∧
    (s.placeClaimDue i c).policy = s.policy ∧ (s.placeClaimDue i c).guard = s.guard ∧
    (s.placeClaimDue i c).rx = s.rx ∧ (s.placeClaimDue i c).counters = s.counters ∧
    (s.placeClaimDue i c).stn = s.stn ∧ (s.placeClaimDue i c).held = s.held ∧ (s.placeClaimDue i c).cond = s.cond ∧
    (s.placeClaimDue i c).draws = s.draws ∧ (s.placeClaimDue i c).pending = s.pending := by
  unfold State.placeClaimDue; split <;> (try split) <;> simp

/-- Placing a stream's due item changes the queue and the record alone. -/
@[simp] theorem State.placeStreamDue_frame (s : State) (i : SlotIx) (t : Stream) :
    (s.placeStreamDue i t).clk = s.clk ∧ (s.placeStreamDue i t).pins = s.pins ∧
    (s.placeStreamDue i t).ports = s.ports ∧ (s.placeStreamDue i t).store = s.store ∧
    (s.placeStreamDue i t).pool = s.pool ∧ (s.placeStreamDue i t).custody = s.custody ∧
    (s.placeStreamDue i t).policy = s.policy ∧ (s.placeStreamDue i t).guard = s.guard ∧
    (s.placeStreamDue i t).rx = s.rx ∧ (s.placeStreamDue i t).counters = s.counters ∧
    (s.placeStreamDue i t).stn = s.stn ∧ (s.placeStreamDue i t).held = s.held ∧
    (s.placeStreamDue i t).cond = s.cond ∧ (s.placeStreamDue i t).draws = s.draws ∧
    (s.placeStreamDue i t).pending = s.pending := by
  unfold State.placeStreamDue; split <;> simp

/-- Placing an exchange's due item changes the queue and the record alone. -/
@[simp] theorem State.placeExchangeDue_frame (s : State) (i : SlotIx) (x : Exchange) :
    (s.placeExchangeDue i x).clk = s.clk ∧ (s.placeExchangeDue i x).pins = s.pins ∧
    (s.placeExchangeDue i x).ports = s.ports ∧ (s.placeExchangeDue i x).store = s.store ∧
    (s.placeExchangeDue i x).pool = s.pool ∧ (s.placeExchangeDue i x).custody = s.custody ∧
    (s.placeExchangeDue i x).policy = s.policy ∧ (s.placeExchangeDue i x).guard = s.guard ∧
    (s.placeExchangeDue i x).rx = s.rx ∧ (s.placeExchangeDue i x).counters = s.counters ∧
    (s.placeExchangeDue i x).stn = s.stn ∧ (s.placeExchangeDue i x).held = s.held ∧
    (s.placeExchangeDue i x).cond = s.cond ∧ (s.placeExchangeDue i x).draws = s.draws ∧
    (s.placeExchangeDue i x).pending = s.pending := by
  unfold State.placeExchangeDue; split <;> simp

/-- Placing a slot's due item changes the queue and the table alone (R152). -/
@[simp] theorem State.placeDueOne_frame (s : State) (i : SlotIx) :
    (s.placeDueOne i).clk = s.clk ∧ (s.placeDueOne i).pins = s.pins ∧ (s.placeDueOne i).ports = s.ports ∧
    (s.placeDueOne i).store = s.store ∧ (s.placeDueOne i).pool = s.pool ∧ (s.placeDueOne i).custody = s.custody ∧
    (s.placeDueOne i).policy = s.policy ∧ (s.placeDueOne i).guard = s.guard ∧ (s.placeDueOne i).rx = s.rx ∧
    (s.placeDueOne i).counters = s.counters ∧ (s.placeDueOne i).stn = s.stn ∧ (s.placeDueOne i).held = s.held ∧
    (s.placeDueOne i).cond = s.cond ∧ (s.placeDueOne i).draws = s.draws ∧
    (s.placeDueOne i).pending = s.pending := by
  unfold State.placeDueOne; split <;> simp

/-- An engine's grant work changes the record granted and the change list alone (R154). -/
@[simp] theorem State.grantWork_frame (s : State) (item : OwnItem) :
    ((s.grantWork item).1).clk = s.clk ∧ ((s.grantWork item).1).pins = s.pins ∧
    ((s.grantWork item).1).ports = s.ports ∧ ((s.grantWork item).1).store = s.store ∧
    ((s.grantWork item).1).pool = s.pool ∧ ((s.grantWork item).1).custody = s.custody ∧
    ((s.grantWork item).1).policy = s.policy ∧ ((s.grantWork item).1).guard = s.guard ∧
    ((s.grantWork item).1).rx = s.rx ∧ ((s.grantWork item).1).counters = s.counters ∧
    ((s.grantWork item).1).tx = s.tx ∧ ((s.grantWork item).1).stn = s.stn ∧ ((s.grantWork item).1).held = s.held ∧
    ((s.grantWork item).1).draws = s.draws ∧ ((s.grantWork item).1).pending = s.pending := by
  unfold State.grantWork
  split <;> split <;> simp [State.grantStream, State.grantExchange]

/-- A grant to the part's class changes the transmitter, the record granted and the change list alone (R154). -/
@[simp] theorem State.grantPart_frame (s : State) :
    (s.grantPart).clk = s.clk ∧ (s.grantPart).pins = s.pins ∧ (s.grantPart).ports = s.ports ∧
    (s.grantPart).store = s.store ∧ (s.grantPart).pool = s.pool ∧ (s.grantPart).custody = s.custody ∧
    (s.grantPart).policy = s.policy ∧ (s.grantPart).guard = s.guard ∧ (s.grantPart).rx = s.rx ∧
    (s.grantPart).counters = s.counters ∧ (s.grantPart).stn = s.stn ∧ (s.grantPart).held = s.held ∧
    (s.grantPart).draws = s.draws ∧ (s.grantPart).pending = s.pending := by
  unfold State.grantPart State.grantOwn State.carry
  split
  · simp
  · split
    · simp
    · dsimp only
      split <;> simp

/-- The arbiter's grant changes the transmitter, the station buffer, the record granted and the change list alone (R153,
R154). -/
@[simp] theorem State.arbitrate_frame (s : State) :
    (s.arbitrate).clk = s.clk ∧ (s.arbitrate).pins = s.pins ∧ (s.arbitrate).ports = s.ports ∧
    (s.arbitrate).store = s.store ∧ (s.arbitrate).pool = s.pool ∧ (s.arbitrate).custody = s.custody ∧
    (s.arbitrate).policy = s.policy ∧ (s.arbitrate).guard = s.guard ∧ (s.arbitrate).rx = s.rx ∧
    (s.arbitrate).counters = s.counters ∧ (s.arbitrate).held = s.held ∧ (s.arbitrate).draws = s.draws ∧
    (s.arbitrate).pending = s.pending := by
  unfold State.arbitrate State.takeIf
  split
  · dsimp only
    split
    · unfold State.grantTo State.grantStation State.carry
      dsimp only
      split
      · split <;> simp
      · simp
    · simp
  · simp

/-- Ending a stream changes its record, its item and the change list alone. -/
@[simp] theorem State.endStream_frame (s : State) (i : SlotIx) (a b : Stream) (m : BitVec 8) :
    (s.endStream i a b m).clk = s.clk ∧ (s.endStream i a b m).pins = s.pins ∧
    (s.endStream i a b m).ports = s.ports ∧ (s.endStream i a b m).store = s.store ∧
    (s.endStream i a b m).pool = s.pool ∧ (s.endStream i a b m).custody = s.custody ∧
    (s.endStream i a b m).policy = s.policy ∧ (s.endStream i a b m).guard = s.guard ∧
    (s.endStream i a b m).rx = s.rx ∧ (s.endStream i a b m).counters = s.counters ∧
    (s.endStream i a b m).stn = s.stn ∧ (s.endStream i a b m).held = s.held ∧
    (s.endStream i a b m).draws = s.draws ∧ (s.endStream i a b m).pending = s.pending := by
  simp [State.endStream]

/-- Purging answers changes the transmitter and a count alone. -/
@[simp] theorem State.purgeAnswers_frame (s : State) (i : SlotIx) :
    (s.purgeAnswers i).clk = s.clk ∧ (s.purgeAnswers i).pins = s.pins ∧ (s.purgeAnswers i).ports = s.ports ∧
    (s.purgeAnswers i).store = s.store ∧ (s.purgeAnswers i).table = s.table ∧ (s.purgeAnswers i).pool = s.pool ∧
    (s.purgeAnswers i).custody = s.custody ∧ (s.purgeAnswers i).policy = s.policy ∧
    (s.purgeAnswers i).guard = s.guard ∧ (s.purgeAnswers i).rx = s.rx ∧ (s.purgeAnswers i).stn = s.stn ∧
    (s.purgeAnswers i).held = s.held ∧ (s.purgeAnswers i).cond = s.cond ∧ (s.purgeAnswers i).draws = s.draws ∧
    (s.purgeAnswers i).pending = s.pending := by
  simp [State.purgeAnswers]

@[simp] theorem State.purgeAnswers_slot (s : State) (i : SlotIx) (k : SlotIx) : (s.purgeAnswers i).slot k = s.slot k := by
  simp [State.slot]

/-- A port unit's change changes the ports alone. -/
@[simp] theorem State.setPort_frame (s : State) (p : Port) (u : PortUnit) :
    (s.setPort p u).clk = s.clk ∧ (s.setPort p u).pins = s.pins ∧ (s.setPort p u).store = s.store ∧
    (s.setPort p u).table = s.table ∧ (s.setPort p u).pool = s.pool ∧ (s.setPort p u).custody = s.custody ∧
    (s.setPort p u).policy = s.policy ∧ (s.setPort p u).guard = s.guard ∧ (s.setPort p u).rx = s.rx ∧
    (s.setPort p u).counters = s.counters ∧ (s.setPort p u).tx = s.tx ∧ (s.setPort p u).stn = s.stn ∧
    (s.setPort p u).held = s.held ∧ (s.setPort p u).cond = s.cond ∧ (s.setPort p u).draws = s.draws ∧
    (s.setPort p u).pending = s.pending := by
  cases p <;> simp [State.setPort]

@[simp] theorem State.setPort_slot (s : State) (p : Port) (u : PortUnit) (k : SlotIx) : (s.setPort p u).slot k = s.slot k := by
  simp [State.slot]

/-- A response changes the ports alone. -/
@[simp] theorem State.respond_frame (s : State) (p : Port) (r : Response) :
    (s.respond p r).clk = s.clk ∧ (s.respond p r).pins = s.pins ∧ (s.respond p r).store = s.store ∧
    (s.respond p r).table = s.table ∧ (s.respond p r).pool = s.pool ∧ (s.respond p r).custody = s.custody ∧
    (s.respond p r).policy = s.policy ∧ (s.respond p r).guard = s.guard ∧ (s.respond p r).rx = s.rx ∧
    (s.respond p r).counters = s.counters ∧ (s.respond p r).tx = s.tx ∧ (s.respond p r).stn = s.stn ∧
    (s.respond p r).held = s.held ∧ (s.respond p r).cond = s.cond ∧ (s.respond p r).draws = s.draws ∧
    (s.respond p r).pending = s.pending := by
  simp [State.respond]

@[simp] theorem State.respond_slot (s : State) (p : Port) (r : Response) (k : SlotIx) : (s.respond p r).slot k = s.slot k := by
  simp [State.slot]

/-! ## What the shared operations write -/

/-- The slot a record is written to holds it, and no other slot changes. -/
@[simp] theorem State.slot_report (s : State) (i k : SlotIx) (m : BitVec 8) : (s.report i m).slot k = s.slot k := by
  simp [State.slot]

theorem State.slot_putClaim (s : State) (i k : SlotIx) (a b : Claim) :
    (s.putClaim i a b).slot k = if i = k then some (.claim b) else s.slot k := by
  simp [State.putClaim, State.slot_setSlot]

theorem State.slot_putResponder (s : State) (i k : SlotIx) (a b : Responder) :
    (s.putResponder i a b).slot k = if i = k then some (.responder b) else s.slot k := by
  simp [State.putResponder, State.slot_setSlot]

theorem State.slot_putFilter (s : State) (i k : SlotIx) (a b : Filter) :
    (s.putFilter i a b).slot k = if i = k then some (.filter b) else s.slot k := by
  simp [State.putFilter, State.slot_setSlot]

theorem State.slot_putStream (s : State) (i k : SlotIx) (a b : Stream) (m : BitVec 8) :
    (s.putStream i a b m).slot k = if i = k then some (.stream b) else s.slot k := by
  simp [State.putStream, State.slot_setSlot]

theorem State.slot_putExchange (s : State) (i k : SlotIx) (a b : Exchange) (m : BitVec 8) :
    (s.putExchange i a b m).slot k = if i = k then some (.exchange b) else s.slot k := by
  simp [State.putExchange, State.slot_setSlot]

/-- The items after a withdrawal: those of every other slot, in their order. -/
@[simp] theorem State.withdrawItem_own (s : State) (i : SlotIx) :
    (s.withdrawItem i).tx.own = s.tx.own.filter fun it => decide (it.slot ≠ i) := rfl

/-- A port unit after a port unit is replaced. -/
theorem State.port_setPort (s : State) (p q : Port) (u : PortUnit) :
    (s.setPort p u).port q = if p = q then u else s.port q := by
  cases p <;> cases q <;> rfl

/-- Two writes of one port unit are one. -/
@[simp] theorem State.setPort_setPort (s : State) (p : Port) (u v : PortUnit) :
    (s.setPort p u).setPort p v = s.setPort p v := by
  cases p <;> rfl

/-- The bytes of a number, as many as asked for. -/
@[simp] theorem beBytes_length (n v : Nat) : (beBytes n v).length = n := by
  induction n generalizing v with
  | zero => rfl
  | succ n ih => simp [beBytes, ih]

/-- A change list's slots after a change. -/
theorem addChange_slots (l : List ChangeRecord) (i : SlotIx) (m : BitVec 8) :
    (addChange l i m).map ChangeRecord.slot =
      if i ∈ l.map ChangeRecord.slot then l.map ChangeRecord.slot else l.map ChangeRecord.slot ++ [i] := by
  induction l with
  | nil => rfl
  | cons c rest ih =>
    unfold addChange
    split
    · rename_i h; simp [h]
    · rename_i h
      have h' : i ≠ c.slot := fun e => h e.symm
      simp only [List.map_cons, ih, List.mem_cons, h', false_or]
      split <;> rfl

end Sys2Proof.Machine
end

