-- ==== Sys2Proof/Laws/Assembler.lean ====
section
/-! SUPPORT. What the parts of frame assembly do, byte by byte and number by number: writing over a byte string, the sum of a
span, its folding (R35 to R37). -/

namespace Sys2Proof.Machine

/-- Writing over a byte string keeps its length. -/
@[simp] theorem overwrite_length (bytes : List Byte) (offset : Nat) (new : List Byte) :
    (overwrite bytes offset new).length = bytes.length := by
  unfold overwrite
  simp
  omega

/-- A byte of a byte string that has been written over. -/
theorem overwrite_getD (bytes : List Byte) (offset : Nat) (new : List Byte) (k : Nat) :
    (overwrite bytes offset new).getD k 0 =
      if offset ≤ k ∧ k < offset + new.length ∧ k < bytes.length then new.getD (k - offset) 0 else bytes.getD k 0 := by
  unfold overwrite
  simp only [List.getD_eq_getElem?_getD, List.getElem?_append, List.getElem?_take, List.getElem?_drop,
    List.length_append, List.length_take]
  by_cases h1 : k < offset
  · by_cases h2 : k < bytes.length
    · rw [if_pos (by omega), if_pos (by omega), if_pos h1, if_neg (by omega)]
    · rw [if_neg (by omega), if_neg (by omega), List.getElem?_eq_none (l := bytes) (by omega),
        List.getElem?_eq_none (l := bytes) (i := k) (by omega)]
  · by_cases h2 : k < bytes.length
    · by_cases h3 : k < offset + new.length
      · rw [if_pos (by omega), if_neg (by omega), if_pos (by omega), if_pos (by omega)]
        congr 2
        omega
      · rw [if_neg (by omega), if_neg (by omega)]
        congr 2
        omega
    · rw [if_neg (by omega), if_neg (by omega), List.getElem?_eq_none (l := bytes) (by omega),
        List.getElem?_eq_none (l := bytes) (i := k) (by omega)]

/-- Byte strings of one length with the same bytes are equal. -/
theorem bytes_ext {a b : List Byte} (h : a.length = b.length) (hb : ∀ k < a.length, a.getD k 0 = b.getD k 0) : a = b := by
  apply List.ext_getElem h
  intro k h3 h4
  have := hb k h3
  simpa [List.getD_eq_getElem?_getD, List.getElem?_eq_getElem h3, List.getElem?_eq_getElem h4] using this

/-- A byte of a string that is given place by place. -/
theorem getD_map_range (f : Nat → Byte) (n k : Nat) (h : k < n) : ((List.range n).map f).getD k 0 = f k := by
  simp [List.getD_eq_getElem?_getD, h]

/-- The sum of a span's words, byte by byte: the first byte of each pair is the high one (R37). -/
theorem sumWords_map_range (m : Nat) (f : Nat → Byte) :
    sumWords ((List.range m).map f) =
      ((List.range m).map fun j => (f j).toNat * (if j % 2 = 0 then 256 else 1)).sum := by
  induction m using Nat.strong_induction_on generalizing f with
  | _ m ih =>
    match m with
    | 0 => simp [sumWords]
    | 1 => simp [sumWords]
    | m + 2 =>
      rw [List.range_succ_eq_map, List.range_succ_eq_map]
      simp only [List.map_cons, List.map_map, sumWords, List.sum_cons]
      rw [show (f ∘ Nat.succ ∘ Nat.succ) = fun j => f (j + 2) from rfl, ih m (by omega) fun j => f (j + 2)]
      simp only [Function.comp_def, Nat.succ_eq_add_one]
      have e : ∀ x, (x + 1 + 1) % 2 = x % 2 := by intro x; omega
      simp [e]
      ring

/-- A span of `m` bytes sums to at most 65,280 for each byte. -/
theorem sumWords_le (m : Nat) (f : Nat → Byte) : sumWords ((List.range m).map f) ≤ m * 65280 := by
  rw [sumWords_map_range]
  induction m with
  | zero => simp
  | succ m ih =>
    rw [List.range_succ, List.map_append, List.sum_append]
    have := (f m).isLt
    simp only [List.map_cons, List.map_nil, List.sum_cons, List.sum_nil]
    have h2 : (f m).toNat * (if m % 2 = 0 then 256 else 1) ≤ 65280 := by split <;> omega
    omega

/-- The folded sum in closed form; two folds are enough far past any span (R37). -/
theorem foldSum_eq (n : Nat) (h : n < 2 ^ 31) : foldSum n = if n = 0 then 0 else (n - 1) % 65535 + 1 := by
  unfold foldSum foldOnce
  split
  · split <;> omega
  · have h1 : n = 65536 * (n / 65536) + n % 65536 := (Nat.div_add_mod _ _).symm
    have h2 : n / 65536 < 32768 := by omega
    have h3 : n % 65536 < 65536 := Nat.mod_lt _ (by omega)
    generalize n / 65536 = q at *
    generalize n % 65536 = r at *
    rw [if_neg (show ¬ n = 0 by omega)]
    by_cases hm : r + q < 65536
    · have : n - 1 = (r + q - 1) + 65535 * q := by omega
      rw [if_pos hm, this, Nat.add_mul_mod_self_left, Nat.mod_eq_of_lt (show r + q - 1 < 65535 by omega)]
      omega
    · have : n - 1 = (r + q - 65536) + 65535 * (q + 1) := by omega
      rw [if_neg hm, this, Nat.add_mul_mod_self_left, Nat.mod_eq_of_lt (show r + q - 65536 < 65535 by omega)]
      omega

end Sys2Proof.Machine
end

