-- ==== Sys2Proof/Laws/Memory.lean ====
section
/-! SUPPORT. The laws of the byte memories: a read after a write, the canonical form kept by every write, bounds. -/

namespace Sys2Proof.Machine

/-- A read after a write gives the byte written at its address and the old byte elsewhere, in a canonical memory. -/
theorem memRead_memWrite_from (blank : Byte) (m : List Host.Cell) (low x y : Nat) (v : Byte)
    (h : memWfFrom blank low m = true) :
    memRead blank (memWrite blank m x v) y = if y = x then v else memRead blank m y := by
  induction m generalizing low with
  | nil => by_cases hv : v = blank <;> by_cases hy : y = x <;> simp [memWrite, memRead, hv, hy]
  | cons c rest ih =>
    obtain ⟨a, b⟩ := c
    simp only [memWfFrom, Bool.and_eq_true, decide_eq_true_eq] at h
    obtain ⟨⟨_, _⟩, hrest⟩ := h
    have below : ∀ z, z < a + 1 → memRead blank rest z = blank := by
      have : ∀ (l : Nat) (n : List Host.Cell), memWfFrom blank l n = true → ∀ z, z < l → memRead blank n z = blank := by
        intro l n
        induction n generalizing l with
        | nil => intros; rfl
        | cons d ds ihd =>
          intro hn z hz
          obtain ⟨e, w⟩ := d
          simp only [memWfFrom, Bool.and_eq_true, decide_eq_true_eq] at hn
          have : z ≠ e := by omega
          simp only [memRead, this, if_false]
          exact ihd (e + 1) hn.2 z (by omega)
      exact this _ _ hrest
    unfold memWrite
    split
    · rename_i hlt
      split
      · rename_i hv
        subst hv
        by_cases hy : y = x
        · subst hy
          have : y ≠ a := by omega
          simp [memRead, this, below y (by omega)]
        · simp [hy]
      · simp [memRead]
    · rename_i hge
      split
      · rename_i hxa
        subst hxa
        by_cases hy : y = x
        · subst hy
          split
          · rename_i hv
            simp [hv, below y (by omega)]
          · simp [memRead]
        · split <;> simp [memRead, hy]
      · rename_i hne
        by_cases hy : y = x
        · subst hy
          simp [memRead, hne, ih (a + 1) hrest]
        · by_cases hya : y = a
          · subst hya; simp [memRead, hy]
          · simp [memRead, hya, ih (a + 1) hrest, hy]

/-- A read after a write gives the byte written at its address and the old byte elsewhere. -/
theorem memRead_memWrite (blank : Byte) (m : List Host.Cell) (x y : Nat) (v : Byte) (h : memWf blank m = true) :
    memRead blank (memWrite blank m x v) y = if y = x then v else memRead blank m y :=
  memRead_memWrite_from blank m 0 x y v h

/-- A canonical memory is canonical above any lower bound. -/
theorem memWfFrom_mono (blank : Byte) (m : List Host.Cell) {low high : Nat} (hle : low ≤ high)
    (h : memWfFrom blank high m = true) : memWfFrom blank low m = true := by
  cases m with
  | nil => rfl
  | cons c rest =>
    simp only [memWfFrom, Bool.and_eq_true, decide_eq_true_eq] at h ⊢
    exact ⟨⟨by omega, h.1.2⟩, h.2⟩

/-- A write at or above the bound keeps the canonical form above it. -/
theorem memWfFrom_memWrite (blank : Byte) (m : List Host.Cell) (low x : Nat) (v : Byte) (hx : low ≤ x)
    (h : memWfFrom blank low m = true) : memWfFrom blank low (memWrite blank m x v) = true := by
  induction m generalizing low with
  | nil => by_cases hv : v = blank <;> simp [memWrite, memWfFrom, hv, hx]
  | cons c rest ih =>
    obtain ⟨a, b⟩ := c
    have h' := h
    simp only [memWfFrom, Bool.and_eq_true, decide_eq_true_eq] at h'
    obtain ⟨⟨ha, hb⟩, hrest⟩ := h'
    unfold memWrite
    split
    · rename_i hlt
      split
      · exact h
      · rename_i hv
        simp only [memWfFrom, Bool.and_eq_true, decide_eq_true_eq]
        exact ⟨⟨hx, hv⟩, ⟨by omega, hb⟩, hrest⟩
    · split
      · rename_i hxa
        split
        · exact memWfFrom_mono blank rest (by omega) hrest
        · rename_i hv
          simp only [memWfFrom, Bool.and_eq_true, decide_eq_true_eq]
          exact ⟨⟨hx, hv⟩, by rw [hxa]; exact hrest⟩
      · simp only [memWfFrom, Bool.and_eq_true, decide_eq_true_eq]
        exact ⟨⟨ha, hb⟩, ih (a + 1) (by omega) hrest⟩

/-- A write keeps the canonical form. -/
theorem memWf_memWrite (blank : Byte) (m : List Host.Cell) (x : Nat) (v : Byte) (h : memWf blank m = true) :
    memWf blank (memWrite blank m x v) = true := memWfFrom_memWrite blank m 0 x v (Nat.zero_le x) h

/-- A run of writes keeps the canonical form. -/
theorem memWf_memWriteAll (blank : Byte) (vs : List Byte) (m : List Host.Cell) (x : Nat) (h : memWf blank m = true) :
    memWf blank (memWriteAll blank m x vs) = true := by
  induction vs generalizing m x with
  | nil => exact h
  | cons v vs ih => exact ih _ _ (memWf_memWrite blank m x v h)

/-- A read after a run of writes gives the byte written inside the run and the old byte outside it. -/
theorem memRead_memWriteAll (blank : Byte) (vs : List Byte) (m : List Host.Cell) (x y : Nat)
    (h : memWf blank m = true) :
    memRead blank (memWriteAll blank m x vs) y =
      if x ≤ y ∧ y < x + vs.length then vs.getD (y - x) blank else memRead blank m y := by
  induction vs generalizing m x with
  | nil => simp [memWriteAll]
  | cons v vs ih =>
    rw [memWriteAll, ih _ _ (memWf_memWrite blank m x v h), memRead_memWrite blank m x y v h]
    by_cases hy : y = x
    · subst hy; simp
    · by_cases hin : x + 1 ≤ y ∧ y < x + 1 + vs.length
      · have h1 : x ≤ y ∧ y < x + (v :: vs).length := by simp only [List.length_cons]; omega
        have h2 : y - x = (y - (x + 1)) + 1 := by omega
        rw [if_pos hin, if_pos h1, h2]
        rfl
      · have h1 : ¬ (x ≤ y ∧ y < x + (v :: vs).length) := by simp only [List.length_cons]; omega
        rw [if_neg hin, if_neg hy, if_neg h1]

/-- A write below a bound keeps every cell below it. -/
theorem memWrite_below (blank : Byte) (m : List Host.Cell) (bound x : Nat) (v : Byte) (hx : x < bound)
    (h : ∀ c ∈ m, c.1 < bound) : ∀ c ∈ memWrite blank m x v, c.1 < bound := by
  induction m with
  | nil => by_cases hv : v = blank <;> simp [memWrite, hv, hx]
  | cons d rest ih =>
    obtain ⟨a, b⟩ := d
    have ha : a < bound := h (a, b) (by simp)
    have hr : ∀ c ∈ rest, c.1 < bound := fun c hc => h c (by simp [hc])
    unfold memWrite
    split
    · split
      · exact h
      · intro c hc
        rcases List.mem_cons.mp hc with rfl | hc
        · exact hx
        · exact h c hc
    · split
      · split
        · exact hr
        · intro c hc
          rcases List.mem_cons.mp hc with rfl | hc
          · exact hx
          · exact hr c hc
      · intro c hc
        rcases List.mem_cons.mp hc with rfl | hc
        · exact ha
        · exact ih hr c hc

/-- A run of writes below a bound keeps every cell below it. -/
theorem memWriteAll_below (blank : Byte) (vs : List Byte) (m : List Host.Cell) (bound x : Nat)
    (hx : x + vs.length ≤ bound) (h : ∀ c ∈ m, c.1 < bound) : ∀ c ∈ memWriteAll blank m x vs, c.1 < bound := by
  induction vs generalizing m x with
  | nil => exact h
  | cons v vs ih =>
    simp only [List.length_cons] at hx
    exact ih _ _ (by omega) (memWrite_below blank m bound x v (by omega) h)

/-- A run of reads has as many bytes as it asks for. -/
@[simp] theorem memReadAll_length (blank : Byte) (m : List Host.Cell) (x n : Nat) :
    (memReadAll blank m x n).length = n := by simp [memReadAll]

/-- The memories of the state after reset are canonical. -/
theorem reset_memories : memWf poolBlank State.reset.pool = true ∧ memWf storeBlank State.reset.store.cells = true := by
  decide

end Sys2Proof.Machine
end

