-- ==== Sys2Proof/Laws/Walk.lean ====
section
/-! SUPPORT. What the payload walk of PUT_SLOT reads and refuses,
    one statement for each part of a record: the walk of a part
reads every sound part and goes on behind it, and refuses exactly the faults `Safety.lean` names, at their offsets
    (R15, R16,
R28, R29). -/

namespace Sys2Proof.Machine

/-- The walk reads every sound part, written by `enc`, and goes on behind it. -/
def WalkFollows {α β} (w : Walk β) (enc : α → List Byte) (sound : α → Prop) (val : α → β) : Prop :=
  ∀ x, sound x → ∀ o rest, w ⟨o, enc x ++ rest⟩ = .ok (val x, ⟨o + (enc x).length, rest⟩)

/-- The walk refuses what `bad` says, with its result, at its offset. -/
def WalkRefuses {β} (w : Walk β) (bad : ImageFault) : Prop :=
  ∀ bytes k r, bad bytes k r → ∀ o, w ⟨o, bytes⟩ = .error ⟨r, o + k⟩

/-- A walk goes on behind a part it has read. -/
theorem walk_bind_ok {α β} {w : Walk α} {f : α → Walk β} {p a p'} (h : w p = .ok (a, p')) : (w >>= f) p = f a p' := by
  show (StateT.bind w f) p = _; simp [StateT.bind, h, bind, Except.bind]

/-- A walk ends where a part is refused. -/
theorem walk_bind_error {α β} {w : Walk α} {f : α → Walk β} {p e} (h : w p = .error e) : (w >>= f) p = .error e := by
  show (StateT.bind w f) p = _; simp [StateT.bind, h, bind, Except.bind]

/-- A walk of a part and of what stands behind it refuses the part's faults and, behind a sound part, the others. -/
theorem WalkRefuses.bind {α β γ} {w : Walk β} {f : β → Walk γ} {enc : α → List Byte} {sound bad behind val}
    (hb : WalkRefuses w bad) (hf : WalkFollows w enc sound val) (hk : ∀ x, sound x → WalkRefuses (f (val x))
      (behind x)) :
    WalkRefuses (w >>= f) (faultIn enc sound bad behind) := by
  rintro bytes k r (h | ⟨x, rest, j, hs, rfl, rfl, h⟩) o
  · exact walk_bind_error (hb _ _ _ h o)
  · rw [walk_bind_ok (hf x hs o rest), hk x hs _ _ _ h]; simp [Nat.add_assoc]

/-- A number written in `w` bytes reads back. -/
theorem natOfBytes_beBytes (w n : Nat) (h : n < 256 ^ w) : natOfBytes (beBytes w n) = n := by
  have key : ∀ w n acc, n < 256 ^ w → (beBytes w n).foldl (fun acc b => acc * 256 + b.toNat)
    acc = acc * 256 ^ w + n := by
    intro w
    induction w with
    | zero => intro n acc h; simp at h; simp [beBytes, h]
    | succ w ih =>
      intro n acc h
      have hm : beBytes w n = beBytes w (n % 256 ^ w) := by
        clear ih h
        have : ∀ k, k ≤ w → ∀ a b, a % 256 ^ k = b % 256 ^ k → beBytes k a = beBytes k b := by
          intro k
          induction k with
          | zero => intros; rfl
          | succ k ihk =>
            intro hk a b hab
            simp only [beBytes]
            have h1 : a % 256 ^ k = b % 256 ^ k := by
              have := congrArg (· % 256 ^ k) hab
              simpa [Nat.pow_succ, Nat.mod_mul_right_mod] using this
            rw [ihk (by omega) a b h1]
            congr 1
            apply BitVec.eq_of_toNat_eq
            simp only [BitVec.toNat_ofNat]
            have h2 : a / 256 ^ k % 256 = b / 256 ^ k % 256 := by
              rw [Nat.pow_succ] at hab
              rw [← Nat.mod_mul_right_div_self, ← Nat.mod_mul_right_div_self, hab]
            simpa using h2
        exact this w (Nat.le_refl _) _ _ (by simp)
      simp only [beBytes, List.foldl_cons]
      rw [hm, ih _ _ (Nat.mod_lt _ (by positivity))]
      have hd : n / 256 ^ w < 256 := by
        rw [Nat.div_lt_iff_lt_mul (by positivity)]; rw [Nat.pow_succ] at h; omega
      simp only [BitVec.toNat_ofNat]
      rw [Nat.mod_eq_of_lt (by simpa using hd), Nat.pow_succ]
      have := Nat.div_add_mod n (256 ^ w)
      nlinarith
  have := key w n 0 h
  simpa [natOfBytes] using this

/-- Bytes that are there are read. -/
theorem walkBytes_ok (a rest : List Byte) (o : Nat) : walkBytes a.length ⟨o, a ++ rest⟩ = .ok (a, ⟨o + a.length,
    rest⟩) := by
  simp [walkBytes]

/-- Bytes that are missing are a fault at the field (R15). -/
theorem walkBytes_short (n o : Nat) (b : List Byte) (h : b.length < n) : walkBytes n ⟨o, b⟩ = .error ⟨.malformed,
    o⟩ := by
  simp [walkBytes, h]

/-- A number that is there is read. -/
theorem walkNat_ok (w n o : Nat) (rest) (h : n < 256 ^ w) : walkNat w ⟨o, beBytes w n ++ rest⟩ = .ok (n, ⟨o + w,
    rest⟩) := by
  unfold walkNat
  have := walkBytes_ok (beBytes w n) rest o
  rw [beBytes_length] at this
  rw [walk_bind_ok this]
  simp [pure, StateT.pure, Except.pure, natOfBytes_beBytes w n h]

/-- A number whose bytes are missing is a fault at the field (R15). -/
theorem walkNat_short (w o b) (h : List.length b < w) : walkNat w ⟨o, b⟩ = .error ⟨.malformed, o⟩ := by
  unfold walkNat; exact walk_bind_error (walkBytes_short _ _ _ h)

/-- A plain number is read. -/
theorem walkNat_follows (w) (refused : Nat → Prop) : WalkFollows (walkNat w) (beBytes w)
    (fun n => n < 256 ^ w ∧ ¬ refused n) id := by
  intro n h o rest; rw [walkNat_ok w n o rest h.1]; simp

/-- A plain number is refused only for missing bytes. -/
theorem walkNat_refuses (w) (res) : WalkRefuses (walkNat w) (badField w noneRefused res) := by
  rintro b k r ⟨rfl, ⟨h, rfl⟩ | ⟨n, rest, _, hf, _⟩⟩ o
  · exact walkNat_short _ _ _ h
  · exact hf.elim

/-- Plain bytes are refused only for being missing. -/
theorem walkBytes_refuses (w) (res) : WalkRefuses (walkBytes w) (badField w noneRefused res) := by
  rintro b k r ⟨rfl, ⟨h, rfl⟩ | ⟨n, rest, _, hf, _⟩⟩ o
  · exact walkBytes_short _ _ _ h
  · exact hf.elim

/-- Plain bytes are read. -/
theorem walkBytes_follows (n : Nat) : WalkFollows (walkBytes n) id (fun a => a.length = n) id := by
  rintro a rfl o rest; exact walkBytes_ok a rest o

/-- Two walks that go on alike agree. -/
theorem walk_bind_congr {α β} {w : Walk α} {f g : α → Walk β} {p} (h : ∀ n q, f n q = g n q) : (w >>= f) p = (w >>=
    g) p := by
  have : f = g := funext fun n => funext (h n)
  rw [this]

/-- The walk knows its own offset. -/
theorem walkHere_bind {β} (f : Nat → Walk β) (p) : (walkHere >>= f) p = f p.offset p := walk_bind_ok rfl

/-- A number with a test of its own. -/
theorem walkNat_tested {β} (w : Nat) (refused : Nat → Prop) [DecidablePred refused] (res : Result) (val : Nat → β)
    (wk : Walk β)
    (hw : ∀ o b, wk ⟨o, b⟩ = (walkNat w >>= fun n => if refused n then walkFail res o else pure (val n)) ⟨o, b⟩) :
    WalkRefuses wk (badField w refused res) ∧ WalkFollows wk (beBytes w) (fun n => n < 256 ^ w ∧ ¬ refused n)
      val := by
  constructor
  · rintro b k r ⟨rfl, ⟨h, rfl⟩ | ⟨n, rest, hn, hf, rfl, rfl⟩⟩ o
    · rw [hw, walk_bind_error (walkNat_short _ _ _ h)]; rfl
    · rw [hw, walk_bind_ok (walkNat_ok w n o rest hn)]; simp [hf, walkFail]
  · intro n h o rest
    rw [hw, walk_bind_ok (walkNat_ok w n o rest h.1)]
    simp [h.2, pure, StateT.pure, Except.pure]

/-- All a bounded number can do. -/
theorem walkWithin_spec (w low high : Nat) (refused : Nat → Prop) (hr : ∀ n, n < 256 ^ w → (refused n ↔ ¬
    (low ≤ n ∧ n ≤ high))) :
    WalkRefuses (walkWithin w low high) (badField w refused .outOfRange) ∧
    WalkFollows (walkWithin w low high) (beBytes w) (fun n => n < 256 ^ w ∧ ¬ refused n) id := by
  have key := walkNat_tested w (fun n => ¬ (low ≤ n ∧ n ≤ high)) .outOfRange id (walkWithin w low high) (by
    intro o b; unfold walkWithin; rw [walkHere_bind]; apply walk_bind_congr; intro n q; by_cases hh : low ≤ n ∧ n ≤ high <;> simp [hh])
  constructor
  · rintro b k r ⟨h0, h | ⟨n, rest, hn, hf, h1, h2⟩⟩
    · exact key.1 _ _ _ ⟨h0, .inl h⟩
    · exact key.1 _ _ _ ⟨h0, .inr ⟨n, rest, hn, (hr n hn).1 hf, h1, h2⟩⟩
  · intro n h; exact key.2 n ⟨h.1, fun h' => h.2 ((hr n h.1).2 h')⟩

/-- All a flag can do. -/
theorem walkFlag_spec : WalkRefuses walkFlag (badField 1 (1 < ·) .malformed) ∧
    WalkFollows walkFlag (beBytes 1) (fun n => n < 256 ^ 1 ∧ ¬ 1 < n) (fun n => decide (n = 1)) := by
  apply walkNat_tested 1 (1 < ·) .malformed (fun n => decide (n = 1))
  intro o b; unfold walkFlag; rw [walkHere_bind]
  apply walk_bind_congr; intro n q
  by_cases h0 : n = 0
  · simp [h0]
  · by_cases h1 : n = 1
    · simp [h1]
    · have : 1 < n := by omega
      simp [h0, h1, this]

/-- All a link can do. -/
theorem walkLink_spec : WalkRefuses walkLink (badField 1 refusedLink .outOfRange) ∧
    WalkFollows walkLink (beBytes 1) (fun n => n < 256 ^ 1 ∧ ¬ refusedLink n)
      (fun n => if h : n < 128 then some ⟨n, h⟩ else none) := by
  have hd : DecidablePred refusedLink := fun n => by unfold refusedLink; infer_instance
  constructor
  · rintro b k r ⟨rfl, ⟨h, rfl⟩ | ⟨n, rest, hn, hf, rfl, rfl⟩⟩ o
    · unfold walkLink; rw [walkHere_bind, walk_bind_error (walkNat_short _ _ _ h)]; rfl
    · unfold walkLink; rw [walkHere_bind, walk_bind_ok (walkNat_ok 1 n o rest hn)]
      unfold refusedLink at hf
      rw [dif_neg (by omega), if_neg (by omega)]; rfl
  · intro n h o rest
    unfold walkLink; rw [walkHere_bind, walk_bind_ok (walkNat_ok 1 n o rest h.1)]
    have h2 := h.2; have h1 := h.1
    unfold refusedLink at h2
    split
    · rename_i h3; simp [h3, pure, StateT.pure, Except.pure]
    · rename_i h3; rw [if_pos (by simp at h1; omega)]; simp [h3, pure, StateT.pure, Except.pure]

/-- Bytes left over are refused (R15; log entry 9). -/
theorem walkEnd_refuses {β} (x : β) : WalkRefuses (walkEnd >>= fun _ => (pure x : Walk β)) leftOver := by
  rintro b k r ⟨h, rfl, rfl⟩ o
  apply walk_bind_error; simp [walkEnd, h]

/-- All an optional part can do. -/
theorem walkOptional_spec {α} (part : Walk α) (enc : α → List Byte) (sound : α → Prop) (bad)
    (hb : WalkRefuses part bad)
    (hf : WalkFollows part enc sound id) : WalkRefuses (walkOptional part) (badOptional bad) ∧
      WalkFollows (walkOptional part) (optionalBytes enc) (fun x => ∀ y ∈ x, sound y) id := by
  constructor
  · unfold walkOptional badOptional faultFrom
    refine WalkRefuses.bind walkFlag_spec.1 walkFlag_spec.2 ?_
    rintro n ⟨h1, h2⟩ b k r ⟨rfl, h⟩ o
    simp only [decide_true, if_true]
    exact walk_bind_error (hb _ _ _ h o)
  · intro x hx o rest
    unfold walkOptional
    cases x with
    | none =>
      have := walkFlag_spec.2 0 (by simp) o rest
      simp only [optionalBytes]
      rw [show beBytes 1 0 = [0] from rfl] at this
      rw [walk_bind_ok this]; simp [pure, StateT.pure, Except.pure]
    | some a =>
      have := walkFlag_spec.2 1 (by simp) o (enc a ++ rest)
      simp only [optionalBytes]
      rw [show beBytes 1 1 = [1] from rfl] at this
      rw [show (1 :: enc a ++ rest : List Byte) = [1] ++ (enc a ++ rest) by simp]
      rw [walk_bind_ok this]
      simp only [decide_true, if_true]
      rw [walk_bind_ok (hf a (hx a rfl) _ rest)]
      simp [pure, StateT.pure, Except.pure]; omega

/-- Parts in a row are read. -/
theorem walkTimes_follows {α} (part : Walk α) (enc : α → List Byte) (sound : α → Prop)
    (hf : WalkFollows part enc sound id) :
    ∀ (xs : List α), (∀ x ∈ xs, sound x) → ∀ o rest,
      walkTimes part xs.length ⟨o, xs.flatMap enc ++ rest⟩ = .ok (xs, ⟨o + (xs.flatMap enc).length, rest⟩) := by
  intro xs
  induction xs with
  | nil => intros; simp [walkTimes, pure, StateT.pure, Except.pure]
  | cons x xs ih =>
    intro h o rest
    simp only [List.length_cons, walkTimes, List.flatMap_cons, List.append_assoc]
    rw [walk_bind_ok (hf x (h x (by simp)) o _), walk_bind_ok (ih (fun y hy => h y (by simp [hy])) _ rest)]
    simp [pure, StateT.pure, Except.pure]; omega

/-- The first faulty part of a row is refused. -/
theorem walkTimes_refuses {α} (part : Walk α) (enc : α → List Byte) (sound : α → Prop) (bad)
    (hb : WalkRefuses part bad)
    (hf : WalkFollows part enc sound id) : ∀ (xs : List α) (n : Nat), (∀ x ∈ xs, sound x) → xs.length < n →
      ∀ o rest k r, bad rest k r →
      walkTimes part n ⟨o, xs.flatMap enc ++ rest⟩ = .error ⟨r, o + (xs.flatMap enc).length + k⟩ := by
  intro xs
  induction xs with
  | nil =>
    intro n _ hn o rest k r h
    cases n with
    | zero => simp at hn
    | succ n => simp only [walkTimes]; simp; exact walk_bind_error (hb _ _ _ h o)
  | cons x xs ih =>
    intro n hs hn o rest k r h
    cases n with
    | zero => simp at hn
    | succ n =>
      simp only [walkTimes, List.flatMap_cons, List.append_assoc]
      rw [walk_bind_ok (hf x (hs x (by simp)) o _)]
      rw [walk_bind_error (ih n (fun y hy => hs y (by simp [hy])) (by simpa using hn) _ rest k r h)]
      simp; omega

/-- All a counted list can do. -/
theorem walkList_spec {α} (part : Walk α) (enc : α → List Byte) (sound : α → Prop) (bad) (low high : Nat)
    (hh : high < 256)
    (hb : WalkRefuses part bad) (hf : WalkFollows part enc sound id) :
    WalkRefuses (walkWithin 1 low high >>= fun n => walkTimes part n) (badList low high enc sound bad) ∧
    WalkFollows (walkWithin 1 low high >>= fun n => walkTimes part n) (listBytes enc)
      (fun l => within low high l.length ∧ ∀ x ∈ l, sound x) id := by
  have hw := walkWithin_spec 1 low high (fun n => ¬ within low high n) (by intros; rfl)
  constructor
  · refine WalkRefuses.bind hw.1 hw.2 ?_
    rintro n ⟨_, _⟩ b k r ⟨xs, rest, j, h1, h2, rfl, rfl, h⟩ o
    rw [show (id n) = n from rfl,
      walkTimes_refuses part enc sound bad hb hf xs n h2 h1 o rest j r h]; simp [Nat.add_assoc]
  · rintro l ⟨hl, hs⟩ o rest
    have h1 := hl.2
    unfold listBytes
    rw [List.append_assoc, walk_bind_ok (hw.2 l.length ⟨by simp; omega, by simp [hl]⟩ o _)]
    rw [show (id l.length) = l.length from rfl, walkTimes_follows part enc sound hf l hs]
    simp [Nat.add_assoc]

/-- Walks that are equal refuse alike. -/
theorem WalkRefuses.congr {β} {w w' : Walk β} {bad} (h : ∀ p, w p = w' p) (hr : WalkRefuses w bad)
    : WalkRefuses w' bad := by
  intro b k r hb o; rw [← h]; exact hr b k r hb o

/-- Walks that are equal read alike. -/
theorem WalkFollows.congr {α β} {w w' : Walk β} {enc : α → List Byte} {sound val} (h : ∀ p, w p = w' p)
    (hr : WalkFollows w enc sound val) :
    WalkFollows w' enc sound val := by
  intro x hx o rest; rw [← h]; exact hr x hx o rest

/-- A refusal stays one whatever would have come behind. -/
theorem WalkRefuses.map {α β} {w : Walk α} {bad} (h : WalkRefuses w bad) (f : α → Walk β) : WalkRefuses (w >>= f)
    bad := by
  intro b k r hb o; exact walk_bind_error (h b k r hb o)

/-- A bounded number with what stands behind it. -/
theorem walkWithin_refuses_bind {γ} (w lo hi : Nat) (refused : Nat → Prop) (hr : ∀ n, n < 256 ^ w → (refused n ↔ ¬
    (lo ≤ n ∧ n ≤ hi)))
    {f : Nat → Walk γ} {behind} (hk : ∀ n, n < 256 ^ w → ¬ refused n → WalkRefuses (f n) (behind n)) :
    WalkRefuses (walkWithin w lo hi >>= f) (faultFrom w refused .outOfRange behind) :=
  WalkRefuses.bind (walkWithin_spec w lo hi refused hr).1 (walkWithin_spec w lo hi refused hr).2
    (fun n h => hk n h.1 h.2)

/-- A plain number with what stands behind it. -/
theorem walkNat_refuses_bind {γ} (w : Nat) (res) {f : Nat → Walk γ} {behind} (hk : ∀ n, n < 256 ^ w → WalkRefuses
    (f n) (behind n)) :
    WalkRefuses (walkNat w >>= f) (faultFrom w noneRefused res behind) :=
  WalkRefuses.bind (walkNat_refuses w res) (walkNat_follows w noneRefused) (fun n h => hk n h.1)

/-- A clamped number with what stands behind it (R17). -/
theorem walkClamped_refuses_bind {γ} (w lo hi : Nat) (res) {f : Nat → Walk γ} {behind} (hk : ∀ n, n < 256 ^ w →
    WalkRefuses (f (clamp lo hi n)) (behind n)) :
    WalkRefuses (walkClamped w lo hi >>= f) (faultFrom w noneRefused res behind) := by
  unfold walkClamped; simp only [bind_assoc, pure_bind]
  exact walkNat_refuses_bind w res hk

/-- A flag with what stands behind it. -/
theorem walkFlag_refuses_bind {γ} {f : Bool → Walk γ} {behind} (hk : ∀ n, n < 256 ^ 1 → ¬ 1 < n → WalkRefuses (f
    (decide (n = 1))) (behind n)) :
    WalkRefuses (walkFlag >>= f) (faultFrom 1 (1 < ·) .malformed behind) :=
  WalkRefuses.bind walkFlag_spec.1 walkFlag_spec.2 (fun n h => hk n h.1 h.2)

/-- A link with what stands behind it. -/
theorem walkLink_refuses_bind {γ} {f : Link → Walk γ} {behind} (hk : ∀ l n, WalkRefuses (f l) (behind n)) :
    WalkRefuses (walkLink >>= f) (faultFrom 1 refusedLink .outOfRange behind) :=
  WalkRefuses.bind walkLink_spec.1 walkLink_spec.2 (fun n _ => hk _ n)

/-- A sound part is read and the walk goes on. -/
theorem WalkFollows.bind {α β δ} {w : Walk β} {f : β → Walk δ} {enc : α → List Byte} {sound : α → Prop} {val : α → β}
    (hf : WalkFollows w enc sound val) (x : α) (hx : sound x) (o : Nat) (rest : List Byte) :
    (w >>= f) ⟨o, enc x ++ rest⟩ = f (val x) ⟨o + (enc x).length, rest⟩ := walk_bind_ok (hf x hx o rest)

/-- A number within its bounds is read and the walk goes on. -/
theorem walkWithin_reads {γ} {f : Nat → Walk γ} (w lo hi n o : Nat) (rest) (h : n < 256 ^ w) (h1 : lo ≤ n)
    (h2 : n ≤ hi) :
    (walkWithin w lo hi >>= f) ⟨o, beBytes w n ++ rest⟩ = f n ⟨o + w, rest⟩ := by
  have := walk_bind_ok (f := f) ((walkWithin_spec w lo hi (fun n => ¬ (lo ≤ n ∧ n ≤ hi)) (by intros; rfl)).2 n ⟨h,
    by omega⟩ o rest)
  simpa using this

/-- A number is read and the walk goes on. -/
theorem walkNat_reads {γ} {f : Nat → Walk γ} (w n o : Nat) (rest) (h : n < 256 ^ w) :
    (walkNat w >>= f) ⟨o, beBytes w n ++ rest⟩ = f n ⟨o + w, rest⟩ := walk_bind_ok (walkNat_ok w n o rest h)

/-- A number the walk tests itself, with what stands behind it. -/
theorem walkTested_refuses_bind {β} (w : Nat) (refused : Nat → Prop) (res : Result) {f : Nat → Nat → Walk β} {behind}
    (h : ∀ n, n < 256 ^ w → refused n → ∀ a q, f a n q = .error ⟨res, a⟩)
    (hk : ∀ n, n < 256 ^ w → ¬ refused n → ∀ a, WalkRefuses (f a n) (behind n)) :
    WalkRefuses (walkHere >>= fun a => walkNat w >>= f a) (faultFrom w refused res behind) := by
  rintro bytes k r (⟨rfl, ⟨hl, rfl⟩ | ⟨m, rest, hm, hf, rfl, rfl⟩⟩ | ⟨m, rest, j, ⟨hm, hf⟩, rfl, rfl, hj⟩) o
  · rw [walkHere_bind]; exact walk_bind_error (walkNat_short _ _ _ hl)
  · rw [walkHere_bind, walk_bind_ok (walkNat_ok w m o rest hm), h m hm hf]; rfl
  · rw [walkHere_bind, walk_bind_ok (walkNat_ok w m o rest hm), hk m hm hf _ _ _ _ hj, beBytes_length, Nat.add_assoc]

/-- A number the walk tests itself. -/
theorem walkTested_refuses {β} (w : Nat) (refused : Nat → Prop) (res : Result) {f : Nat → Nat → Walk β}
    (h : ∀ n, n < 256 ^ w → refused n → ∀ a q, f a n q = .error ⟨res, a⟩) :
    WalkRefuses (walkHere >>= fun a => walkNat w >>= f a) (badField w refused res) := by
  rintro bytes k r ⟨rfl, ⟨hl, rfl⟩ | ⟨m, rest, hm, hf, rfl, rfl⟩⟩ o
  · rw [walkHere_bind]; exact walk_bind_error (walkNat_short _ _ _ hl)
  · rw [walkHere_bind, walk_bind_ok (walkNat_ok w m o rest hm), h m hm hf]; rfl

/-- A flag is read and the walk goes on. -/
theorem walkFlag_reads {γ} {f : Bool → Walk γ} (b o) (rest : List Byte) : (walkFlag >>= f) ⟨o,
    flagByte b :: rest⟩ = f b ⟨o + 1, rest⟩ := by
  cases b
  · exact walk_bind_ok (walkFlag_spec.2 0 (by simp) o rest)
  · exact walk_bind_ok (walkFlag_spec.2 1 (by simp) o rest)

/-- Bytes are read and the walk goes on. -/
theorem walkBytes_reads {γ} {f : List Byte → Walk γ} (a o) (rest) (n) (hn : n = List.length a) : (walkBytes n >>=
    f) ⟨o, a ++ rest⟩ = f a ⟨o + n, rest⟩ := by
  subst hn; exact walk_bind_ok (walkBytes_ok a rest o)

/-- A byte is a number of one byte. -/
theorem byte_eq_beBytes (b : Byte) (rest : List Byte) : b :: rest = beBytes 1 b.toNat ++ rest := by simp [beBytes]

/-- A walk that is over gives its value. -/
theorem walk_pure {γ} (x : γ) (p) : (pure x : Walk γ) p = .ok (x, p) := rfl

/-- All a segment can do. -/
theorem walkSegment_spec : WalkRefuses walkSegment badSegment ∧
    WalkFollows walkSegment segmentBytes (fun g => g.startBlock ≤ 255 ∧ within 1 1514 g.len) id := by
  constructor
  · unfold walkSegment badSegment
    refine walkNat_refuses_bind 1 _ fun b _ => ?_
    refine walkWithin_refuses_bind 2 1 1514 _ (by intros; rfl) fun n _ _ => ?_
    exact walkFlag_spec.1.map _
  · rintro ⟨b, n, e⟩ ⟨h1, h2, h3⟩ o rest
    simp only at h1 h2 h3
    unfold walkSegment segmentBytes
    simp only [List.append_assoc]
    rw [walkNat_reads 1 _ _ _ (by omega), walkWithin_reads 2 1 1514 _ _ _ (by omega) h2 h3]
    simp only [List.cons_append, List.nil_append]
    rw [walkFlag_reads, walk_pure]; simp

/-- All a checksum spec can do. -/
theorem walkChecksum_spec : WalkRefuses walkChecksum badChecksum ∧
    WalkFollows walkChecksum checksumBytes (fun c => c.spanStart ≤ 1513 ∧ (∀ e ∈ c.spanEnd, within 1 1514 e)
      ∧ c.fieldOffset ≤ 1512) id := by
  have hd : DecidablePred (fun n => n = 0 ∨ within 1515 0xFFFE n) := fun n => by unfold within; infer_instance
  constructor
  · unfold walkChecksum badChecksum
    refine walkWithin_refuses_bind 2 0 1513 _ (by intro n _; constructor <;> intro h <;> omega) fun n _ _ => ?_
    refine walkTested_refuses_bind 2 _ _ ?_ fun n _ hn a => ?_
    · intro n _ hn a q; unfold within at hn; rw [if_pos hn]; rfl
    · unfold within at hn; rw [if_neg hn]
      refine walkWithin_refuses_bind 2 0 1512 _ (by intro n _; constructor <;> intro h <;> omega) fun n _ _ => ?_
      refine walkNat_refuses_bind 2 _ fun b _ => ?_
      exact walkFlag_spec.1.map _
  · rintro ⟨a, e, f, b, z⟩ ⟨h1, h2, h3⟩ o rest
    simp only at h1 h2 h3
    unfold walkChecksum checksumBytes
    simp only [List.append_assoc]
    rw [walkWithin_reads 2 0 1513 _ _ _ (by omega) (by omega) h1, walkHere_bind]
    have hb : b.toNat < 256 ^ 2 := by have := b.isLt; omega
    cases e with
    | none =>
      simp only [Option.getD_none]
      rw [walkNat_reads 2 _ _ _ (by omega), if_neg (by omega), walkWithin_reads 2 0 1512 _ _ _ (by omega)
        (by omega) h3, walkNat_reads 2 _ _ _ hb]
      simp only [List.cons_append, List.nil_append]
      rw [walkFlag_reads, walk_pure]; simp
    | some e =>
      have := h2 e rfl
      unfold within at this
      simp only [Option.getD_some]
      rw [walkNat_reads 2 _ _ _ (by omega), if_neg (by omega), walkWithin_reads 2 0 1512 _ _ _ (by omega)
        (by omega) h3, walkNat_reads 2 _ _ _ hb]
      simp only [List.cons_append, List.nil_append]
      rw [walkFlag_reads, walk_pure, if_neg (by omega)]; simp

/-- All a substitution can do. -/
theorem walkSubst_spec (rx : Bool) : WalkRefuses (walkSubst rx) (badSubst rx) ∧
    WalkFollows (walkSubst rx) substBytes (fun u => u.offset ≤ 1513 ∧ within 1 16 u.len ∧ u.source.inRange rx)
      id := by
  constructor
  · unfold walkSubst badSubst
    refine walkWithin_refuses_bind 2 0 1513 _ (by intro n _; constructor <;> intro h <;> omega) fun n _ _ => ?_
    refine walkWithin_refuses_bind 1 1 16 _ (by intros; rfl) fun m _ _ => ?_
    rintro bytes k r (h | ⟨rfl, h⟩ | h | ⟨code, rest, j, ⟨h8, h0⟩, rfl, rfl, h⟩)
    · revert h; revert bytes k r
      refine walkTested_refuses 1 _ _ ?_
      intro n _ hn a q; rw [if_pos hn]; rfl
    · revert h; revert bytes k r
      refine walkTested_refuses 1 _ _ ?_
      rintro n _ rfl a q; rw [if_neg (by omega), if_pos (by simp)]; rfl
    · exact h.elim
    · intro o
      rw [walkHere_bind, walk_bind_ok (walkNat_ok 1 code o rest (by omega))]
      rw [if_neg (by omega), if_neg (by rintro ⟨rfl, hr⟩; simp [h0 rfl] at hr)]
      rw [beBytes_length, ← Nat.add_assoc]
      generalize o + 1 = o'
      revert h; revert rest j r
      intro r rest j h
      by_cases hc0 : code = 0
      · subst hc0; simp only [if_true] at h
        refine walkTested_refuses 2 _ _ ?_ _ _ _ h o'
        intro n _ hn a q; simp only; rw [if_pos hn]; rfl
      · rw [if_neg hc0] at h
        by_cases hc6 : code = 6
        · subst hc6; simp only [if_true] at h
          refine walkTested_refuses 2 _ _ ?_ _ _ _ h o'
          intro n _ hn a q; simp only; rw [if_pos hn]; rfl
        · rw [if_neg hc6] at h
          refine walkTested_refuses 2 _ _ ?_ _ _ _ h o'
          intro n _ hn a q
          have hn' : n ≠ 0 := by omega
          interval_cases code <;> first
            | (exact absurd rfl hc0)
            | (exact absurd rfl hc6)
            | (simp only [hn', ne_eq, not_false_eq_true, if_true]; rfl)
  · rintro ⟨a, l, src⟩ ⟨h1, h2, h3⟩ o rest
    simp only at h1 h2 h3
    unfold within at h2
    unfold walkSubst substBytes
    simp only [List.append_assoc]
    rw [walkWithin_reads 2 0 1513 _ _ _ (by omega) (by omega) h1, walkWithin_reads 1 1 16 _ _ _ (by omega)
      h2.1 h2.2, walkHere_bind]
    have hz : ∀ n, n < 256 ^ 2 → ∀ rest o, walkNat 2 ⟨o, beBytes 2 n ++ rest⟩ = .ok (n, ⟨o+2, rest⟩) :=
      fun n h rest o => walkNat_ok 2 n o rest h
    cases src with
    | rx q =>
      obtain ⟨h4, h5⟩ := h3
      simp only [sourceBytes, List.cons_append]
      rw [byte_eq_beBytes, walkNat_reads 1 _ _ _ (by decide)]
      rw [if_neg (by decide), if_neg (by simp [h4]), walkHere_bind, walkNat_reads 2 _ _ _ (by omega)]
      simp only [show (0 : Byte).toNat = 0 from rfl]
      rw [if_neg (by omega), walk_pure]; simp
    | capture q =>
      unfold Source.inRange at h3
      simp only [sourceBytes, List.cons_append]
      rw [byte_eq_beBytes, walkNat_reads 1 _ _ _ (by decide)]
      rw [if_neg (by decide), if_neg (by simp), walkHere_bind, walkNat_reads 2 _ _ _ (by omega)]
      simp only [show (6 : Byte).toNat = 6 from rfl]
      rw [if_neg (by omega), walk_pure]; simp
    | _ =>
      simp only [sourceBytes, List.cons_append]
      rw [byte_eq_beBytes, walkNat_reads 1 _ _ _ (by decide)]
      rw [if_neg (by decide), if_neg (by simp), walkHere_bind, walkNat_reads 2 _ _ _ (by omega)]
      simp only [BitVec.toNat_ofNat, BitVec.ofNat_eq_ofNat, Nat.reducePow, Nat.reduceMod]
      simp [walk_pure]

/-- A code byte is read and the walk goes on. -/
theorem WalkFollows.cons {γ} (o : Nat) (b : Byte) (rest : List Byte) (f : Nat → Walk γ) (h : Nat) (hh : b.toNat = h) :
    (walkNat 1 >>= f) ⟨o, b :: rest⟩ = f h ⟨o + 1, rest⟩ := by
  rw [byte_eq_beBytes, walkNat_reads 1 _ _ _ (by have := b.isLt; omega), hh]

/-- All a probe can do. -/
theorem walkProbe_spec (ca : Bool) : WalkRefuses (walkProbe ca) (badProbe ca) ∧
    WalkFollows (walkProbe ca) probeBytes (Probe.inRange ca) id := by
  constructor
  · unfold walkProbe badProbe
    refine walkWithin_refuses_bind 2 0 1517 _ (by intro n _; constructor <;> intro h <;> omega) fun n _ _ => ?_
    rintro bytes k r (h | ⟨len, rest, hw, rfl, rfl, h⟩) o
    · rw [walkHere_bind]
      revert o; revert h; revert bytes k r
      suffices H : ∀ la, WalkRefuses (walkWithin 1 1 16 >>= fun len => (walkHere >>= fun formAt => walkNat 1 >>=
        fun form =>
          if form = 0 then (do
            let value ← walkBytes len
            let mask ← walkBytes len
            return Probe.masked n (value.zip mask))
          else if form = 1 then
            if len > 4 then walkFail .outOfRange la
            else if ca then return .equalsCounter n len
            else walkFail .outOfRange formAt
          else walkFail .malformed formAt)) (faultFrom 1 (fun n => ¬ within 1 16 n) .outOfRange fun len =>
            faultFrom 1 (1 < ·) .malformed fun form bytes o r => form = 0 ∧
              (faultIn id (fun value => value.length = len) (badField len noneRefused .malformed) fun _ =>
                badField len noneRefused .malformed) bytes o r) by
        intro bytes k r h o; exact H o bytes k r h o
      intro la
      refine walkWithin_refuses_bind 1 1 16 _ (by intros; rfl) fun m _ _ => ?_
      refine walkTested_refuses_bind 1 _ _ ?_ fun form _ hf a => ?_
      · intro n _ hn a q; rw [if_neg (by omega), if_neg (by omega)]; rfl
      · rintro bytes k r ⟨rfl, h⟩
        rw [if_pos rfl]
        revert h; revert bytes k r
        refine WalkRefuses.bind (walkBytes_refuses _ _) (walkBytes_follows _) fun v hv => ?_
        exact (walkBytes_refuses _ _).map _
    · have := hw.2
      rw [walkHere_bind, walkWithin_reads 1 1 16 _ _ _ (by omega) hw.1 hw.2, walkHere_bind,
        WalkFollows.cons _ _ _ _ 1 rfl]
      rw [if_neg (by omega), if_pos rfl]
      rcases h with ⟨h, rfl⟩ | ⟨h, rfl, rfl⟩
      · rw [if_pos h]; rfl
      · rw [if_neg (by omega)]; rfl
  · rintro p hp o rest
    unfold walkProbe
    cases p with
    | masked offset vm =>
      obtain ⟨h1, h2, h3⟩ := hp
      simp only [probeBytes, List.append_assoc]
      rw [walkWithin_reads 2 0 1517 _ _ _ (by omega) (by omega) h1, walkHere_bind, walkWithin_reads 1 1 16 _ _ _
        (by omega) h2 h3, walkHere_bind]
      simp only [List.cons_append, List.nil_append]
      rw [WalkFollows.cons _ _ _ _ 0 rfl, if_pos rfl, walkBytes_reads _ _ _ _ (by simp), walkBytes_reads _ _ _ _
        (by simp), walk_pure]
      have : (vm.map Prod.fst).zip (vm.map Prod.snd) = vm := by
        rw [List.zip_map']; simp
      rw [this]; simp; omega
    | equalsCounter offset len =>
      obtain ⟨h0, h1, h2, h3⟩ := hp
      simp only [probeBytes, List.append_assoc]
      rw [walkWithin_reads 2 0 1517 _ _ _ (by omega) (by omega) h1, walkHere_bind, walkWithin_reads 1 1 16 _ _ _
        (by omega) h2 (by omega), walkHere_bind]
      simp only [List.cons_append, List.nil_append]
      rw [WalkFollows.cons _ _ _ _ 1 rfl, if_neg (by omega), if_pos rfl, if_neg (by omega), if_pos h0, walk_pure]
      simp

/-- All a descriptor can do. -/
theorem walkDescriptor_spec (ca : Bool) : WalkRefuses (walkDescriptor ca) (badDescriptor ca) ∧
    WalkFollows (walkDescriptor ca) descriptorBytes (Descriptor.inRange ca) id := by
  have := walkList_spec (walkProbe ca) probeBytes (Probe.inRange ca) (badProbe ca) 1 4 (by omega)
    (walkProbe_spec ca).1 (walkProbe_spec ca).2
  exact ⟨this.1, this.2⟩

/-- All a template can do. -/
theorem walkTemplate_spec (rx : Bool) : WalkRefuses (walkTemplate rx) (badTemplate rx) ∧
    WalkFollows (walkTemplate rx) templateBytes (Template.inRange rx) id := by
  have hs := walkList_spec walkSegment segmentBytes _ badSegment 1 8 (by omega) walkSegment_spec.1 walkSegment_spec.2
  have hu := walkList_spec (walkSubst rx) substBytes _ (badSubst rx) 0 6 (by omega) (walkSubst_spec rx).1
    (walkSubst_spec rx).2
  have hc := walkList_spec walkChecksum checksumBytes _ badChecksum 0 2 (by omega)
    walkChecksum_spec.1 walkChecksum_spec.2
  have e : walkTemplate rx = walkWithin 2 14 1514 >>= fun totalLen =>
      (walkWithin 1 1 8 >>= fun n => walkTimes walkSegment n) >>= fun segments =>
      (walkWithin 1 0 6 >>= fun n => walkTimes (walkSubst rx) n) >>= fun substs =>
      (walkWithin 1 0 2 >>= fun n => walkTimes walkChecksum n) >>= fun checksums =>
      pure { totalLen, segments, substs, checksums } := by
    simp only [bind_assoc]; rfl
  rw [e]
  constructor
  · unfold badTemplate
    refine walkWithin_refuses_bind 2 14 1514 _ (by intros; rfl) fun n _ _ => ?_
    refine WalkRefuses.bind hs.1 (fun l h => hs.2 l h) fun l _ => ?_
    refine WalkRefuses.bind hu.1 (fun l h => hu.2 l ⟨⟨Nat.zero_le _, h.1⟩, h.2⟩) fun l _ => ?_
    exact hc.1.map _
  · rintro ⟨n, segs, subs, chks⟩ ⟨⟨h1, h1'⟩, h2, h3, h4, h5, h6, h7⟩ o rest
    simp only at h1 h1' h2 h3 h4 h5 h6 h7
    have r1 := fun (o : Nat) (rest : List Byte) => hs.2 segs ⟨h2, h5⟩ o rest
    have r2 := fun (o : Nat) (rest : List Byte) => hu.2 subs ⟨⟨Nat.zero_le _, h3⟩, h6⟩ o rest
    have r3 := fun (o : Nat) (rest : List Byte) => hc.2 chks ⟨⟨Nat.zero_le _, h4⟩, h7⟩ o rest
    unfold listBytes at r1 r2 r3
    simp only [List.append_assoc] at r1 r2 r3
    unfold templateBytes
    simp only [List.append_assoc]
    rw [walkWithin_reads 2 14 1514 _ _ _ (by omega) h1 h1', walk_bind_ok (r1 _ _), walk_bind_ok (r2 _ _),
      walk_bind_ok (r3 _ _), walk_pure]
    simp; omega

end Sys2Proof.Machine
end

