-- ==== Sys2Proof/Tests/Slice0.lean ====
section
/-! SUPPORT. The model's own tests: the well-formedness smoke tests, one-step tests of the commands with results worked out
from the manual, and the witnesses of the statements' hypotheses. -/

namespace Sys2Proof.Tests

set_option Elab.async false

open Sys2Proof.Machine

/-! ## Small states -/

/-- Bytes from numbers. -/
def by' (l : List Nat) : List Byte := l.map (BitVec.ofNat 8)

/-- What a command leaves passes a test. -/
def after (c : Instr) (s : State) (test : State → Bool) : Bool :=
  match exec c s with
  | .next t => test t
  | .fault _ | .refused _ => false

/-- A template of 14 bytes, pool bytes 0 to 13. -/
def tpl : Template := { totalLen := 14, segments := [⟨0, 14, true⟩], substs := [], checksums := [] }

/-- A template with a claim address, a checksum over its 14 bytes and one-complement zero. -/
def tplSum : Template :=
  { totalLen := 14, segments := [⟨0, 8, false⟩, ⟨1, 6, true⟩], substs := [⟨4, 4, .claimAddr⟩],
    checksums := [⟨0, none, 12, 0x11, true⟩] }

/-- A descriptor that asks for byte 12. -/
def wants (b : Nat) : Descriptor := [.masked 12 [(BitVec.ofNat 8 b, 0xFF)]]

def claim : Claim :=
  Claim.fresh
    { address := by' [9], assertion := wants 8, assertionOffset := 14, probeTemplate := some tpl,
      announceTemplate := some tplSum, probeCount := 3, probeSpacing := 16, defenceWindow := 160, exchangeLink := none }

def responder : Responder :=
  Responder.fresh { descriptor := wants 7, answerTemplate := tpl, claimLink := none, cls := .courtesy }

def filter : Filter := Filter.fresh { descriptor := wants 6, action := .rouse }

def stream : Stream :=
  Stream.fresh
    { inbound := wants 5, outbound := wants 4, seqOffset := 14, ackOffset := 18, headerLen := 22,
      closeProbe := some (.masked 13 [(1, 1)]), tracking := true, probeTemplate := tpl, replyTemplate := tpl,
      period := 480, retrySpacing := 16, missLimit := 3, claimLink := none }
    (some (0x1000, 0xFFFFFFF0))

def exchange : Exchange :=
  Exchange.fresh
    { requestTemplate := tpl, reply := [.masked 12 [(3, 0xFF)], .equalsCounter 13 1], decline := some (wants 2),
      captureSpecs := [⟨14, 4⟩], firstDelay := 16, schedule := .captured 0 128 160 (2 ^ 30), replyTimeout := 32,
      retryLimit := 2, claimLink := none }
    #v[0, 0, 0, 0] 0x44

/-- The part in HOME with the link up, a station address, and one record in slot 0. -/
def home (r : Option Record) : State :=
  { State.reset with
    pins := ⟨true, true⟩
    tx := { State.reset.tx with linkUp := true }
    table := { slots := (Vector.replicate 128 none).set 0 r, counts := ({ claims := 0, streams := 0, exchanges := 0 } :
      KindCounts), stationAddr := 0x020000000001 } }

/-- The same part lent, at part time 1,000. -/
def lent (r : Option Record) : State :=
  { home r with
    custody := { State.reset.custody with state := .proxy }
    clk := { State.reset.clk with partTime := 1000 } }

/-- A frame with byte 12 and the bytes behind it. -/
def frame (l : List Nat) : Frame := Frame.made (by' (List.replicate 12 1 ++ l))

/-- A part with one good frame to take. -/
def staged (s : State) (f : Frame) : State := s.setRx { s.rx with staged := [f] }

/-! ## Well-formed commands: what each check refuses -/

theorem test_wf_longPayload : (Instr.putSlot .system (List.replicate 1025 0)).wellFormed = false := by decide +kernel
theorem test_wf_longestPayload : (Instr.putSlot .system (List.replicate 1024 0)).wellFormed = true := by decide +kernel
theorem test_wf_emptyPoll : (Instr.poll 0).wellFormed = false := by decide
theorem test_wf_emptyRead : (Instr.responseRead .platform 0).wellFormed = false := by decide
theorem test_wf_knownRequest : (Instr.unknownRequest .system [0x0B, 0, 0]).wellFormed = false := by decide
theorem test_wf_unknownCode : (Instr.unknownRequest .system [0x14, 0, 0]).wellFormed = true := by decide

/-! ## Functions of the manual -/

/-- The CRC of "123456789", the usual check value of R40's CRC-32. -/
theorem test_crc_check : crc32 (by' [0x31, 0x32, 0x33, 0x34, 0x35, 0x36, 0x37, 0x38, 0x39]) = 0xCBF43926 := by
  decide +kernel

/-- The worked case of a checksum over an odd span (section 2.5). -/
theorem test_checksum_oddSpan :
    checksumOf (by' [0x45, 0, 0, 0x1C, 0xAB, 0xCD, 0, 0, 0xC0, 0xA8, 1, 5, 0x7F]) 0x0A0B false = 0xC45C := by
  decide +kernel

/-- The worked case of a second checksum that covers the first (section 2.5). -/
theorem test_checksum_second :
    ([⟨0, some 6, 2, 0, false⟩, ⟨0, none, 6, 0x11, false⟩] : List ChecksumSpec).foldl (applyChecksum 14)
      (by' [0, 1, 0, 0, 0x10, 0x20, 0, 0, 0x30, 0x40, 0x50, 0x60, 0x70, 0x80]) =
      by' [0, 1, 0xEF, 0xDE, 0x10, 0x20, 0x0E, 0xCE, 0x30, 0x40, 0x50, 0x60, 0x70, 0x80] := by decide +kernel

/-- A build with pool bytes 0xAA at 0 and 0xBB at 64, a claim address of one byte and the station address 02 … over it: the
substitution listed later wins, the sum 0x16E13 folds to 0x6E14, and zero bytes follow up to 60 (R30, R35 to R37, R39). -/
theorem test_build_bytes :
    buildFrame
      { pool := [(0, 0xAA), (64, 0xBB)], stationAddr := 0x020000000001, now := 0, owner := .claim claim
        claimAddress := [9], received := [] }
      { tplSum with substs := [⟨4, 4, .claimAddr⟩, ⟨5, 2, .stationAddr⟩] } =
      by' [0xAA, 0, 0, 0, 9, 2, 0, 0, 0xBB, 0, 0, 0, 0x91, 0xEB] ++ List.replicate 46 0 := by decide +kernel

/-- The worked case of the sequence tests across the wrap (section 7.2). -/
theorem test_sequence_wrap :
    ([(0xFFFFFFEF, 0x1000), (0xFFFFFFF0, 0x1000), (0xFFFFFFF0, 0x1001), (0xFFFFFFF0, 0xFFF), (0x10, 0),
      (0x7FFFFFF0, 0), (0xFFFFFFEE, 0)] : List (SeqValue × SeqValue)).map
        (fun p => seqTests 0x1000 0xFFFFFFF0 p.1 p.2) =
      [.keepAlive, .acknowledgement, .data, .stale, .data, .stale, .stale] := by decide +kernel

/-- The worked case of a renewal time: 3,600 seconds, half of it, is 28,800 ticks (section 8.3). -/
theorem test_capturedDelay : capturedDelay 3600 128 160 (2 ^ 30) = 28800 := by decide +kernel

/-! ## One step of each command -/

/-- An image that clamps (R17): a CLAIM with probe count 9 and probe spacing 0 is stored with 7 and 1. -/
theorem test_putSlot_clamps :
    after (.putSlot .system (by' ([0, 1, 1, 9, 1, 0, 12, 1, 0, 8, 0xFF, 0, 14, 0, 0, 9, 0, 0, 0, 0, 0, 0, 0, 160, 0xFF])))
      (home none) (fun t => decide ((t.claimAt 0).map (fun c => (c.cfg.probeCount, c.cfg.probeSpacing, c.cfg.defenceWindow)) =
        some (7, 1, 160)) && decide (t.table.counts.claims = 1)) = true := by decide +kernel

theorem test_getSlot_empty :
    after (.getSlot .platform [127]) State.reset
      (fun t => decide (t.ports.plat.slot = .ready { result := .done, payload := [127, 0] })) = true := by decide +kernel

theorem test_clearSlot_clears :
    after (.clearSlot .system [0]) (home (some (.filter filter))) (fun t => decide (t.slot 0 = none)) = true := by
  decide +kernel

theorem test_poolWrite_lastByte :
    after (.poolWrite .system (by' [0x3F, 0xFF, 0xAB])) State.reset (fun t => decide (t.pool = [(16383, 0xAB)])) = true := by
  decide +kernel

theorem test_poolRead_pastEnd :
    after (.poolRead .system (by' [0x3F, 0xFF, 0, 2])) State.reset
      (fun t => decide (t.ports.sys.slot = .ready { result := .outOfRange, payload := [] })) = true := by decide +kernel

theorem test_lend_checks :
    after (.lend .system []) State.reset
      (fun t => decide (t.custody.state = .checking) && decide (t.ports.sys.slot = .working)) = true := by decide +kernel

theorem test_reclaim_home :
    after (.reclaim .system []) (lent (some (.claim claim)))
      (fun t => decide (t.custody.state = .home) && decide (t.ports.sys.slot = .ready { result := .accepted, payload := [] })) =
      true := by decide +kernel

theorem test_recall_discard :
    after (.recall .platform [1]) (lent (some (.claim claim))) (fun t => decide (t.custody.state = .home)) = true := by
  decide +kernel

theorem test_setPolicy_highMark :
    after (.setPolicy .system (by' [8, 0, 0, 20])) State.reset
      (fun t => decide (t.policy.highMark = 20) && decide (t.policy.lowMark = 20)) = true := by decide +kernel

theorem test_getPolicy_rouse :
    after (.getPolicy .platform [2, 7]) State.reset
      (fun t => decide (t.ports.plat.slot = .ready { result := .done, payload := [1] })) = true := by decide +kernel

theorem test_readStatus_length :
    after (.readStatus .platform []) State.reset
      (fun t => match t.ports.plat.slot with | .ready r => decide (r.payload.length = 58) | _ => false) = true := by
  decide +kernel

theorem test_readReport_length :
    after (.readReport .platform []) State.reset
      (fun t => match t.ports.plat.slot with | .ready r => decide (r.payload.length = 45) | _ => false) = true := by
  decide +kernel

theorem test_readChanges_empty :
    after (.readChanges .system [0]) State.reset
      (fun t => decide (t.ports.sys.slot = .ready { result := .done, payload := by' [0, 0, 0, 0, 0] })) = true := by
  decide +kernel

theorem test_takeSample_empty :
    after (.takeSample .platform (by' [0, 0, 0, 1])) State.reset
      (fun t => decide (t.ports.plat.slot = .ready { result := .done, payload := List.replicate 11 0 })) = true := by
  decide +kernel

theorem test_releaseSample_system :
    after (.releaseSample .system []) State.reset
      (fun t => decide (t.ports.sys.slot = .ready { result := .notPermitted, payload := [] })) = true := by decide +kernel

theorem test_storeRead_part :
    after (.storeRead .platform [0]) State.reset
      (fun t => match t.ports.plat.slot with | .ready r => decide (r.payload.take 2 = by' [0x61, 0x20]) | _ => false) =
      true := by decide +kernel

theorem test_storeErase_locked :
    after (.storeErase .system [1]) State.reset
      (fun t => decide (t.ports.sys.slot = .ready { result := .locked, payload := [] })) = true := by decide +kernel

theorem test_storeProgram_page7 :
    after (.storeProgram .system (7 :: List.replicate 256 5)) State.reset
      (fun t => decide (t.store.op = some (.program 7 (List.replicate 256 5)))) = true := by decide +kernel

theorem test_softReset_platform :
    after (.softReset .platform []) State.reset
      (fun t => decide (t.ports.plat.slot = .ready { result := .notPermitted, payload := [] })) = true := by decide +kernel

theorem test_poll_empty :
    after (.poll 4) State.reset (fun t => decide (t.ports.sys.out = by' [2, 0, 0, 0xFF])) = true := by decide +kernel

theorem test_unknownRequest :
    after (.unknownRequest .platform [0x14, 0, 0]) State.reset
      (fun t => decide (t.ports.plat.slot = .ready { result := .malformed, payload := [] })) = true := by decide +kernel

theorem test_responseRead_working :
    after (.responseRead .system 3) (State.reset.working .system)
      (fun t => decide (t.ports.sys.out = by' [2, 0, 0])) = true := by decide +kernel

theorem test_lendCheck_noStation :
    after .lendCheckStep (State.reset.setCustody ⟨.checking, some .station, false, false⟩)
      (fun t => decide (t.custody.state = .home) &&
        decide (t.ports.sys.slot = .ready { result := .checkFailed, payload := by' [0xFF, 7] })) = true := by decide +kernel

theorem test_powerOn_holds :
    after .powerOn State.reset (fun t => decide (t.clk.power = .resetHeld)) = true := by decide +kernel

theorem test_rstN_zeroesTime :
    after .rstN (lent none) (fun t => decide (t.clk.partTime = 0) && decide (t.custody.state = .home)) = true := by
  decide +kernel

theorem test_resetRelease_runs :
    after .resetRelease (State.reset.setClk { State.reset.clk with power := .resetHeld })
      (fun t => decide (t = State.reset)) = true := by decide +kernel

theorem test_powerLoss_stops :
    after .powerLoss State.reset (fun t => decide (t.clk.power = .off)) = true := by decide +kernel

/-- A store with the validity word and an erased stream: the load ends without a fault (R189). -/
def loading : State :=
  State.reset.setStore
    { State.reset.store with
      cells := [(0, 0x61), (1, 0x20), (512, 0xC3), (513, 0xA5)], load := some { position := 0, answers := false } }

theorem test_profileRecord_ends :
    after .profileRecord loading (fun t => decide (t.store.load = none) && decide (t.store.fault = false)) = true := by
  decide +kernel

def erasing : State := State.reset.setStore { loading.store with op := some (.erase 2), load := none }

theorem test_storeEraseDone :
    after .storeEraseDone erasing (fun t => decide (t.store.cells = [(0, 0x61), (1, 0x20)]) &&
      decide (t.ports.sys.slot = .ready { result := .done, payload := [] })) = true := by decide +kernel

def programming : State :=
  State.reset.setStore { State.reset.store with op := some (.program 7 (List.replicate 255 0xFF ++ [5])) }

theorem test_storeProgramDone :
    after .storeProgramDone programming
      (fun t => decide (t.storeByte 1792 = 0xFF) && decide (t.storeByte 2047 = 5)) =
      true := by decide +kernel

theorem test_lineFrameStart_room :
    after .lineFrameStart State.reset (fun t => decide (t.rx.arriving = [.staged])) = true := by decide +kernel

theorem test_lineFrameArrival_badFcs :
    after (.lineFrameArrival (frame [8, 0]).bytes 0) (State.reset.setRx { State.reset.rx with arriving := [.staged] })
      (fun t => decide (t.counters.framesBad = 1) && decide (t.rx.staged = [])) = true := by decide +kernel

/-- A conflict in PROXY for a HELD claim (R85). -/
theorem test_frameTaking_defends :
    after .frameTaking (staged (lent (some (.claim claim))) (frame [8, 0, 9]))
      (fun t => decide ((t.claimAt 0).map (fun c => (c.state, c.timer, c.conflictsSeen)) =
          some (.contested, some (.defenceWindow 1160), 1)) &&
        decide (t.tx.own = [.claim 0 .announcement]) && decide (t.custody.state = .proxy)) = true := by decide +kernel

/-- A stream's data rouses (R116, R77). -/
theorem test_frameTaking_data :
    after .frameTaking
      (staged (lent (some (.stream stream))) (frame ([5, 0, 0xFF, 0xFF, 0xFF, 0xF0, 0, 0, 0x10, 1])))
      (fun t => decide (t.custody.state = .roused) && decide (t.held.entries.length = 1) &&
        decide (t.cond.report.roused = true)) = true := by decide +kernel

theorem test_stationFrameStart_room :
    after .stationFrameStart (home none) (fun t => decide (t.stn.arriving = [.staged])) = true := by decide +kernel

/-- A takeover ends the stream (R124). -/
theorem test_stationFrameTaking_takeover :
    after (.stationFrameTaking (frame [4, 0]).bytes (frame [4, 0]).fcs)
      ((lent (some (.stream stream))).setStn { State.reset.stn with arriving := [.staged] })
      (fun t => decide ((t.streamAt 0).map Stream.state = some .ended) && decide (t.stn.buffer = [frame [4, 0]]) &&
        decide (t.cond.changes = [⟨0, 0x11⟩])) = true := by decide +kernel

/-- A part with an exchange's request queued. -/
def requesting : State :=
  let s := lent (some (.exchange { exchange with state := .queued }))
  s.setTx { s.tx with own := [.exchange 0] }

theorem test_grant_request :
    after .grant requesting
      (fun t => decide ((t.exchangeAt 0).map (fun x => (x.state, x.sendCounter)) = some (.awaiting, 0x45)) &&
        decide (t.tx.own = []) && t.tx.carriesOwn) = true := by decide +kernel

/-- A part whose request is on the transmitter. -/
def carrying : State :=
  let s := lent (some (.exchange { exchange with state := .awaiting }))
  s.setTx { s.tx with carried := some (.own (.exchange 0) (frame [0, 0])) }

theorem test_transmitComplete_replyWait :
    after .transmitComplete carrying
      (fun t => decide ((t.exchangeAt 0).map (fun x => (x.timer, x.nextDue, x.sends)) =
        some (some .replyWait, 1032, 1)) && t.tx.carried.isNone) = true := by decide +kernel

theorem test_linkDrop_reprobes :
    after .lineLinkDrop (lent (some (.claim claim)))
      (fun t => decide ((t.claimAt 0).map Claim.reprobePending = some true) && decide (t.tx.linkUp = false)) = true := by
  decide +kernel

/-- The part with the link down and the claim marked for reprobing. -/
def unlinked : State :=
  let s := lent (some (.claim { claim with reprobePending := true }))
  (s.setPins ⟨false, true⟩).setTx { s.tx with linkUp := false }

/-- The return re-probes the claim and grants its probe in the same taking (R92, R160). -/
theorem test_linkReturn_probes :
    after .lineLinkReturn unlinked
      (fun t => decide ((t.claimAt 0).map (fun c => (c.state, c.probesRemaining)) = some (.probing, 3)) &&
        decide (t.tx.own = []) && t.tx.carriesOwn && decide (t.cond.changes = [⟨0, 0x01⟩])) = true := by decide +kernel

theorem test_stnRdy_fall :
    after (.stnRdyChange false) ((home none).setStn { State.reset.stn with waiting := some (frame [0, 0]) })
      (fun t => t.stn.waiting.isNone) = true := by decide +kernel

/-- DRAIN with one held frame on its way. -/
def draining : State :=
  let s := home none
  ((s.setCustody ⟨.drain, none, false, true⟩).setHeld ⟨[⟨frame [0, 0], none⟩], true⟩).setStn
    { s.stn with delivering := some (.heldHead (frame [0, 0])) }

theorem test_deliveryEnd_home :
    after .deliveryEnd draining
      (fun t => decide (t.custody = ⟨.home, none, false, false⟩) && decide (t.held = ⟨[], false⟩)) = true := by decide +kernel

theorem test_tick_wraps :
    after .tick (State.reset.setClk { State.reset.clk with partTime := 0xFFFFFFFF })
      (fun t => decide (t.clk.partTime = 0)) = true := by decide +kernel

theorem test_dueItemPlacement :
    after .dueItemPlacement (lent (some (.claim { claim with dueItem := some .announcement })))
      (fun t => decide (t.tx.own = [.claim 0 .announcement]) && decide (t.slot 0 = some (.claim claim))) = true := by
  decide +kernel

/-- A PROBING claim whose probe spacing ends at part time 1,000. -/
def probing (n : Nat) : State :=
  lent (some (.claim { claim with state := .probing, probesRemaining := n, timer := some (.probeSpacing 1000) }))

theorem test_probeSpacing_last :
    after (.probeSpacingExpiry 0) (probing 0) (fun t => decide ((t.claimAt 0).map Claim.state = some .held)) = true := by
  decide +kernel

theorem test_defenceWindow_early :
    after (.defenceWindowExpiry 0)
      (lent (some (.claim { claim with state := .contested, timer := some (.defenceWindow 1001) })))
      (fun t => decide ((t.claimAt 0).map Claim.state = some .contested)) = true := by decide +kernel

/-- A stream whose timer ends at part time 1,000. -/
def streamDueNow (st : StreamState) (k : StreamTimer) (misses : Nat) : State :=
  lent (some (.stream { stream with state := st, timer := some k, nextDue := 1000, misses }))

theorem test_period_due :
    after (.streamPeriodExpiry 0) (streamDueNow .idle .period 0)
      (fun t => decide ((t.streamAt 0).map Stream.state = some .probeDue) && decide (t.tx.own = [.stream 0])) = true := by
  decide +kernel

theorem test_retry_silent :
    after (.retrySpacingExpiry 0) (streamDueNow .outstanding .retrySpacing 2)
      (fun t => decide ((t.streamAt 0).map Stream.state = some .ended) && decide (t.custody.state = .roused)) = true := by
  decide +kernel

/-- An exchange whose timer ends at part time 1,000. -/
def exchangeDueNow (st : ExchangeState) (k : ExchangeTimer) (attempts : Nat) : State :=
  lent (some (.exchange { exchange with state := st, timer := some k, nextDue := 1000, attempts }))

theorem test_nextDue_queues :
    after (.exchangeNextDue 0) (exchangeDueNow .waiting .nextDue 0)
      (fun t => decide ((t.exchangeAt 0).map Exchange.state = some .queued)) = true := by decide +kernel

theorem test_replyWait_halts :
    after (.replyWaitExpiry 0) (exchangeDueNow .awaiting .replyWait 2)
      (fun t => decide ((t.exchangeAt 0).map (fun x => (x.state, x.haltReason)) = some (.halted, some .failed))) = true := by
  decide +kernel

/-- The guard at a window's end with a demand above the high mark and a run of 1. -/
def storm : State :=
  (lent none).setGuard { state := .normal, demand := 201, run := 1, windowEnd := some 1000 }

theorem test_floodWindow_floods :
    after .floodWindowEnd storm
      (fun t => decide (t.guard = { state := .flooded, demand := 0, run := 0, windowEnd := some 1004 })) = true := by
  decide +kernel

/-- A quiet part with three quiet ticks counted. -/
def quiet : State :=
  let s := lent none
  (s.setPolicy { s.policy with dozeEnable := true }).setClk { s.clk with quietTicks := 3 }

theorem test_tick_fourthQuiet :
    after .tick quiet (fun t => decide (t.clk.state = .doze) && decide (t.clk.wakeDue = none)) = true := by decide +kernel

theorem test_dozeEntry :
    after .dozeEntry (quiet.setClk { quiet.clk with quietTicks := 4 }) (fun t => decide (t.clk.state = .doze)) = true := by
  decide +kernel

/-- A dozing part. -/
def dozing : State := quiet.setClk { quiet.clk with state := .doze, quietTicks := 4, wakeDue := some 1001 }

/-- A bad station frame in warm-up is discarded at its end, as in ACTIVE, and a good one waits in the station buffer (R156,
R184). -/
theorem test_stationFrame_warmUp :
    let s := (dozing.setClk { dozing.clk with state := .warmUp }).setStn { dozing.stn with arriving := [.staged] }
    after (.stationFrameTaking (frame [4, 0]).bytes 0) s (fun t => decide (t.stn = State.reset.stn) &&
        decide (t.clk.waiting = [])) = true ∧
      after (.stationFrameTaking (frame [4, 0]).bytes (frame [4, 0]).fcs) s (fun t =>
        decide (t.stn.untaken = [frame [4, 0]]) && decide (t.clk.waiting = [.stationFrame])) = true := by
  constructor <;> decide +kernel

theorem test_warmUpStart :
    after (.warmUpStart .lineFrame) dozing (fun t => decide (t.clk.state = .warmUp)) = true := by decide +kernel

theorem test_warmUpEnd :
    after .warmUpEnd (dozing.setClk { dozing.clk with state := .warmUp }) (fun t => decide (t.clk.state = .active)) =
      true := by decide +kernel

/-! ## Witnesses: states and operands that meet a statement's hypotheses -/

theorem witness_step :
    ({ State.reset with pending := [.tick] } : State).pending = .tick :: [] ∧ State.reset.pending = [] := by decide

/-- Every kind of request is ready on either port right after reset, in HOME, with the store idle. -/
theorem witness_ready :
    (∀ (p : Port) (kind : RequestKind), State.reset.readyFor p kind) ∧ State.reset.custody.state = .home ∧
      State.reset.store.op = none := by
  refine ⟨?_, rfl, rfl⟩
  intro p kind
  cases p <;> exact ⟨rfl, rfl, by decide, .inl rfl⟩

/-- Boundary values of the requests' operands: slot indices, pool ranges, pages, positions, sample ranges, policy codes. -/
theorem witness_requestBounds :
    (127 : SlotIx).val = 127 ∧ 127 < (128 : Byte).toNat ∧ by' [0x3F, 0xFF, 0, 1] = beBytes 2 16383 ++ beBytes 2 1 ∧
      16383 + 1 ≤ 16384 ∧ 16384 < 16383 + 2 ∧ 7 < (8 : Byte).toNat ∧ (7 : Byte).toNat ≤ 7 ∧ (1 : Byte).toNat < 2 ∧
      by' [0x05, 0xED, 1, 0] = beBytes 2 1517 ++ beBytes 2 256 ∧ policyItem 12 = some .dozeEnable ∧
      policyItem 1 = some .retain ∧ 12 < (13 : Byte).toNat ∧ 11 < (12 : Byte).toNat ∧ 1 < natOfBytes [2] ∧
      2 < natOfBytes [3] := by decide

theorem witness_workingSlot :
    (State.reset.working .platform).clk.power = .running ∧
      ((State.reset.working .platform).port .platform).slot = .working := by decide +kernel

theorem witness_loading :
    loading.clk.power = .running ∧ loading.clk.state = .active ∧ (loading.port .system).slot ≠ .working ∧
      loading.store.load.isSome = true := by decide +kernel

theorem witness_doze :
    dozing.clk.power = .running ∧ (dozing.port .system).slot ≠ .working ∧ dozing.clk.state = .doze ∧
      dozing.clk.waiting = [] ∧ (dozing.setClk { dozing.clk with state := .warmUp }).clk.state = .warmUp := by
  decide +kernel

/-- Messages at the bounds of the framing tests: a short header, 1,025 and 1,024 declared bytes, a body one byte short and
one byte long, the codes 0x00, 0x01, 0x13 and 0x14. -/
theorem witness_framing :
    ([0] : List Byte).length < 2 ∧ 1024 < (4 : Byte).toNat * 256 + (1 : Byte).toNat ∧
      ([] : List Byte).length < (0 : Byte).toNat * 256 + (1 : Byte).toNat ∧
      (0 : Byte).toNat * 256 + (1 : Byte).toNat < ([1, 2] : List Byte).length ∧ (0 : Byte).toNat = 0 ∧
      0x13 < (0x14 : Byte).toNat ∧ 1 ≤ (1 : Byte).toNat ∧ (0x13 : Byte).toNat ≤ 0x13 ∧
      (4 : Byte).toNat * 256 + (0 : Byte).toNat ≤ 1024 ∧
      (4 : Byte).toNat * 256 + (0 : Byte).toNat = (List.replicate 1024 (0 : Byte)).length := by decide +kernel

theorem witness_malformed :
    frameMessage .system [0x14, 0, 0] = .malformed ∧ (State.reset.port .system).slot ≠ .working ∧
      State.reset.clk.state ≠ .doze ∧ ((State.reset.working .system).port .system).slot = .working ∧
      (dozing.port .system).slot ≠ .working ∧ dozing.clk.state = .doze := by decide +kernel

theorem witness_slotReads :
    State.reset.clk.power = .running ∧ (State.reset.port .system).slot = .empty ∧
      ((State.reset.working .system).port .system).slot = .working ∧
      ((State.reset.answered .system { result := .done, payload := [1] }).port .system).slot =
        .ready { result := .done, payload := [1] } := by decide +kernel

/-- A FILTER image for slot 127, the same with a byte left over, and a CLAIM image with its kind's count full. -/
theorem witness_putSlot :
    readImage (putImage 127 (.filter filter)) = .ok (127, .filter filter) ∧
      ((State.reset.table.counts.remove (State.reset.slot 127)).add (.filter filter)).within = true ∧
      (match readImage (putImage 127 (.filter filter) ++ [0]) with
        | .error e => decide (e = { result := .malformed, offset := (putImage 127 (.filter filter)).length })
        | .ok _ => false) = true ∧
      readImage (putImage 0 (.claim claim)) = .ok (0, .claim claim) ∧
      ((({ claims := 16, streams := 0, exchanges := 0 } : KindCounts).remove none).add (.claim claim)).within = false := by
  refine ⟨rfl, by decide +kernel, by decide +kernel, by decide +kernel, by decide +kernel⟩

/-- Images at fault: a slot index of 128, a kind of EMPTY, an address length of 17, an image that ends before it. -/
theorem witness_badImage :
    badImage [128] 0 .outOfRange ∧ badImage [127, 0] 1 .malformed ∧ badImage [127, 1, 17] 2 .outOfRange ∧
      badImage [127, 1] 2 .malformed := by
  have behindHead : ∀ rest k r, badClaim rest k r → badImage (127 :: 1 :: rest) (2 + k) r := fun rest k r h =>
    .inr ⟨127, 1 :: rest, 1 + k, by decide, rfl, by simp [beBytes]; omega, .inr ⟨1, rest, k, by decide, rfl, rfl, h⟩⟩
  refine ⟨.inl ⟨rfl, .inr ⟨128, [], by decide, by decide, rfl, rfl⟩⟩,
    .inr ⟨127, [0], 0, by decide, rfl, rfl, .inl ⟨rfl, .inr ⟨0, [], by decide, by decide, rfl, rfl⟩⟩⟩,
    behindHead [17] 0 _ (.inl ⟨rfl, .inr ⟨17, [], by decide, by decide, rfl, rfl⟩⟩),
    behindHead [] 0 _ (.inl ⟨rfl, .inl ⟨by decide, rfl⟩⟩)⟩

theorem witness_imageReadBack :
    (Record.filter filter).config.inRange ∧ (Record.filter filter).isFresh ∧
      (Record.claim claim).config.inRange ∧ (Record.claim claim).isFresh := by
  refine ⟨?_, rfl, ?_, rfl⟩ <;>
    simp [Record.config, RecordConfig.inRange, Descriptor.inRange, Probe.inRange, Template.inRange, Source.inRange,
      filter, claim, Filter.fresh, Claim.fresh, wants, tpl, tplSum, by', within, Config.maxDelay]

theorem witness_clamps :
    (RecordConfig.claim claim.cfg).inRange ∧ (RecordConfig.stream stream.cfg).inRange ∧
      (RecordConfig.exchange exchange.cfg).inRange := by
  refine ⟨?_, ?_, ?_⟩ <;>
    simp [RecordConfig.inRange, Descriptor.inRange, Probe.inRange, Template.inRange, Source.inRange, Schedule.inRange, claim,
      stream, exchange, Claim.fresh, Stream.fresh, Exchange.fresh, wants, tpl, tplSum, by', within, Config.maxDelay]

theorem witness_poolWrite :
    State.reset.readyFor .system .poolWrite ∧ State.reset.custody.state = .home ∧
      memWf poolBlank State.reset.pool = true ∧ 16383 + ([0xAB] : List Byte).length ≤ 16384 ∧
      16128 + (List.replicate 256 (1 : Byte)).length ≤ 16384 := by decide +kernel

theorem witness_soundTemplate :
    tplSum.inRange false ∧ tplSum.reason (.claim claim) = none ∧ tplSum.checksums ≠ [] := by
  refine ⟨?_, by decide, by decide⟩
  simp [Template.inRange, Source.inRange, tplSum, within]

/-- A claim, a record that links it, and a template with no CLAIM_ADDR. -/
theorem witness_build :
    (home (some (.claim claim))).claimAt 0 = some claim ∧
      ({ responder.cfg with claimLink := some 0 } : ResponderConfig).claimLink = some 0 ∧
      (∀ u ∈ tpl.substs, u.source ≠ .claimAddr) ∧ tplSum.substs.map Subst.source = [.claimAddr] := by
  refine ⟨by decide +kernel, rfl, ?_, rfl⟩
  simp [tpl]

theorem witness_substitution :
    Record.stream stream = .stream stream ∧ Record.exchange exchange = .exchange exchange ∧ 0 < 1 ∧ 15 < 16 ∧
      Probe.equalsCounter 13 4 = .equalsCounter 13 4 ∧ 4 ≤ 4 := by decide

/-- A part whose check is at a cursor, with a record in slot 0. -/
def checking (cursor : CheckCursor) (r : Option Record) : State :=
  (home r).setCustody ⟨.checking, some cursor, false, false⟩

/-- A claim whose announcement leaves the pool. -/
def brokenClaim : Claim :=
  { claim with cfg := { claim.cfg with announceTemplate := some { tpl with segments := [⟨255, 65, true⟩] } } }

theorem witness_checking :
    (checking .station none).canTake = true ∧ (checking .station none).custody.state = .checking ∧
      (checking .station none).table.stationAddr ≠ 0 ∧
      (State.reset.setCustody ⟨.checking, some .station, false, false⟩).table.stationAddr = 0 ∧
      (checking (.slot 0) (some (.claim brokenClaim))).slotReason 0 = some .poolRange ∧
      (checking (.slot 126) none).slotReason 126 = none ∧ (127 : SlotIx).val = (126 : SlotIx).val + 1 := by decide +kernel

/-- Records that meet each test of a slot step in turn. -/
theorem witness_slotTests :
    (checking (.slot 0) none).slot 0 = none ∧
      (Record.claim brokenClaim).templates = [tpl] ++ { tpl with segments := [⟨255, 65, true⟩] } :: [] ∧
      tpl.reason (.claim brokenClaim) = none ∧
      ({ tpl with segments := [⟨255, 65, true⟩] } : Template).reason (.claim brokenClaim) = some .poolRange ∧
      (Record.responder { responder with cfg := { responder.cfg with claimLink := some 1 } }).claimLink = some 1 ∧
      (checking (.slot 0) none).claimAt 1 = none ∧ (checking (.slot 0) none).exchangeAt 1 = none := by decide +kernel

/-- A template at each reason, and the last segment that fits at block 255 (R31 to R33). -/
theorem witness_templateReasons :
    ({ tpl with segments := [⟨255, 65, true⟩] } : Template).reason (.claim claim) = some .poolRange ∧
      ({ tpl with totalLen := 64, segments := [⟨255, 64, true⟩] } : Template).reason (.claim claim) = none ∧
      ({ tpl with segments := [⟨0, 14, false⟩] } : Template).reason (.claim claim) = some .chainLength ∧
      ({ tpl with substs := [⟨11, 4, .claimAddr⟩] } : Template).reason (.claim claim) = some .fieldRange ∧
      ({ tpl with substs := [⟨10, 4, .claimAddr⟩] } : Template).reason (.responder responder) = some .noSource ∧
      ({ tpl with substs := [⟨10, 4, .seqIn⟩] } : Template).reason (.exchange exchange) = some .noSource ∧
      ({ tpl with substs := [⟨10, 4, .counter⟩] } : Template).reason (.stream stream) = some .noSource ∧
      ((checking (.slot 0) (some (.claim claim))).setSlot 127 (some (.claim claim))).slotReason 0 = some .duplicateClaim ∧
      (checking (.slot 0) (some (.responder
        { responder with cfg := { responder.cfg with claimLink := some 1 } }))).slotReason 0 = some .linkKind := by
  decide +kernel

theorem witness_checkRun :
    (checking .station (some (.claim brokenClaim))).canTake = true ∧
      (checking .station (some (.claim brokenClaim))).custody.cursor = some .station ∧
      (checking .station (some (.claim brokenClaim))).slotReason 0 = some .poolRange ∧
      (∀ j : SlotIx, (checking .station (some (.filter filter))).slotReason j = none) := by decide +kernel

theorem witness_lastStep :
    (checking (.slot 127) (some (.claim claim))).canTake = true ∧
      (checking (.slot 127) (some (.claim claim))).slotReason 127 = none ∧
      (checking (.slot 127) (some (.claim claim))).tally Record.isClaim ≤ 16 := by decide +kernel

/-- The transmitter is idle at LEND success, whatever it carried (R164). -/
theorem test_lendSuccess_idle :
    after .lendCheckStep
      ((checking (.slot 127) none).setTx { (home none).tx with carried := some (.station (frame [4, 0])) })
      (fun t => decide (t.custody.state = .proxy) && t.tx.carried.isNone) = true := by decide +kernel

/-- A lent part with an exchange awaiting, a frame on the transmitter or none, and a frame held or none. -/
theorem witness_lent :
    (lent (some (.exchange { exchange with state := .awaiting }))).readyFor .system .reclaim ∧
      (lent none).readyFor .platform .recall ∧ (lent none).custody.state.lent = true ∧
      (lent none).custody.state ≠ .home ∧ (lent none).clk.waiting = [] ∧ carrying.custody.state.lent = true ∧
      carrying.readyFor .system .reclaim ∧ carrying.tx.carriesOwn = true ∧ (lent none).tx.answers = [] ∧
      (lent none).tx.carriesOwn = false ∧ (lent none).held.entries = [] ∧ isReset .tick = false := by decide +kernel

theorem witness_recallChecking :
    (checking .station none).readyFor .platform .recall ∧ (checking .station none).custody.state = .checking := by
  decide +kernel

/-- QUIESCE with an answer waiting. -/
def quiescing : State :=
  let s := (home none).setCustody ⟨.quiesce, none, false, true⟩
  s.setTx { s.tx with answers := [{ bytes := by' [1], slot := 0, origin := .responder }] }

theorem witness_quiesce :
    quiescing.readyFor .platform .recall ∧ quiescing.custody.state = .quiesce ∧ quiescing.phaseSound := by decide +kernel

theorem witness_drain :
    draining.readyFor .platform .recall ∧ draining.custody.state = .drain ∧ draining.held.entries ≠ [] ∧
      draining.phaseSound := by decide +kernel

/-- Each property that every step keeps holds at reset, where a step is taken. -/
theorem witness_kept :
    State.reset.custodySound ∧ State.reset.phaseSound ∧ State.reset.memoriesSound ∧ State.reset.countsSound ∧
      State.reset.queuesWithin ∧ State.reset.changesDistinct ∧ step State.reset = .next State.reset := by
  refine ⟨by decide +kernel, by decide +kernel, by decide +kernel, by decide +kernel, by decide +kernel,
    by decide +kernel, rfl⟩

/-- A roused part. -/
def roused : State := (lent none).setCustody ⟨.roused, none, false, true⟩

theorem witness_roused :
    Instr.tick.wellFormed = true ∧ roused.custody.state = .roused ∧ roused.clk.waiting = [] ∧ isReset .tick = false ∧
      ∃ t, exec .tick roused = .next t := ⟨by decide, by decide +kernel, by decide +kernel, by decide, _, rfl⟩

theorem witness_terminal :
    (∃ c, (lent (some (.claim { claim with state := .lost }))).claimAt 0 = some c ∧ c.state = .lost ∧
      c.reprobePending = false) ∧
    (∃ x, (lent (some (.stream { stream with state := .ended }))).streamAt 0 = some x ∧ x.state = .ended) ∧
    (∃ x, (lent (some (.exchange { exchange with state := .rest }))).exchangeAt 0 = some x ∧ x.state = .rest ∧
      x.itemDue = false) ∧
    (lent none).custody.state ≠ .checking ∧ (lent none).tx.own = [] ∧ (lent none).clk.waiting = [] ∧
    ∃ t, exec .tick (lent none) = .next t := by
  refine ⟨⟨_, rfl, rfl, rfl⟩, ⟨_, rfl, rfl⟩, ⟨_, rfl, rfl, rfl⟩, by decide +kernel, by decide +kernel, rfl, _, rfl⟩

theorem witness_reset :
    State.reset.clk.power ≠ .off ∧ State.reset.store.op = none ∧
      (State.reset.setClk { State.reset.clk with power := .resetHeld }).clk.power = .resetHeld := by decide +kernel

theorem witness_changes :
    (∀ c ∈ ([⟨3, 1⟩] : List ChangeRecord), c.slot ≠ 127) ∧
      ([⟨3, 1⟩, ⟨127, 4⟩] : List ChangeRecord) = [⟨3, 1⟩] ++ { slot := 127, marks := 4 } :: [] := by decide

theorem witness_sample :
    let s := State.reset.setRx { State.reset.rx with sample := some ⟨frame [9, 0], 5, 7⟩ }
    s.readyFor .platform .takeSample ∧ s.readyFor .platform .releaseSample ∧ s.readyFor .system .takeSample ∧
      s.rx.sample = some ⟨frame [9, 0], 5, 7⟩ ∧ (5 : Count32) ≠ 6 := by decide +kernel

theorem witness_storeBusy :
    erasing.readyFor .platform .storeRead ∧ erasing.readyFor .system .storeErase ∧ erasing.store.op ≠ none ∧
      State.reset.readyFor .system .storeProgram ∧ State.reset.storeByte 256 = 0xFF ∧
      ¬ (erasing.storeByte (256 * 2 + 0) = 0xFF) := by decide +kernel

theorem witness_erasing :
    memWf storeBlank erasing.store.cells = true ∧ erasing.store.op = some (.erase 2) ∧ erasing.canTake = true ∧
      erasing.clk.power ≠ .off := by decide +kernel

theorem witness_programming :
    memWf storeBlank programming.store.cells = true ∧
      programming.store.op = some (.program 7 (List.replicate 255 0xFF ++ [5])) ∧
      (List.replicate 255 (0xFF : Byte) ++ [5]).length = 256 ∧ programming.canTake = true := by decide +kernel

/-- A load at a SET_POLICY record that turns doze on, and one at a record type that is not known. -/
def loadingRecord (type : Byte) : State :=
  State.reset.setStore
    { State.reset.store with
      cells := [(0, 0x61), (1, 0x20), (512, 0xC3), (513, 0xA5), (514, type), (515, 0), (516, 3), (517, 12), (518, 0), (519, 1)]
      load := some { position := 0, answers := true } }

theorem test_profileRecord_policy :
    after .profileRecord (loadingRecord 3)
      (fun t => t.policy.dozeEnable && decide (t.store.load = some { position := 6, answers := true })) = true := by
  decide +kernel

theorem witness_load :
    loading.canTake = true ∧ loading.store.load = some { position := 0, answers := false } ∧
      loading.storeByte 514 = 0xFF ∧ (loadingRecord 3).canTake = true ∧ ((loadingRecord 3).storeByte 514).toNat = 3 ∧
      256 * ((loadingRecord 3).storeByte 515).toNat + ((loadingRecord 3).storeByte 516).toNat = 3 ∧
      3 < ((loadingRecord 4).storeByte 514).toNat ∧ 1533 < 1534 ∧ 1534 < 1533 + 3 := by decide +kernel

/-- The staging buffer with two frames on their way has no room for a third; frames of 14 and 1,518 bytes are good. -/
theorem witness_lineFrames :
    State.reset.rx.used + 1518 ≤ 4096 ∧
      4096 < ({ State.reset.rx with arriving := [.staged, .staged] } : Classifier).used + 1518 ∧
      (frame [8, 0]).fcs = crc32 (frame [8, 0]).bytes ∧ 14 ≤ (frame [8, 0]).bytes.length ∧
      (List.replicate 1518 (0 : Byte)).length ≤ 1518 ∧ (frame [8]).bytes.length < 14 ∧ dozing.clk.state = .doze ∧
      dozing.clk.power = .running := by decide +kernel

theorem witness_frameHome :
    (staged (home none) (frame [5, 0])).canTake = true ∧ (staged (home none) (frame [5, 0])).custody.state = .home ∧
      (staged (home none) (frame [5, 0])).pins.stnRdy = true ∧ (staged (home none) (frame [5, 0])).stn.waiting = none ∧
      (staged (checking .station none) (frame [5, 0])).custody.state = .checking ∧
      State.reset.pins.stnRdy = false := by decide +kernel

/-- An own echo: bytes 6 to 11 are the station address. -/
def echo : Frame := Frame.made (by' [1, 1, 1, 1, 1, 1, 2, 0, 0, 0, 0, 1, 8, 0])

theorem witness_frameLent :
    (lent none).custody.state.lent = true ∧
      bytesAt echo.bytes 6 6 = beBytes 6 (lent none).table.stationAddr.toNat ∧
      (staged quiescing echo).canTake = true ∧ quiescing.custody.discard = false ∧
      (quiescing.setCustody ⟨.quiesce, none, true, true⟩).custody.discard = true := by decide +kernel

/-! ### Frames in PROXY -/

theorem slot_lent (r : Option Record) (j : SlotIx) : (lent r).slot j = if j = 0 then r else none := by
  have h : ∀ j : SlotIx, (0 : Nat) = j.val ↔ j = 0 := by decide +kernel
  simp [lent, home, State.slot, Vector.get_eq_getElem, Vector.getElem_set, h]

/-- The tests before the one that claims the frame pass it on, where the table's only record is of another kind. -/
theorem others_pass (r : Option Record) (f : Frame) :
    ((∀ c, r ≠ some (.claim c)) → (staged (lent r) f).noConflictBelow f 128) ∧
      ((∀ x, r ≠ some (.stream x)) → (staged (lent r) f).noStreamBelow f 128) ∧
      ((∀ x, r ≠ some (.exchange x)) → (staged (lent r) f).noExchangeBelow f 128) ∧
      ((∀ x, r ≠ some (.responder x)) → (staged (lent r) f).noResponderBelow f 128) ∧
      ((∀ x, r ≠ some (.filter x)) → (staged (lent r) f).noFilterBelow f 128) := by
  have h : ∀ j k, (staged (lent r) f).slot j = some k → r = some k := by
    intro j k hk
    have hk' : (lent r).slot j = some k := hk
    rw [slot_lent] at hk'
    by_cases hj : j = 0 <;> simp_all
  refine ⟨?_, ?_, ?_, ?_, ?_⟩
  · intro hr _ j c _ hc
    exact absurd (h j _ ((State.claimAt_eq_some _ _ _).1 hc)) (hr c)
  · intro hr j x _ hx
    exact absurd (h j _ ((State.streamAt_eq_some _ _ _).1 hx)) (hr x)
  · intro hr j x _ hx
    exact absurd (h j _ ((State.exchangeAt_eq_some _ _ _).1 hx)) (hr x)
  · intro hr j x _ hx
    exact absurd (h j _ ((State.responderAt_eq_some _ _ _).1 hx)) (hr x)
  · intro hr j x _ hx
    exact absurd (h j _ ((State.filterAt_eq_some _ _ _).1 hx)) (hr x)

/-- A HELD claim with room for its announcement, and a CONTESTED one. -/
theorem witness_conflict :
    let f := frame [8, 0, 9]
    let s := staged (lent (some (.claim claim))) f
    let u := staged (lent (some (.claim { claim with state := .contested }))) f
    s.classifies f [] ∧ s.policy.conflictWatch = true ∧ s.noConflictBelow f 0 ∧ s.claimAt 0 = some claim ∧
      claim.state = .held ∧ claim.assertedBy f.bytes = true ∧ claim.cfg.announceTemplate ≠ none ∧
      claim.dueItem = none ∧ s.roomFor 0 ∧ u.classifies f [] ∧
      u.claimAt 0 = some { claim with state := .contested } := by
  refine ⟨by decide +kernel, by decide, ?_, by decide +kernel, rfl, by decide +kernel, by decide, rfl, by decide +kernel,
    by decide +kernel, by decide +kernel⟩
  intro _ j c hj
  omega

/-- A keep-alive with room for its reply, and frames at the other rows of the table. -/
theorem witness_streamFrame :
    let f := frame [5, 0, 0xFF, 0xFF, 0xFF, 0xEF, 0, 0, 0x10, 0]
    let s := staged (lent (some (.stream stream))) f
    s.classifies f [] ∧ s.noConflictBelow f 128 ∧ s.noStreamBelow f 0 ∧ s.streamAt 0 = some stream ∧
      stream.state ≠ .ended ∧ matchesFrame f.bytes stream.cfg.inbound = true ∧
      stream.cfg.headerLen ≤ f.bytes.length ∧ f.bytes.length < stream.cfg.headerLen + 2 ∧
      seqField f.bytes stream.cfg.seqOffset = stream.peerSeq - 1 ∧ s.tx.linkUp = true ∧ s.tx.answers.length < 8 ∧
      (∀ p, stream.cfg.closeProbe = some p → p.passes 0 f.bytes = false) := by
  refine ⟨by decide +kernel, (others_pass _ _).1 (by simp), ?_, by decide +kernel, by decide, by decide +kernel,
    by decide +kernel, by decide +kernel, by decide +kernel, by decide, by decide, ?_⟩
  · intro j x hj
    omega
  · intro p hp
    simp only [stream, Stream.fresh, Option.some.injEq] at hp
    subst hp
    decide +kernel

/-- An AWAITING exchange and its reply, a decline, and a reply that nobody waits for. -/
theorem witness_exchangeFrame :
    let x := { exchange with state := .awaiting }
    let f := frame [3, 0x44, 0, 0, 0x0E, 0x10]
    let s := staged (lent (some (.exchange x))) f
    s.classifies f [] ∧ s.noConflictBelow f 128 ∧ s.noStreamBelow f 128 ∧ s.noExchangeBelow f 0 ∧
      s.exchangeAt 0 = some x ∧ x.takes f.bytes ∧ x.takes (frame [2, 0]).bytes ∧ exchange.takes f.bytes := by
  refine ⟨by decide +kernel, (others_pass _ _).1 (by simp), (others_pass _ _).2.1 (by simp), ?_, by decide +kernel, ?_, ?_, ?_⟩
  · intro j x hj
    omega
  · exact .inr ⟨by decide +kernel, by decide +kernel⟩
  · exact .inl ⟨wants 2, rfl, by decide +kernel⟩
  · show descriptorPasses _ _ _ = true
    decide +kernel

theorem witness_responder :
    let f := frame [7, 0]
    let s := staged (lent (some (.responder responder))) f
    s.classifies f [] ∧ s.noConflictBelow f 128 ∧ s.noStreamBelow f 128 ∧ s.noExchangeBelow f 128 ∧
      s.noResponderBelow f 0 ∧ s.responderAt 0 = some responder ∧
      matchesFrame f.bytes responder.cfg.descriptor = true ∧ s.tx.linkUp = true ∧ s.tx.answers.length < 8 := by
  refine ⟨by decide +kernel, (others_pass _ _).1 (by simp), (others_pass _ _).2.1 (by simp),
    (others_pass _ _).2.2.1 (by simp), ?_, by decide +kernel, by decide +kernel, by decide, by decide⟩
  intro j x hj
  omega

/-- A frame a filter names, and one that no record knows. -/
theorem witness_filter :
    let f := frame [6, 0]
    let g := frame [0, 0]
    let s := staged (lent (some (.filter filter))) f
    let u := staged (lent none) g
    s.classifies f [] ∧ s.noConflictBelow f 128 ∧ s.noStreamBelow f 128 ∧ s.noExchangeBelow f 128 ∧
      s.noResponderBelow f 128 ∧ s.noFilterBelow f 0 ∧ s.filterAt 0 = some filter ∧
      matchesFrame f.bytes filter.cfg.descriptor = true ∧ filter.cfg.action = .rouse ∧ u.classifies g [] ∧
      u.noFilterBelow g 128 ∧ u.policy.disposition = .discard ∧ u.rx.sample = none := by
  refine ⟨by decide +kernel, (others_pass _ _).1 (by simp), (others_pass _ _).2.1 (by simp),
    (others_pass _ _).2.2.1 (by simp), (others_pass _ _).2.2.2.1 (by simp), ?_, by decide +kernel, by decide +kernel, rfl,
    by decide +kernel, (others_pass _ _).2.2.2.2 (by simp), by decide, by decide⟩
  intro j x hj
  omega

theorem witness_probeSpacing :
    (probing 1).enginesRun = true ∧ (probing 1).tx.linkUp = true ∧ (probing 1).came 1000 ∧ (probing 1).roomFor 0 ∧
      ((probing 1).claimAt 0).map (fun c => (c.state, c.probesRemaining, c.timer, c.dueItem)) =
        some (.probing, 1, some (.probeSpacing 1000), none) ∧ ¬ (probing 1).came 1001 := by decide +kernel

theorem witness_defence :
    let s := lent (some (.claim { claim with state := .contested, timer := some (.defenceWindow 1000) }))
    s.enginesRun = true ∧ s.came 1000 ∧ (s.claimAt 0).map (fun c => (c.state, c.timer)) =
      some (.contested, some (.defenceWindow 1000)) := by decide +kernel

theorem witness_period :
    let s := streamDueNow .idle .period 0
    s.enginesRun = true ∧ s.came 1000 ∧ s.roomFor 0 ∧
      (s.streamAt 0).map (fun x => (x.state, x.timer, x.nextDue)) = some (.idle, some .period, 1000) := by decide +kernel

theorem witness_retry :
    let s := streamDueNow .outstanding .retrySpacing 2
    s.enginesRun = true ∧ s.came 1000 ∧ s.roomFor 0 ∧
      (s.streamAt 0).map (fun x => (x.state, x.timer, x.misses)) = some (.outstanding, some .retrySpacing, 2) := by
  decide +kernel

theorem witness_nextDue :
    let s := exchangeDueNow .waiting .nextDue 0
    s.enginesRun = true ∧ s.came 1000 ∧ s.roomFor 0 ∧
      (s.exchangeAt 0).map (fun x => (x.state, x.timer, x.nextDue)) = some (.waiting, some .nextDue, 1000) := by
  decide +kernel

theorem witness_replyWait :
    let s := exchangeDueNow .awaiting .replyWait 2
    s.enginesRun = true ∧ s.came 1000 ∧ s.roomFor 0 ∧
      (s.exchangeAt 0).map (fun x => (x.state, x.timer, x.attempts)) = some (.awaiting, some .replyWait, 2) := by
  decide +kernel

theorem witness_flood :
    storm.enginesRun = true ∧ storm.guard.windowEnd = some 1000 ∧ storm.came 1000 ∧ storm.guard.state = .normal ∧
      storm.policy.highMark < storm.guard.demand.toNat ∧ storm.guard.run = storm.policy.debounce ∧
      ¬ storm.came 1001 := by decide +kernel

theorem witness_quiet :
    quiet.clk.power = .running ∧ quiet.clk.state = .active ∧ quiet.policy.dozeEnable = true ∧
      quiet.custody.state = .proxy ∧ quiet.tx.linkUp = true ∧ quiet.tx.answers = [] ∧ quiet.tx.own = [] ∧
      (∀ i, quiet.slot i = none) ∧ quiet.tx.carried = none ∧ quiet.rx.staged = [] ∧ 3 ≤ quiet.clk.quietTicks := by
  decide +kernel

theorem witness_dozing :
    dozing.clk.power = .running ∧ dozing.clk.state = .doze ∧ dozing.clk.wakeDue = some 1001 ∧
      (dozing.clk.partTime + 1 - 1001).toNat < 2 ^ 31 ∧ ¬ dozing.came 1001 := by decide +kernel

/-- A dozing part with the link up and station frames on their way, and one in warm-up. -/
theorem witness_dozeEvents :
    let s := dozing.setStn { dozing.stn with arriving := [.staged, .refused] }
    let u := s.setClk { s.clk with state := .warmUp }
    s.clk.power = .running ∧ s.clk.state ≠ .active ∧ s.pins.link = true ∧ s.pins.stnRdy ≠ false ∧
      s.stn.arriving = .staged :: [.refused] ∧ (frame [4, 0]).fcs = crc32 (frame [4, 0]).bytes ∧
      14 ≤ (frame [4, 0]).bytes.length ∧ u.clk.state = .warmUp ∧ u.clk.waiting = [] ∧ u.stn.untaken = [] ∧
      unlinked.pins.link = false := by decide +kernel

/-- A part with a station frame, an answer and an item of each engine to grant. -/
theorem witness_grant :
    requesting.canTake = true ∧ requesting.tx.linkUp = true ∧ requesting.tx.carried = none ∧
      requesting.stn.buffer = [] ∧ requesting.tx.answers = [] ∧ requesting.tx.own = [.exchange 0] ∧
      (requesting.exchangeAt 0).map Exchange.state = some .queued ∧ requesting.tx.nextClass = .station := by
  decide +kernel

theorem witness_complete :
    carrying.canTake = true ∧ carrying.custody.state.lent = true ∧
      carrying.tx.carried = some (.own (.exchange 0) (frame [0, 0])) ∧
      (carrying.exchangeAt 0).map Exchange.state = some .awaiting := by decide +kernel

/-- A reclaimed part whose request is still on the transmitter, with a frame held and without. -/
def returning (held : List HeldEntry) : State :=
  let s := lent (some (.exchange exchange))
  ((s.setCustody ⟨.quiesce, none, false, true⟩).setTx
    { s.tx with carried := some (.own (.exchange 0) (frame [0, 0])) }).setHeld ⟨held, false⟩

theorem witness_completeReturning :
    (returning []).canTake = true ∧ (returning []).custody.state = .quiesce ∧ (returning []).tx.answers = [] ∧
      (returning []).tx.carried = some (.own (.exchange 0) (frame [0, 0])) ∧ (returning []).phaseSound ∧
      ((returning []).exchangeAt 0).map Exchange.state = some .waiting ∧
      ((home none).setTx { (home none).tx with carried := some (.station (frame [4, 0])) }).canTake = true := by decide +kernel

theorem witness_dropReturning :
    let s := returning [⟨frame [0, 0], none⟩]
    s.canTake = true ∧ s.pins.link = true ∧ s.tx.linkUp = true ∧ s.custody.state = .quiesce ∧
      s.held.entries = [⟨frame [0, 0], none⟩] ∧ s.pins.stnRdy = true ∧ s.stn.delivering = none := by decide +kernel

/-- The held head is copied out in the taking that ends QUIESCE (R57, R163). -/
theorem test_linkDrop_drains :
    after .lineLinkDrop (returning [⟨frame [0, 0], none⟩]) (fun t => decide (t.custody.state = .drain) &&
      decide (t.stn.delivering = some (.heldHead (frame [0, 0])))) = true := by decide +kernel

theorem witness_linkReturnHome :
    let s := ((home none).setPins ⟨false, true⟩).setTx { (home none).tx with linkUp := false }
    s.canTake = true ∧ s.pins.link = false ∧ s.tx.linkUp = false ∧ s.custody.state.lent = false := by decide +kernel

theorem witness_linkDrop :
    carrying.pins.link = true ∧ carrying.tx.linkUp = true ∧ (∀ other ∈ carrying.tx.own, other.slot ≠ 0) ∧
      (home none).canTake = true ∧ (home none).pins.link = true ∧ (home none).custody.state = .home ∧
      quiescing.canTake = true ∧ quiescing.pins.link = true ∧ quiescing.held.entries = [] := by decide +kernel

theorem witness_linkReturn :
    unlinked.canTake = true ∧ unlinked.pins.link = false ∧ unlinked.tx.linkUp = false ∧
      unlinked.custody.state.lent = true ∧
      (unlinked.claimAt 0).map (fun c => (c.reprobePending, c.cfg.probeCount)) = some (true, 3) := by decide +kernel

theorem witness_placement :
    let s := lent (some (.claim { claim with dueItem := some .announcement }))
    s.enginesRun = true ∧ s.tx.linkUp = true ∧ s.tx.own = [] := by decide +kernel

/-- A station frame whole in its place, and one of two places taken. -/
theorem witness_stationFrame :
    let s := (home none).setStn { State.reset.stn with arriving := [.staged], buffer := [frame [0, 0]] }
    s.canTake = true ∧ s.stn.arriving = .staged :: [] ∧
      s.stn.buffer.length + (s.stn.arriving.filter fun a => decide (a = .staged)).length = 2 ∧
      (frame [4, 0]).fcs = crc32 (frame [4, 0]).bytes ∧ 14 ≤ (frame [4, 0]).bytes.length ∧
      (frame [4, 0]).bytes.length ≤ 1518 := by decide +kernel

theorem witness_delivery :
    draining.canTake = true ∧ draining.pins.stnRdy = true ∧
      draining.stn.delivering = some (.heldHead (frame [0, 0])) ∧ draining.custody.state = .drain ∧
      draining.held.entries = [⟨frame [0, 0], none⟩] ∧ State.reset.stn.delivering = none ∧
      State.reset.pins.stnRdy = false := by decide +kernel

end Sys2Proof.Tests
end

section
/-! SUPPORT. What no engine changes of the state: the pool, the station address, the kind counts, and of each slot the
configuration and a stream's sequence values (R23, R26, R129). One statement for each operation, from the shared ones to the
commands; the statements on the table outside HOME and on the kind counts follow from it. -/

namespace Sys2Proof.Machine

/-! ## The lasting part of a state -/

/-- What no engine changes of a record: its configuration fields and a stream's sequence values (R23, R129). -/
def Record.lasting (r : Record) : RecordConfig × Option (SeqValue × SeqValue) := (r.config, r.seqValues)

/-- What no engine changes: the pool, the station address, the kind counts and the lasting part of each slot. -/
structure Lasting where
  pool : List Host.Cell
  stationAddr : BitVec 48
  counts : KindCounts
  slots : Vector (Option (RecordConfig × Option (SeqValue × SeqValue))) 128

/-- The lasting part of a state. -/
def State.lasting (s : State) : Lasting :=
  { pool := s.pool, stationAddr := s.table.stationAddr, counts := s.table.counts
    slots := s.table.slots.map (Option.map Record.lasting) }

/-- The lasting part is decided by the table and the pool. -/
theorem State.lasting_congr {s t : State} (ht : t.table = s.table) (hp : t.pool = s.pool) : t.lasting = s.lasting := by
  simp [State.lasting, ht, hp]

section Blocks
variable (s : State)

@[simp] theorem State.lasting_setClk (x : ClockUnit) : (s.setClk x).lasting = s.lasting := rfl
@[simp] theorem State.lasting_setPins (x : Pins) : (s.setPins x).lasting = s.lasting := rfl
@[simp] theorem State.lasting_setPorts (x : Ports) : (s.setPorts x).lasting = s.lasting := rfl
@[simp] theorem State.lasting_setStore (x : StoreUnit) : (s.setStore x).lasting = s.lasting := rfl
@[simp] theorem State.lasting_setCustody (x : CustodyUnit) : (s.setCustody x).lasting = s.lasting := rfl
@[simp] theorem State.lasting_setPolicy (x : Policy) : (s.setPolicy x).lasting = s.lasting := rfl
@[simp] theorem State.lasting_setGuard (x : FloodGuard) : (s.setGuard x).lasting = s.lasting := rfl
@[simp] theorem State.lasting_setRx (x : Classifier) : (s.setRx x).lasting = s.lasting := rfl
@[simp] theorem State.lasting_setCounters (x : Counters) : (s.setCounters x).lasting = s.lasting := rfl
@[simp] theorem State.lasting_setTx (x : Transmitter) : (s.setTx x).lasting = s.lasting := rfl
@[simp] theorem State.lasting_setStn (x : StationPath) : (s.setStn x).lasting = s.lasting := rfl
@[simp] theorem State.lasting_setHeld (x : HeldQueue) : (s.setHeld x).lasting = s.lasting := rfl
@[simp] theorem State.lasting_setCond (x : ConditionUnit) : (s.setCond x).lasting = s.lasting := rfl
@[simp] theorem State.lasting_setDraws (x : Nat) : (s.setDraws x).lasting = s.lasting := rfl

end Blocks

-- The proofs stand in brackets so that `simp` uses these as rewrites with a proof, not by definition: the side conditions
-- below are closed with them.
@[simp] theorem Record.lasting_claim (c : Claim) : (Record.claim c).lasting = (.claim c.cfg, none) := (rfl)
@[simp] theorem Record.lasting_responder (r : Responder) : (Record.responder r).lasting = (.responder r.cfg, none) := (rfl)
@[simp] theorem Record.lasting_filter (f : Filter) : (Record.filter f).lasting = (.filter f.cfg, none) := (rfl)
@[simp] theorem Record.lasting_stream (t : Stream) :
    (Record.stream t).lasting = (.stream t.cfg, some (t.ourSeq, t.peerSeq)) := (rfl)
@[simp] theorem Record.lasting_exchange (x : Exchange) : (Record.exchange x).lasting = (.exchange x.cfg, none) := (rfl)

/-- What a slot holds gives its lasting part. -/
theorem State.lasting_slot {s : State} {i : SlotIx} {r : Record} (h : s.slot i = some r) :
    s.lasting.slots.get i = some r.lasting := by
  have hmap : s.lasting.slots.get i = (s.slot i).map Record.lasting := by
    simp [State.lasting, State.slot, Vector.get_eq_getElem]
  rw [hmap, h, Option.map_some]

theorem State.lasting_claimAt {s : State} {i : SlotIx} {c : Claim} (h : s.claimAt i = some c) :
    s.lasting.slots.get i = some (.claim c.cfg, none) := State.lasting_slot ((s.claimAt_eq_some i c).1 h)

theorem State.lasting_responderAt {s : State} {i : SlotIx} {r : Responder} (h : s.responderAt i = some r) :
    s.lasting.slots.get i = some (.responder r.cfg, none) := State.lasting_slot ((s.responderAt_eq_some i r).1 h)

theorem State.lasting_filterAt {s : State} {i : SlotIx} {f : Filter} (h : s.filterAt i = some f) :
    s.lasting.slots.get i = some (.filter f.cfg, none) := State.lasting_slot ((s.filterAt_eq_some i f).1 h)

theorem State.lasting_streamAt {s : State} {i : SlotIx} {t : Stream} (h : s.streamAt i = some t) :
    s.lasting.slots.get i = some (.stream t.cfg, some (t.ourSeq, t.peerSeq)) :=
  State.lasting_slot ((s.streamAt_eq_some i t).1 h)

theorem State.lasting_exchangeAt {s : State} {i : SlotIx} {x : Exchange} (h : s.exchangeAt i = some x) :
    s.lasting.slots.get i = some (.exchange x.cfg, none) := State.lasting_slot ((s.exchangeAt_eq_some i x).1 h)

/-- A record replaced by one with the same lasting part. -/
@[simp] theorem State.lasting_setSlot {s : State} {i : SlotIx} {r : Record} (h : s.lasting.slots.get i = some r.lasting) :
    (s.setSlot i (some r)).lasting = s.lasting := by
  have hslots : (s.setSlot i (some r)).lasting.slots = s.lasting.slots := by
    have hset : (s.setSlot i (some r)).lasting.slots = s.lasting.slots.set i.val (some r.lasting) i.isLt := by
      simp [State.lasting, State.setSlot, Vector.map_set]
    rw [hset, ← h, Vector.get_eq_getElem]
    exact Vector.set_getElem_self i.isLt
  simp only [State.lasting] at hslots ⊢
  rw [hslots]
  rfl

/-- A run over the slots keeps the lasting part where each of its steps does. -/
theorem State.lasting_foldl {α : Type} {f : State → α → State} (h : ∀ s a, (f s a).lasting = s.lasting) (l : List α)
    (s : State) : (l.foldl f s).lasting = s.lasting := by
  induction l generalizing s with
  | nil => rfl
  | cons a l ih => rw [List.foldl_cons, ih, h]

/-- A command's effect keeps the lasting part whether or not it is taken. -/
theorem State.lasting_takeIf {s : State} {b : Bool} {effect : State → State} (h : (effect s).lasting = s.lasting) :
    (s.takeIf b effect).lasting = s.lasting := by
  unfold State.takeIf; split
  · exact h
  · rfl

/-! ## Shared operations keep the lasting part -/

section Ops
variable (s : State)

@[simp] theorem State.lasting_count (f : Counters → Counters) : (s.count f).lasting = s.lasting := rfl

@[simp] theorem State.lasting_report (i : SlotIx) (m : BitVec 8) : (s.report i m).lasting = s.lasting :=
  State.lasting_congr (by simp) (by simp)

@[simp] theorem State.lasting_raise (c : ConditionClass) (i : Option SlotIx) : (s.raise c i).lasting = s.lasting :=
  State.lasting_congr (by simp) (by simp)

@[simp] theorem State.lasting_offerHeld (f : Frame) (c : Option (ConditionClass × SlotIx)) :
    (s.offerHeld f c).lasting = s.lasting := State.lasting_congr (by simp) (by simp)

@[simp] theorem State.lasting_holdFor (f : Frame) (c : ConditionClass) (i : SlotIx) :
    (s.holdFor f c i).lasting = s.lasting := by simp [State.holdFor]

@[simp] theorem State.lasting_discardHeld : s.discardHeld.lasting = s.lasting :=
  State.lasting_congr (by simp) (by simp)

@[simp] theorem State.lasting_pushItem (it : OwnItem) : (s.pushItem it).lasting = s.lasting :=
  State.lasting_congr (by simp) (by simp)

@[simp] theorem State.lasting_withdrawItem (i : SlotIx) : (s.withdrawItem i).lasting = s.lasting := rfl

@[simp] theorem State.lasting_feedStation : s.feedStation.lasting = s.lasting :=
  State.lasting_congr (by simp) (by simp)

@[simp] theorem State.lasting_setPort (p : Port) (u : PortUnit) : (s.setPort p u).lasting = s.lasting :=
  State.lasting_congr (by simp) (by simp)

@[simp] theorem State.lasting_respond (p : Port) (r : Response) : (s.respond p r).lasting = s.lasting :=
  State.lasting_congr (by simp) (by simp)

@[simp] theorem State.lasting_answerWith (i : SlotIx) (g : AnswerOrigin) (r : Record) (t : Template) (b : List Byte) :
    (s.answerWith i g r t b).lasting = s.lasting := State.lasting_congr (by simp) (by simp)

@[simp] theorem State.lasting_purgeAnswers (i : SlotIx) : (s.purgeAnswers i).lasting = s.lasting :=
  State.lasting_congr (by simp) (by simp)

@[simp] theorem State.lasting_wake : s.wake.lasting = s.lasting := by
  unfold State.wake; split <;> simp

@[simp] theorem State.lasting_defer (w : Waiting) : (s.defer w).lasting = s.lasting := rfl

@[simp] theorem State.lasting_countDemand : s.countDemand.lasting = s.lasting := by
  unfold State.countDemand; split <;> simp

@[simp] theorem State.lasting_cutArriving : s.cutArriving.lasting = s.lasting := rfl

/-- What comes is taken with the lasting part kept, or waits. -/
theorem State.lasting_takeOrDefer {s : State} {w : Waiting} {take : State → State} (h : (take s).lasting = s.lasting) :
    (s.takeOrDefer w take).lasting = s.lasting := by
  unfold State.takeOrDefer; split
  · exact h
  · simp

end Ops

/-! ## Records written by their engines keep the lasting part -/

section Records
variable {s : State} {i : SlotIx}

@[simp] theorem State.lasting_putClaim {a b : Claim} (h : s.lasting.slots.get i = some (.claim b.cfg, none)) :
    (s.putClaim i a b).lasting = s.lasting := by simp [State.putClaim, h]

@[simp] theorem State.lasting_putResponder {a b : Responder} (h : s.lasting.slots.get i = some (.responder b.cfg, none)) :
    (s.putResponder i a b).lasting = s.lasting := by simp [State.putResponder, h]

@[simp] theorem State.lasting_putFilter {a b : Filter} (h : s.lasting.slots.get i = some (.filter b.cfg, none)) :
    (s.putFilter i a b).lasting = s.lasting := by simp [State.putFilter, h]

@[simp] theorem State.lasting_putStream {a b : Stream} {m : BitVec 8}
    (h : s.lasting.slots.get i = some (.stream b.cfg, some (b.ourSeq, b.peerSeq))) :
    (s.putStream i a b m).lasting = s.lasting := by simp [State.putStream, h]

@[simp] theorem State.lasting_putExchange {a b : Exchange} {m : BitVec 8}
    (h : s.lasting.slots.get i = some (.exchange b.cfg, none)) : (s.putExchange i a b m).lasting = s.lasting := by
  simp [State.putExchange, h]

/-! ### Claims -/

@[simp] theorem State.lasting_wantClaimItem {c : Claim} {p : Purpose}
    (h : s.lasting.slots.get i = some (.claim c.cfg, none)) : (s.wantClaimItem i c p).lasting = s.lasting := by
  unfold State.wantClaimItem
  split
  · rfl
  · split <;> simp [h]

@[simp] theorem State.lasting_placeClaimDue {c : Claim} (h : s.lasting.slots.get i = some (.claim c.cfg, none)) :
    (s.placeClaimDue i c).lasting = s.lasting := by
  unfold State.placeClaimDue
  split
  · rfl
  · split <;> simp [h]

@[simp] theorem State.lasting_endStream {a b : Stream} {m : BitVec 8}
    (h : s.lasting.slots.get i = some (.stream b.cfg, some (b.ourSeq, b.peerSeq))) :
    (s.endStream i a b m).lasting = s.lasting := by
  simp [State.endStream, Stream.endedForm, h]

theorem State.lasting_endLinkedStream (claim : SlotIx) (s : State) (j : SlotIx) :
    (s.endLinkedStream claim j).lasting = s.lasting := by
  unfold State.endLinkedStream
  split
  · rfl
  · next ht => split <;> simp [State.lasting_streamAt ht]

@[simp] theorem State.lasting_loseClaim {a c : Claim} (h : s.lasting.slots.get i = some (.claim c.cfg, none)) :
    (s.loseClaim i a c).lasting = s.lasting := by
  unfold State.loseClaim
  rw [State.lasting_foldl (State.lasting_endLinkedStream i)]
  simp [Claim.lostForm, h]

theorem State.lasting_loseLinkedClaim (x : SlotIx) (s : State) (j : SlotIx) :
    (s.loseLinkedClaim x j).lasting = s.lasting := by
  unfold State.loseLinkedClaim
  split
  · rfl
  · next hc => split <;> simp [State.lasting_claimAt hc]

@[simp] theorem State.lasting_conflictFor {c : Claim} {s : State} {i : SlotIx}
    (h : s.lasting.slots.get i = some (.claim c.cfg, none)) : (s.conflictFor i c).lasting = s.lasting := by
  unfold State.conflictFor
  cases c.state with
  | held => dsimp only; split <;> simp [h]
  | contested | probing => simp [h]
  | lost => rfl

@[simp] theorem State.lasting_claimProbeSent (s : State) (i : SlotIx) : (s.claimProbeSent i).lasting = s.lasting := by
  unfold State.claimProbeSent
  split
  · rfl
  · next hc =>
    dsimp only
    split
    · split <;> simp [State.lasting_claimAt hc]
    · rfl

theorem State.lasting_takeProbeSpacing (s : State) (i : SlotIx) : (s.takeProbeSpacing i).lasting = s.lasting := by
  unfold State.takeProbeSpacing
  split
  · rfl
  · next hc =>
    split
    · refine State.lasting_takeIf ?_
      dsimp only
      split <;> simp [State.lasting_claimAt hc]
    · rfl

theorem State.lasting_takeDefenceWindow (s : State) (i : SlotIx) : (s.takeDefenceWindow i).lasting = s.lasting := by
  unfold State.takeDefenceWindow
  split
  · rfl
  · next hc =>
    split
    · exact State.lasting_takeIf (by simp [State.lasting_claimAt hc])
    · rfl

theorem State.lasting_dropClaimOne (s : State) (i : SlotIx) : (s.dropClaimOne i).lasting = s.lasting := by
  unfold State.dropClaimOne
  split
  · rfl
  · next hc => split <;> simp [State.lasting_claimAt hc]

theorem State.lasting_returnClaim {c : Claim} (h : s.lasting.slots.get i = some (.claim c.cfg, none)) :
    (s.returnClaim i c).lasting = s.lasting := by
  unfold State.returnClaim
  split
  · split
    · dsimp only
      split <;> simp [h]
    · simp [h]
  · simp [h]

/-! ### Streams -/

@[simp] theorem State.lasting_placeStreamItem {t : Stream}
    (h : s.lasting.slots.get i = some (.stream t.cfg, some (t.ourSeq, t.peerSeq))) :
    (s.placeStreamItem i t).lasting = s.lasting := by
  unfold State.placeStreamItem; split <;> simp [h]

@[simp] theorem State.lasting_placeStreamDue {t : Stream}
    (h : s.lasting.slots.get i = some (.stream t.cfg, some (t.ourSeq, t.peerSeq))) :
    (s.placeStreamDue i t).lasting = s.lasting := by
  unfold State.placeStreamDue; split <;> simp [h]

theorem State.lasting_streamFrame {t : Stream} (f : Frame)
    (h : s.lasting.slots.get i = some (.stream t.cfg, some (t.ourSeq, t.peerSeq))) :
    (s.streamFrame i t f).lasting = s.lasting := by
  unfold State.streamFrame
  split
  · rfl
  · split
    · simp [h]
    · split
      · simp
      · split
        case h_2 => unfold State.streamAck; dsimp only; split <;> simp [h]
        all_goals simp [State.streamStale, h]

theorem State.lasting_takePeriod (s : State) (i : SlotIx) : (s.takePeriod i).lasting = s.lasting := by
  unfold State.takePeriod
  split
  · rfl
  · next ht => exact State.lasting_takeIf (by simp [State.lasting_streamAt ht])

theorem State.lasting_takeRetry (s : State) (i : SlotIx) : (s.takeRetry i).lasting = s.lasting := by
  unfold State.takeRetry
  split
  · rfl
  · next ht =>
    refine State.lasting_takeIf ?_
    dsimp only
    split <;> simp [State.lasting_streamAt ht]

@[simp] theorem State.lasting_grantStream {t : Stream}
    (h : s.lasting.slots.get i = some (.stream t.cfg, some (t.ourSeq, t.peerSeq))) :
    (s.grantStream i t).1.lasting = s.lasting := by
  unfold State.grantStream; dsimp only; split <;> simp [h]

@[simp] theorem State.lasting_streamProbeSent (s : State) (i : SlotIx) :
    (s.streamProbeSent i).lasting = s.lasting := by
  unfold State.streamProbeSent
  split
  · rfl
  · next ht => dsimp only; split <;> simp [State.lasting_streamAt ht]

@[simp] theorem State.lasting_streamReplySent (s : State) (i : SlotIx) :
    (s.streamReplySent i).lasting = s.lasting := by
  unfold State.streamReplySent
  split
  · rfl
  · next ht => simp [State.lasting_streamAt ht]

theorem State.lasting_takeoverOne (bytes : List Byte) (s : State) (i : SlotIx) :
    (s.takeoverOne bytes i).lasting = s.lasting := by
  unfold State.takeoverOne
  split
  · rfl
  · next ht => split <;> simp [State.lasting_streamAt ht]

theorem State.lasting_returnStream {t : Stream}
    (h : s.lasting.slots.get i = some (.stream t.cfg, some (t.ourSeq, t.peerSeq))) :
    (s.returnStream i t).lasting = s.lasting := by
  unfold State.returnStream; split <;> simp [h]

/-! ### Exchanges -/

@[simp] theorem State.lasting_placeExchangeItem {x : Exchange} (h : s.lasting.slots.get i = some (.exchange x.cfg, none)) :
    (s.placeExchangeItem i x).lasting = s.lasting := by
  unfold State.placeExchangeItem; split <;> simp [h]

@[simp] theorem State.lasting_placeExchangeDue {x : Exchange} (h : s.lasting.slots.get i = some (.exchange x.cfg, none)) :
    (s.placeExchangeDue i x).lasting = s.lasting := by
  unfold State.placeExchangeDue; split <;> simp [h]

@[simp] theorem Exchange.scheduled_cfg (x : Exchange) (now : Time) : (x.scheduled now).cfg = x.cfg := by
  unfold Exchange.scheduled
  split
  · rfl
  · dsimp only; split <;> rfl

@[simp] theorem State.lasting_haltExchange {a x : Exchange} {r : HaltReason}
    (h : s.lasting.slots.get i = some (.exchange x.cfg, none)) : (s.haltExchange i a x r).lasting = s.lasting := by
  unfold State.haltExchange
  rw [State.lasting_foldl (State.lasting_loseLinkedClaim i)]
  simp [h]

theorem State.lasting_exchangeFrame {x : Exchange} (f : Frame) (v : ReplyVerdict)
    (h : s.lasting.slots.get i = some (.exchange x.cfg, none)) : (s.exchangeFrame i x f v).lasting = s.lasting := by
  cases v <;> simp [State.exchangeFrame, State.acceptReply, h]

theorem State.lasting_takeNextDue (s : State) (i : SlotIx) : (s.takeNextDue i).lasting = s.lasting := by
  unfold State.takeNextDue
  split
  · rfl
  · next hx => exact State.lasting_takeIf (by simp [State.lasting_exchangeAt hx])

theorem State.lasting_takeReplyWait (s : State) (i : SlotIx) : (s.takeReplyWait i).lasting = s.lasting := by
  unfold State.takeReplyWait
  split
  · rfl
  · next hx =>
    refine State.lasting_takeIf ?_
    dsimp only
    split <;> simp [State.lasting_exchangeAt hx]

@[simp] theorem State.lasting_grantExchange {x : Exchange} (h : s.lasting.slots.get i = some (.exchange x.cfg, none)) :
    (s.grantExchange i x).1.lasting = s.lasting := by
  simp [State.grantExchange, h]

@[simp] theorem State.lasting_requestSent (s : State) (i : SlotIx) : (s.requestSent i).lasting = s.lasting := by
  unfold State.requestSent
  split
  · rfl
  · next hx => dsimp only; split <;> simp [State.lasting_exchangeAt hx]

theorem State.lasting_returnExchange {x : Exchange} (h : s.lasting.slots.get i = some (.exchange x.cfg, none)) :
    (s.returnExchange i x).lasting = s.lasting := by
  unfold State.returnExchange; split <;> simp [h]

/-! ### Responders and filters -/

theorem State.lasting_respondWith {r : Responder} (f : Frame) (h : s.lasting.slots.get i = some (.responder r.cfg, none)) :
    (s.respondWith i r f).lasting = s.lasting := by
  unfold State.respondWith
  dsimp only
  split
  · simp
  · split <;> simp [h]

@[simp] theorem State.lasting_responderSent (s : State) (i : SlotIx) : (s.responderSent i).lasting = s.lasting := by
  unfold State.responderSent
  split
  · rfl
  · next hr => simp [State.lasting_responderAt hr]

theorem State.lasting_filterFrame {t : Filter} (f : Frame) (h : s.lasting.slots.get i = some (.filter t.cfg, none)) :
    (s.filterFrame i t f).lasting = s.lasting := by
  unfold State.filterFrame
  dsimp only
  split <;> simp [h]

end Records
end Sys2Proof.Machine

end

section
/-! SUPPORT. What no engine changes, continued: classification, the transmitter, the line link, the station path, custody and the
clock keep the lasting part of the state. -/

namespace Sys2Proof.Machine

/-! ## Classification keeps the lasting part -/

section Classification
variable {s t : State} {f : Frame}

theorem State.lasting_conflictTest (h : s.conflictTest f = some t) : t.lasting = s.lasting := by
  unfold State.conflictTest at h
  split at h
  · obtain ⟨i, hi⟩ := List.exists_of_findSome?_eq_some h
    obtain ⟨c, hc, rfl⟩ := Option.map_eq_some_iff.1 hi.2
    unfold State.claimWatches at hc
    split at hc
    · next d hd =>
      split at hc
      · cases hc; exact State.lasting_conflictFor (State.lasting_claimAt hd)
      · cases hc
    · cases hc
  · cases h

theorem State.lasting_streamTest (h : s.streamTest f = some t) : t.lasting = s.lasting := by
  obtain ⟨i, hi⟩ := List.exists_of_findSome?_eq_some h
  obtain ⟨x, hx, rfl⟩ := Option.map_eq_some_iff.1 hi.2
  unfold State.streamClaims at hx
  split at hx
  · next d hd =>
    split at hx
    · cases hx; exact State.lasting_streamFrame f (State.lasting_streamAt hd)
    · cases hx
  · cases hx

theorem State.lasting_exchangeTest (h : s.exchangeTest f = some t) : t.lasting = s.lasting := by
  obtain ⟨i, -, hi⟩ := List.exists_of_findSome?_eq_some h
  split at hi
  · cases hi
  · next x hx =>
    obtain ⟨v, -, rfl⟩ := Option.map_eq_some_iff.1 hi
    exact State.lasting_exchangeFrame f v (State.lasting_exchangeAt hx)

theorem State.lasting_responderTest (h : s.responderTest f = some t) : t.lasting = s.lasting := by
  obtain ⟨i, -, hi⟩ := List.exists_of_findSome?_eq_some h
  split at hi
  · cases hi
  · next r hr =>
    split at hi
    · cases hi; exact State.lasting_respondWith f (State.lasting_responderAt hr)
    · cases hi

theorem State.lasting_filterTest (h : s.filterTest f = some t) : t.lasting = s.lasting := by
  obtain ⟨i, -, hi⟩ := List.exists_of_findSome?_eq_some h
  split at hi
  · cases hi
  · next r hr =>
    split at hi
    · cases hi; exact State.lasting_filterFrame f (State.lasting_filterAt hr)
    · cases hi

theorem State.lasting_claimedBy (h : s.claimedBy f = some t) : t.lasting = s.lasting := by
  unfold State.claimedBy at h
  simp only [Option.orElse_eq_orElse, Option.orElse_eq_or, Option.or_eq_some_iff] at h
  rcases h with h | ⟨-, h | ⟨-, h | ⟨-, h | ⟨-, h⟩⟩⟩⟩
  · exact State.lasting_conflictTest h
  · exact State.lasting_streamTest h
  · exact State.lasting_exchangeTest h
  · exact State.lasting_responderTest h
  · exact State.lasting_filterTest h

@[simp] theorem State.lasting_defaultDisposition (s : State) (f : Frame) :
    (s.defaultDisposition f).lasting = s.lasting := by
  unfold State.defaultDisposition
  split
  · rfl
  · simp
  · split <;> simp

@[simp] theorem State.lasting_classify (s : State) (f : Frame) : (s.classify f).lasting = s.lasting := by
  unfold State.classify
  dsimp only
  split
  · simp
  · split
    · next h => simpa using State.lasting_claimedBy h
    · simp

@[simp] theorem State.passToStation_frame (s : State) (f : Frame) :
    (s.passToStation f).1.table = s.table ∧ (s.passToStation f).1.pool = s.pool := by
  unfold State.passToStation
  split
  · simp
  · split <;> simp

@[simp] theorem State.lasting_passToStation (s : State) (f : Frame) : (s.passToStation f).1.lasting = s.lasting :=
  State.lasting_congr (by simp) (by simp)

/-- Outside HOME a taken line frame keeps the lasting part; in HOME it may be tracked (R66, R128). -/
theorem State.lasting_takeFrame (s : State) (f : Frame) (h : s.custody.state ≠ .home) :
    (s.takeFrame f).lasting = s.lasting := by
  unfold State.takeFrame
  split
  case h_1 hs => exact absurd hs h
  case h_5 | h_6 => split <;> simp
  all_goals simp

end Classification

/-! ## The clock keeps the lasting part -/

@[simp] theorem State.lasting_takeTick (s : State) : s.takeTick.lasting = s.lasting := by
  unfold State.takeTick
  dsimp only
  split
  · unfold State.quietTest
    split
    · split <;> simp [State.enterDoze]
    · simp
  · split <;> simp
  · simp

/-! ## The transmitter, the link and the station path keep the lasting part -/

section Transmission

@[simp] theorem State.lasting_grantWork (s : State) (item : OwnItem) : (s.grantWork item).1.lasting = s.lasting := by
  unfold State.grantWork
  split
  · split <;> rfl
  · split
    · next h => simp [State.lasting_streamAt h]
    · rfl
  · split
    · next h => simp [State.lasting_exchangeAt h]
    · rfl

@[simp] theorem State.lasting_grantTo (s : State) (c : TxClass) : (s.grantTo c).lasting = s.lasting := by
  unfold State.grantTo
  cases c with
  | station => unfold State.grantStation; dsimp only; split <;> simp [State.carry]
  | part =>
    unfold State.grantPart
    dsimp only
    split
    · simp [State.carry]
    · unfold State.grantOwn
      split
      · simp
      · dsimp only; split <;> simp [State.carry]

@[simp] theorem State.lasting_arbitrate (s : State) : s.arbitrate.lasting = s.lasting := by
  refine State.lasting_takeIf ?_
  split <;> simp

@[simp] theorem State.lasting_drainOn (s : State) : s.drainOn.lasting = s.lasting := by
  unfold State.drainOn; split <;> simp [State.reachHome]

@[simp] theorem State.lasting_endQuiesce (s : State) : s.endQuiesce.lasting = s.lasting := by
  unfold State.endQuiesce
  split
  · simp
  · rfl

@[simp] theorem State.lasting_frameSent (s : State) (c : Carried) : (s.frameSent c).lasting = s.lasting := by
  unfold State.frameSent; split <;> simp

@[simp] theorem State.lasting_requeueOwn (s : State) (item : OwnItem) : (s.requeueOwn item).lasting = s.lasting := by
  unfold State.requeueOwn
  split
  · rfl
  · dsimp only
    split
    · split
      · split <;> simp
      · rfl
    · split
      · split <;> simp
      · rfl
    · split
      · next h => split <;> simp [State.lasting_exchangeAt h]
      · rfl

@[simp] theorem State.lasting_abortCarried (s : State) : s.abortCarried.lasting = s.lasting := by
  unfold State.abortCarried
  split
  · rfl
  · dsimp only; split <;> simp

@[simp] theorem State.lasting_takeLinkDrop (s : State) : s.takeLinkDrop.lasting = s.lasting := by
  unfold State.takeLinkDrop
  split
  · simp [apply_ite State.lasting, State.lasting_foldl State.lasting_dropClaimOne]
  · rfl

theorem State.lasting_returnOne (s : State) (i : SlotIx) : (s.returnOne i).lasting = s.lasting := by
  unfold State.returnOne
  split
  · next h => exact State.lasting_returnClaim (State.lasting_slot h)
  · next h => exact State.lasting_returnStream (State.lasting_slot h)
  · next h => exact State.lasting_returnExchange (State.lasting_slot h)
  all_goals rfl

@[simp] theorem State.lasting_takeLinkReturn (s : State) : s.takeLinkReturn.lasting = s.lasting := by
  unfold State.takeLinkReturn
  split
  · rfl
  · dsimp only
    rw [State.lasting_arbitrate]
    split
    · rw [State.lasting_foldl State.lasting_returnOne]; simp
    · simp

theorem State.lasting_placeDueOne (s : State) (i : SlotIx) : (s.placeDueOne i).lasting = s.lasting := by
  unfold State.placeDueOne
  split
  · next h => exact State.lasting_placeClaimDue (State.lasting_slot h)
  · next h => exact State.lasting_placeStreamDue (State.lasting_slot h)
  · next h => exact State.lasting_placeExchangeDue (State.lasting_slot h)
  all_goals rfl

@[simp] theorem State.lasting_takeStnRdy (high : Bool) (s : State) : (s.takeStnRdy high).lasting = s.lasting := by
  unfold State.takeStnRdy; split <;> simp

@[simp] theorem State.lasting_nextPassing (s : State) : s.nextPassing.lasting = s.lasting := by
  unfold State.nextPassing; split <;> simp

@[simp] theorem State.lasting_takeDeliveryEnd (s : State) : s.takeDeliveryEnd.lasting = s.lasting := by
  unfold State.takeDeliveryEnd
  split
  · rfl
  · simp
  · dsimp only; split <;> simp

@[simp] theorem State.lasting_takeover (s : State) (bytes : List Byte) : (s.takeover bytes).lasting = s.lasting :=
  State.lasting_foldl (State.lasting_takeoverOne bytes) _ _

/-- Outside HOME a taken station frame keeps the lasting part; in HOME it may be tracked (R124, R128). -/
theorem State.lasting_takeStationFrame (s : State) (f : Frame) (h : s.custody.state ≠ .home) :
    (s.takeStationFrame f).lasting = s.lasting := by
  have htests : (s.stationTests f).lasting = s.lasting := by
    unfold State.stationTests
    split
    case h_1 hs => exact absurd hs h
    all_goals simp
  simp [State.takeStationFrame, htests]

end Transmission

/-! ## Custody keeps the lasting part -/

section CustodyUnit

@[simp] theorem startRecord_lasting (now : Time) (up : Bool) (r : Record) : (startRecord now up r).lasting = r.lasting := by
  cases r with
  | claim c =>
    dsimp only [startRecord]
    split
    · split <;> rfl
    · rfl
  | responder r => rfl
  | filter f => rfl
  | stream t => rfl
  | exchange x => rfl

theorem State.lasting_startRecords (s : State) : s.startRecords.lasting = s.lasting := by
  have hslots : s.startRecords.lasting.slots = s.lasting.slots := by
    simp only [State.lasting, State.startRecords, State.setTable, Vector.map_map]
    congr 1
    funext r
    cases r <;> simp
  simp only [State.lasting] at hslots ⊢
  rw [hslots]
  rfl

theorem State.lasting_firstProbe (s : State) (i : SlotIx) : (s.firstProbe i).lasting = s.lasting := by
  unfold State.firstProbe
  split
  · next h => split <;> simp [State.lasting_claimAt h]
  · rfl

theorem State.lasting_lendSuccess (s : State) : s.lendSuccess.lasting = s.lasting := by
  simp [State.lendSuccess, State.restartGuard, State.lasting_foldl State.lasting_firstProbe, State.lasting_startRecords]

theorem State.lasting_checkStep (s : State) : s.checkStep.lasting = s.lasting := by
  unfold State.checkStep
  split
  · rfl
  · split <;> simp [State.checkFailed]
  · split
    · simp [State.checkFailed]
    · split
      · simp
      · exact State.lasting_lendSuccess s

theorem State.lasting_reclaimOne (s : State) (i : SlotIx) : (s.reclaimOne i).lasting = s.lasting := by
  unfold State.reclaimOne
  split
  · next h => simp [State.lasting_slot h]
  · next h => simp [State.lasting_slot h]
  · next h => dsimp only; split <;> simp [State.lasting_slot h]
  all_goals rfl

@[simp] theorem State.lasting_takeReclaim (s : State) : s.takeReclaim.lasting = s.lasting := by
  simp [State.takeReclaim, State.lasting_foldl State.lasting_reclaimOne]

@[simp] theorem State.lasting_takeDiscard (s : State) : s.takeDiscard.lasting = s.lasting := by
  simp [State.takeDiscard]

theorem State.lasting_serveReclaim (s : State) (p : Port) (payload : List Byte) :
    (s.serveReclaim p payload).1.lasting = s.lasting := by
  unfold State.serveReclaim
  split
  · rfl
  · split
    case h_5 | h_6 => split <;> simp
    all_goals rfl

theorem State.lasting_takeRecall (s : State) (discard : Bool) : (s.takeRecall discard).1.lasting = s.lasting := by
  unfold State.takeRecall
  split
  case h_1 => rfl
  case h_2 => simp
  all_goals cases discard <;> simp

theorem State.lasting_serveRecall (s : State) (p : Port) (payload : List Byte) :
    (s.serveRecall p payload).1.lasting = s.lasting := by
  unfold State.serveRecall
  split
  · rfl
  · split
    · rfl
    · split
      · split
        · exact s.lasting_takeRecall false
        · split
          · exact s.lasting_takeRecall true
          · rfl
      · rfl

end CustodyUnit

end Sys2Proof.Machine

end

section
/-! SUPPORT. Requests and commands: which of them may change the lasting part of the state, and that outside HOME none but a reset
does (R23, R26, R129). -/

namespace Sys2Proof.Machine

/-! ## Requests -/

/-- The requests whose owner may change the lasting part: each is taken in HOME alone (R15, R20, R26, R62, R172). -/
def requestWritesTable : RequestKind → Bool
  | .putSlot | .clearSlot | .poolWrite | .setPolicy | .softReset => true
  | .getSlot | .poolRead | .lend | .reclaim | .recall | .getPolicy | .readStatus | .readChanges | .readReport
  | .takeSample | .releaseSample | .storeRead | .storeErase | .storeProgram => false

section Requests
variable (s : State) (p : Port) (payload : List Byte)

theorem State.serveGetSlot_fst : (s.serveGetSlot p payload).1 = s := by
  unfold State.serveGetSlot; split <;> rfl

theorem State.servePoolRead_fst : (s.servePoolRead p payload).1 = s := by
  unfold State.servePoolRead
  split
  · rfl
  · split
    · rfl
    · dsimp only; split <;> rfl

theorem State.lasting_serveLend : (s.serveLend p payload).1.lasting = s.lasting := by
  unfold State.serveLend
  split
  · rfl
  · split
    · rfl
    · split <;> simp

theorem State.serveGetPolicy_fst : (s.serveGetPolicy p payload).1 = s := by
  unfold State.serveGetPolicy
  split
  · rfl
  · split <;> rfl

theorem State.serveReadStatus_fst : (s.serveReadStatus p payload).1 = s := by
  unfold State.serveReadStatus; split <;> rfl

theorem State.serveReadChanges_fst : (s.serveReadChanges p payload).1 = s := by
  unfold State.serveReadChanges
  split
  · split
    · rfl
    · dsimp only; split <;> rfl
  · rfl

theorem State.lasting_serveReadReport : (s.serveReadReport p payload).1.lasting = s.lasting := by
  unfold State.serveReadReport
  split
  · rfl
  · cases p <;> rfl

theorem State.serveTakeSample_fst : (s.serveTakeSample p payload).1 = s := by
  unfold State.serveTakeSample
  split
  · rfl
  · split
    · rfl
    · dsimp only
      split
      · rfl
      · split <;> rfl

theorem State.lasting_serveReleaseSample : (s.serveReleaseSample p payload).1.lasting = s.lasting := by
  unfold State.serveReleaseSample
  split
  · rfl
  · split
    · rfl
    · split
      · rfl
      · split <;> rfl

theorem State.serveStoreRead_fst : (s.serveStoreRead p payload).1 = s := by
  unfold State.serveStoreRead
  split
  · split
    · rfl
    · split <;> rfl
  · rfl

theorem State.lasting_serveStoreErase : (s.serveStoreErase p payload).1.lasting = s.lasting := by
  unfold State.serveStoreErase
  split
  · rfl
  · split
    · split
      · rfl
      · split
        · rfl
        · split <;> rfl
    · rfl

theorem State.lasting_serveStoreProgram : (s.serveStoreProgram p payload).1.lasting = s.lasting := by
  unfold State.serveStoreProgram
  split
  · rfl
  · split
    · split
      · rfl
      · split
        · rfl
        · split
          · rfl
          · split
            · rfl
            · split <;> rfl
    · rfl

/-- A request that writes no table keeps the lasting part in every custody state. -/
theorem State.lasting_serve_of_read {kind : RequestKind} (h : requestWritesTable kind = false) :
    (s.serve p kind payload).1.lasting = s.lasting := by
  cases kind
  case putSlot | clearSlot | poolWrite | setPolicy | softReset => cases h
  case getSlot => exact congrArg _ (s.serveGetSlot_fst p payload)
  case poolRead => exact congrArg _ (s.servePoolRead_fst p payload)
  case lend => exact s.lasting_serveLend p payload
  case reclaim => exact s.lasting_serveReclaim p payload
  case getPolicy => exact congrArg _ (s.serveGetPolicy_fst p payload)
  case readStatus => exact congrArg _ (s.serveReadStatus_fst p payload)
  case readChanges => exact congrArg _ (s.serveReadChanges_fst p payload)
  case readReport => exact s.lasting_serveReadReport p payload
  case takeSample => exact congrArg _ (s.serveTakeSample_fst p payload)
  case releaseSample => exact s.lasting_serveReleaseSample p payload
  case storeRead => exact congrArg _ (s.serveStoreRead_fst p payload)
  case storeErase => exact s.lasting_serveStoreErase p payload
  case storeProgram => exact s.lasting_serveStoreProgram p payload
  -- RECALL is the one left: its constructor's name is a word of Lean's.
  exact s.lasting_serveRecall p payload

variable {s}

theorem State.servePutSlot_fst_of_lent (h : s.custody.state ≠ .home) : (s.servePutSlot p payload).1 = s := by
  unfold State.servePutSlot
  split <;> rfl

theorem State.serveClearSlot_fst_of_lent (h : s.custody.state ≠ .home) : (s.serveClearSlot p payload).1 = s := by
  unfold State.serveClearSlot
  split <;> rfl

theorem State.servePoolWrite_fst_of_lent (h : s.custody.state ≠ .home) : (s.servePoolWrite p payload).1 = s := by
  unfold State.servePoolWrite
  split <;> rfl

theorem State.serveSoftReset_fst_of_lent (h : s.custody.state ≠ .home) : (s.serveSoftReset p payload).1 = s := by
  unfold State.serveSoftReset
  split <;> rfl

/-- Outside HOME SET_POLICY stores condition flags alone (R172). -/
theorem State.lasting_serveSetPolicy_of_lent (h : s.custody.state ≠ .home) :
    (s.serveSetPolicy p payload).1.lasting = s.lasting := by
  unfold State.serveSetPolicy
  split
  · rfl
  · next item index _ =>
    split
    · rfl
    · split
      · rfl
      · next hflag =>
        split
        · rfl
        · have hitem : item ≠ .stationAddress := by rintro rfl; exact hflag ⟨rfl, h⟩
          unfold State.storePolicy
          split
          · exact absurd rfl hitem
          · rfl

/-- Outside HOME every request keeps the lasting part. -/
theorem State.lasting_serve_of_lent (kind : RequestKind) (h : s.custody.state ≠ .home) :
    (s.serve p kind payload).1.lasting = s.lasting := by
  cases hk : requestWritesTable kind with
  | false => exact s.lasting_serve_of_read p payload hk
  | true =>
    cases kind
    case putSlot => exact congrArg _ (s.servePutSlot_fst_of_lent p payload h)
    case clearSlot => exact congrArg _ (s.serveClearSlot_fst_of_lent p payload h)
    case poolWrite => exact congrArg _ (s.servePoolWrite_fst_of_lent p payload h)
    case setPolicy => exact s.lasting_serveSetPolicy_of_lent p payload h
    case softReset => exact congrArg _ (s.serveSoftReset_fst_of_lent p payload h)
    all_goals cases hk

/-- A taken request leaves the lasting part its owner leaves, or the one it found. -/
theorem State.lasting_takeRequest_cases (s : State) (kind : RequestKind) :
    (s.takeRequest p kind payload).lasting = s.lasting ∨
      (s.takeRequest p kind payload).lasting = (s.serve p kind payload).1.lasting := by
  unfold State.takeRequest
  split
  · simp
  · right
    split
    · next h => simp [h]
    · next h => simp [h]

/-- A request that comes in keeps the lasting part, or is taken with nothing but the ports and the clock changed. -/
theorem State.receive_cases (s : State) (kind : RequestKind) :
    (s.receive p kind payload).lasting = s.lasting ∨
      ∃ u : State, u.lasting = s.lasting ∧ u.custody = s.custody ∧ s.receive p kind payload = u.takeRequest p kind payload := by
  have hout : (s.shiftHeldOut p).lasting = s.lasting ∧ (s.shiftHeldOut p).custody = s.custody := by
    cases p <;> simp [State.shiftHeldOut]
  unfold State.receive State.takeIf
  split
  · dsimp only
    split
    · left; unfold State.receiveMalformed; split <;> simp [State.noteBusy, hout]
    · unfold State.receiveFramed
      split
      · left; simp [State.noteBusy, hout]
      · unfold State.takeOrDefer
        split
        · right
          refine ⟨_, ?_, ?_, rfl⟩
          · simp [hout]
          · unfold State.wake; split <;> simp [hout]
        · left; simp [hout]
  · exact .inl rfl

/-- A request that writes no table keeps the lasting part as it comes in. -/
theorem State.lasting_receive_of_read (s : State) {kind : RequestKind} (h : requestWritesTable kind = false) :
    (s.receive p kind payload).lasting = s.lasting := by
  rcases s.receive_cases p payload kind with hr | ⟨u, hu, -, hr⟩
  · exact hr
  · rw [hr]
    rcases u.lasting_takeRequest_cases p payload kind with ht | ht
    · rw [ht, hu]
    · rw [ht, u.lasting_serve_of_read p payload h, hu]

/-- Outside HOME every request keeps the lasting part as it comes in. -/
theorem State.lasting_receive_of_lent (kind : RequestKind) (h : s.custody.state ≠ .home) :
    (s.receive p kind payload).lasting = s.lasting := by
  rcases s.receive_cases p payload kind with hr | ⟨u, hu, hc, hr⟩
  · exact hr
  · rw [hr]
    rcases u.lasting_takeRequest_cases p payload kind with ht | ht
    · rw [ht, hu]
    · rw [ht, State.lasting_serve_of_lent p payload kind (hc ▸ h), hu]

/-- A message keeps the lasting part, or comes in as a request. -/
theorem State.receiveMessage_cases (s : State) (message : List Byte) :
    (s.receiveMessage p message).lasting = s.lasting ∨
      ∃ kind payload, s.receiveMessage p message = s.receive p kind payload := by
  have hout : (s.shiftHeldOut p).lasting = s.lasting := by cases p <;> rfl
  unfold State.receiveMessage
  split
  · exact .inl (State.lasting_takeIf hout)
  · left
    refine State.lasting_takeIf ?_
    unfold State.receiveMalformed; split <;> simp [State.noteBusy, hout]
  · exact .inr ⟨_, _, rfl⟩

end Requests

/-! ## The profile load -/

@[simp] theorem State.lasting_endLoad (s : State) (fault answers : Bool) : (s.endLoad fault answers).lasting = s.lasting := by
  unfold State.endLoad; dsimp only; split <;> simp

@[simp] theorem State.lasting_startLoad (s : State) (answers : Bool) : (s.startLoad answers).lasting = s.lasting := by
  unfold State.startLoad; split <;> simp

/-- One record of the load leaves the lasting part its request leaves, or the one it found (R189). -/
theorem State.lasting_loadRecord_cases (s : State) (l : ProfileLoad) :
    (s.loadRecord l).lasting = s.lasting ∨
      ∃ kind body, (s.loadRecord l).lasting = (s.serve .system kind body).1.lasting := by
  unfold State.loadRecord
  dsimp only
  split
  · simp
  · split
    · simp
    · split
      · simp
      · split
        · simp
        · next u r hrec =>
          have hserve : ∃ kind body, u = (s.serve .system kind body).1 := by
            unfold State.serveRecord at hrec
            split at hrec
            · exact ⟨.putSlot, _, (congrArg Prod.fst (Option.some.inj hrec)).symm⟩
            · exact ⟨.poolWrite, _, (congrArg Prod.fst (Option.some.inj hrec)).symm⟩
            · exact ⟨.setPolicy, _, (congrArg Prod.fst (Option.some.inj hrec)).symm⟩
            · cases hrec
          obtain ⟨kind, body, rfl⟩ := hserve
          split
          · simp
          · right
            refine ⟨kind, body, ?_⟩
            split <;> simp

/-! ## Commands -/

/-- The commands that may change the lasting part in some custody state: the requests taken in HOME alone and a message that
may be one, the load, the takings of frames that are tracked in HOME, what waits for the end of warm-up, and the resets. -/
def mayWriteTable : Instr → Bool
  | .putSlot _ _ | .clearSlot _ _ | .poolWrite _ _ | .setPolicy _ _ | .softReset _ _ | .unknownRequest _ _
  | .profileRecord | .frameTaking | .stationFrameTaking _ _ | .warmUpEnd | .powerOn | .rstN | .resetRelease
  | .powerLoss => true
  | .getSlot _ _ | .poolRead _ _ | .lend _ _ | .reclaim _ _ | .recall _ _ | .getPolicy _ _ | .readStatus _ _
  | .readChanges _ _ | .readReport _ _ | .takeSample _ _ | .releaseSample _ _ | .storeRead _ _ | .storeErase _ _
  | .storeProgram _ _ | .poll _ | .responseRead _ _ | .lendCheckStep | .storeEraseDone | .storeProgramDone
  | .lineFrameStart | .lineFrameArrival _ _ | .stationFrameStart | .grant | .transmitComplete | .lineLinkDrop
  | .lineLinkReturn | .stnRdyChange _ | .deliveryEnd | .tick | .dueItemPlacement | .probeSpacingExpiry _
  | .defenceWindowExpiry _ | .streamPeriodExpiry _ | .retrySpacingExpiry _ | .exchangeNextDue _ | .replyWaitExpiry _
  | .floodWindowEnd | .dozeEntry | .warmUpStart _ => false

@[simp] theorem State.lasting_startLineFrame (s : State) : s.startLineFrame.lasting = s.lasting := by
  unfold State.startLineFrame; split <;> simp

@[simp] theorem State.lasting_lineFrameArrives (s : State) (f : Frame) : (s.lineFrameArrives f).lasting = s.lasting := by
  unfold State.lineFrameArrives
  split
  · rfl
  · rfl
  · split <;> simp

@[simp] theorem State.lasting_storeIdle (s : State) : s.storeIdle.lasting = s.lasting := by simp [State.storeIdle]

@[simp] theorem State.lasting_writePage (s : State) (page : Nat) (bytes : List Byte) :
    (s.writePage page bytes).lasting = s.lasting := rfl

@[simp] theorem State.lasting_judgeWindow (s : State) : s.judgeWindow.lasting = s.lasting := by
  unfold State.judgeWindow
  dsimp only
  split
  · split
    · split <;> simp
    · simp
  · split <;> simp

/-- Every other command keeps the lasting part, in every custody state. -/
theorem exec_lasting_of_not_mayWriteTable {c : Instr} {s t : State} (hc : mayWriteTable c = false)
    (h : exec c s = .next t) : t.lasting = s.lasting := by
  cases c
  case getSlot | poolRead | lend | reclaim | getPolicy | readStatus | readChanges | readReport | takeSample
      | releaseSample | storeRead | storeErase | storeProgram =>
    cases h; exact State.lasting_receive_of_read _ _ s rfl
  case poll | responseRead => cases h; exact State.lasting_takeIf (by simp)
  case lendCheckStep => cases h; exact State.lasting_takeIf s.lasting_checkStep
  case storeEraseDone | storeProgramDone => cases h; refine State.lasting_takeIf ?_; split <;> simp
  case lineFrameStart | lineFrameArrival | stationFrameStart => cases h; exact State.lasting_takeIf (by simp)
  case grant => cases h; exact State.lasting_takeIf s.lasting_arbitrate
  case transmitComplete => cases h; refine State.lasting_takeIf ?_; split <;> simp
  case lineLinkDrop | lineLinkReturn | stnRdyChange =>
    cases h
    refine State.lasting_takeIf ?_
    dsimp only
    refine (State.lasting_takeIf ?_).trans (State.lasting_setPins _ _)
    exact (State.lasting_takeOrDefer (by simp)).trans (by simp)
  case deliveryEnd => cases h; exact State.lasting_takeIf (State.lasting_takeOrDefer (by simp))
  case tick => cases h; exact State.lasting_takeIf s.lasting_takeTick
  case dueItemPlacement => cases h; exact State.lasting_takeIf (State.lasting_foldl State.lasting_placeDueOne _ _)
  case probeSpacingExpiry i => cases h; exact s.lasting_takeProbeSpacing i
  case defenceWindowExpiry i => cases h; exact s.lasting_takeDefenceWindow i
  case streamPeriodExpiry i => cases h; exact s.lasting_takePeriod i
  case retrySpacingExpiry i => cases h; exact s.lasting_takeRetry i
  case exchangeNextDue i => cases h; exact s.lasting_takeNextDue i
  case replyWaitExpiry i => cases h; exact s.lasting_takeReplyWait i
  case floodWindowEnd => cases h; exact State.lasting_takeIf (by simp [State.startWindow])
  case dozeEntry => cases h; exact State.lasting_takeIf rfl
  case warmUpStart => cases h; exact State.lasting_takeIf s.lasting_wake
  case putSlot | clearSlot | poolWrite | setPolicy | softReset | unknownRequest | profileRecord | frameTaking
      | stationFrameTaking | warmUpEnd | powerOn | rstN | resetRelease | powerLoss => cases hc
  -- RECALL is the one left: its constructor's name is a word of Lean's.
  cases h
  exact State.lasting_receive_of_read _ _ s rfl

/-- Outside HOME every command but a reset keeps the lasting part, where nothing waits for the end of warm-up. -/
theorem exec_lasting_of_lent {c : Instr} {s t : State} (hcus : s.custody.state ≠ .home) (hw : s.clk.waiting = [])
    (hr : isReset c = false) (h : exec c s = .next t) : t.lasting = s.lasting := by
  cases hc : mayWriteTable c with
  | false => exact exec_lasting_of_not_mayWriteTable hc h
  | true =>
    cases c
    case putSlot p b | clearSlot p b | poolWrite p b | setPolicy p b | softReset p b =>
      cases h; exact State.lasting_receive_of_lent p b _ hcus
    case unknownRequest p m =>
      cases h
      rcases s.receiveMessage_cases p m with hm | ⟨kind, b, hm⟩
      · exact hm
      · exact (congrArg _ hm).trans (State.lasting_receive_of_lent p b kind hcus)
    case profileRecord =>
      cases h
      refine State.lasting_takeIf ?_
      split
      · rfl
      · next l _ =>
        rcases s.lasting_loadRecord_cases l with hl | ⟨kind, b, hl⟩
        · exact hl
        · exact hl.trans (State.lasting_serve_of_lent _ b kind hcus)
    case frameTaking =>
      cases h
      refine State.lasting_takeIf ?_
      split
      · rfl
      · exact State.lasting_takeFrame _ _ hcus
    case stationFrameTaking =>
      cases h
      refine State.lasting_takeIf ?_
      unfold State.stationFrameEnds
      split
      · rfl
      · dsimp only
        split
        · split
          · exact State.lasting_takeStationFrame _ _ hcus
          · rfl
        · rfl
    case warmUpEnd =>
      cases h
      refine State.lasting_takeIf ?_
      simp [State.endWarmUp, hw]
    case powerOn | rstN | resetRelease | powerLoss => cases hr
    all_goals cases hc

/-- The configurations of the table are part of its lasting part. -/
theorem State.configs_eq (s : State) : s.configs = s.lasting.slots.toList.map (Option.map Prod.fst) := by
  simp only [State.configs, State.lasting, Vector.toList_map, List.map_map]
  refine List.map_congr_left fun r _ => ?_
  cases r <;> rfl

/-- The sequence values of the table are part of its lasting part. -/
theorem State.seqValues_eq (s : State) : s.seqValues = s.lasting.slots.toList.map (Option.bind · Prod.snd) := by
  simp only [State.seqValues, State.lasting, Vector.toList_map, List.map_map]
  refine List.map_congr_left fun r _ => ?_
  cases r <;> rfl

end Sys2Proof.Machine

open Sys2Proof Sys2Proof.Machine

/-- Settles O27: no taking outside HOME but a reset changes the lasting part of the state, which holds the pool, the
configurations, the sequence values and the station address. -/
theorem lentTableIsFixed : Obligations.LentTableIsFixed := by
  intro c s t hcus hw hr h
  have hl : t.lasting = s.lasting := exec_lasting_of_lent hcus hw hr h
  refine ⟨congrArg Lasting.pool hl, ?_, ?_, congrArg Lasting.stationAddr hl⟩
  · rw [State.configs_eq, State.configs_eq, hl]
  · rw [State.seqValues_eq, State.seqValues_eq, hl]

end

section
/-! SUPPORT. The kind counts (R2): they stay exact where the configurations stay, and the requests that write a slot move them with
it. -/

namespace Sys2Proof.Machine

/-! ## The kind counts -/

/-- Records with the same configuration are both of a kind or neither. -/
def KindPredicate (isKind : Record → Bool) : Prop := ∀ r r' : Record, r.config = r'.config → isKind r = isKind r'

/-- A test that looks at the configuration alone. -/
theorem KindPredicate.of_config {isKind : Record → Bool} (f : RecordConfig → Bool) (h : ∀ r, isKind r = f r.config) :
    KindPredicate isKind := fun r r' hr => by rw [h, h, hr]

theorem isClaim_kind : KindPredicate Record.isClaim :=
  .of_config (fun | .claim _ => true | _ => false) fun r => by cases r <;> rfl

theorem isStream_kind : KindPredicate Record.isStream :=
  .of_config (fun | .stream _ => true | _ => false) fun r => by cases r <;> rfl

theorem isExchange_kind : KindPredicate Record.isExchange :=
  .of_config (fun | .exchange _ => true | _ => false) fun r => by cases r <;> rfl

/-- Tables with the same configurations hold as many records of each kind. -/
theorem tally_of_configs {isKind : Record → Bool} (hk : KindPredicate isKind) {s t : State} (h : t.configs = s.configs) :
    t.tally isKind = s.tally isKind := by
  have key : ∀ l l' : List (Option Record), l.map (Option.map Record.config) = l'.map (Option.map Record.config) →
      (l.filter fun r => r.any isKind).length = (l'.filter fun r => r.any isKind).length := by
    intro l
    induction l with
    | nil =>
      intro l' h
      have : l' = [] := by simpa using h.symm
      rw [this]
    | cons a l ih =>
      rintro (_ | ⟨b, l'⟩) h
      · cases h
      · obtain ⟨hab, hl⟩ := List.cons.inj h
        have hany : a.any isKind = b.any isKind := by
          cases a <;> cases b
          · rfl
          · cases hab
          · cases hab
          · exact hk _ _ (Option.some.inj hab)
        simp only [List.filter_cons, hany]
        split
        · simp [ih l' hl]
        · exact ih l' hl
  exact key _ _ h

/-- The counts stay exact where neither they nor a configuration changes. -/
theorem countsSound_of_configs {s t : State} (hn : t.table.counts = s.table.counts) (hc : t.configs = s.configs)
    (h : s.countsSound) : t.countsSound := by
  unfold State.countsSound at *
  rw [hn, tally_of_configs isClaim_kind hc, tally_of_configs isStream_kind hc, tally_of_configs isExchange_kind hc]
  exact h

/-- The counts stay exact where the lasting part stays. -/
theorem countsSound_of_lasting {s t : State} (hl : t.lasting = s.lasting) (h : s.countsSound) : t.countsSound := by
  refine countsSound_of_configs (congrArg Lasting.counts hl) ?_ h
  rw [State.configs_eq, State.configs_eq, hl]

/-- The counts stay exact where the table stays. -/
theorem countsSound_of_table {s t : State} (ht : t.table = s.table) (h : s.countsSound) : t.countsSound :=
  countsSound_of_configs (congrArg _ ht) (by simp [State.configs, ht]) h

/-- The counts of the empty table are exact. -/
theorem countsSound_of_reset {s : State} (ht : s.table = State.reset.table) : s.countsSound := by
  refine countsSound_of_table ht ?_
  simp [State.countsSound, State.tally, State.reset, KindCounts.within]

/-- The tally of a kind after a slot's contents are replaced. -/
theorem tally_replaceSlot (s : State) (i : SlotIx) (r : Option Record) (n : KindCounts) (isKind : Record → Bool) :
    (s.replaceSlot i r n).tally isKind =
      s.tally isKind - (if (s.slot i).any isKind then 1 else 0) + (if r.any isKind then 1 else 0) := by
  simp only [State.tally, State.replaceSlot, State.setTable, State.slot, Vector.get_eq_getElem, ← List.countP_eq_length_filter]
  rw [Vector.toList_set, List.countP_set (by simp), Vector.getElem_toList]
  rfl

/-- The counts after a slot's contents are taken out of them and others put in. -/
theorem KindCounts.remove_eq (n : KindCounts) (r : Option Record) :
    n.remove r = { claims := n.claims - (if r.any Record.isClaim then 1 else 0)
                   streams := n.streams - (if r.any Record.isStream then 1 else 0)
                   exchanges := n.exchanges - (if r.any Record.isExchange then 1 else 0) } := by
  rcases r with _ | r
  · rfl
  · cases r <;> rfl

theorem KindCounts.add_eq (n : KindCounts) (r : Record) :
    n.add r = { claims := n.claims + (if r.isClaim then 1 else 0)
                streams := n.streams + (if r.isStream then 1 else 0)
                exchanges := n.exchanges + (if r.isExchange then 1 else 0) } := by
  cases r <;> rfl

/-- Taking out keeps the counts within their limits. -/
theorem KindCounts.within_remove {n : KindCounts} (r : Option Record) (h : n.within = true) :
    (n.remove r).within = true := by
  simp only [KindCounts.within, Bool.and_eq_true, decide_eq_true_eq] at h ⊢
  simp only [KindCounts.remove_eq]
  omega

/-- A record written with its kind count within the limits keeps the counts exact (R2, R18). -/
theorem countsSound_put {s : State} {i : SlotIx} {r : Record} (h : s.countsSound)
    (hw : ((s.table.counts.remove (s.slot i)).add r).within = true) :
    (s.replaceSlot i (some r) ((s.table.counts.remove (s.slot i)).add r)).countsSound := by
  obtain ⟨hc, hs, hx, -⟩ := h
  have hn : (s.replaceSlot i (some r) ((s.table.counts.remove (s.slot i)).add r)).table.counts =
      (s.table.counts.remove (s.slot i)).add r := rfl
  unfold State.countsSound
  rw [hn]
  refine ⟨?_, ?_, ?_, hw⟩
  all_goals rw [tally_replaceSlot, KindCounts.add_eq, KindCounts.remove_eq]
  · simp [hc]
  · simp [hs]
  · simp [hx]

/-- A record removed with its kind count lowered keeps the counts exact (R2, R20). -/
theorem countsSound_clear {s : State} {i : SlotIx} (h : s.countsSound) :
    (s.replaceSlot i none (s.table.counts.remove (s.slot i))).countsSound := by
  obtain ⟨hc, hs, hx, hw⟩ := h
  have hn : (s.replaceSlot i none (s.table.counts.remove (s.slot i))).table.counts =
      s.table.counts.remove (s.slot i) := rfl
  unfold State.countsSound
  rw [hn]
  refine ⟨?_, ?_, ?_, KindCounts.within_remove _ hw⟩
  all_goals rw [tally_replaceSlot, KindCounts.remove_eq]
  · simp [hc]
  · simp [hs]
  · simp [hx]

/-! ## Tracking keeps the configurations (R128) -/

/-- The slots of the table, in ascending slot index. -/
theorem State.slots_toList (s : State) : s.table.slots.toList = slotIndices.map s.slot := by
  apply List.ext_getElem
  · simp [slotIndices]
  · intro k h1 h2
    simp [slotIndices, State.slot, Vector.get_eq_getElem]

/-- Configurations slot by slot. -/
theorem configs_of_slots {s t : State} (h : ∀ k, (t.slot k).map Record.config = (s.slot k).map Record.config) :
    t.configs = s.configs := by
  simp only [State.configs, State.slots_toList, List.map_map]
  exact List.map_congr_left fun k _ => h k

/-- A stream whose values are judged keeps the counts exact. -/
theorem countsSound_setStream {s : State} {i : SlotIx} {x x' : Stream} (hx : s.streamAt i = some x) (hcfg : x'.cfg = x.cfg)
    (h : s.countsSound) : (s.setSlot i (some (.stream x'))).countsSound := by
  refine countsSound_of_configs (by rfl) (configs_of_slots fun k => ?_) h
  rw [State.slot_setSlot]
  split
  · next e =>
    subst e
    rw [(s.streamAt_eq_some i x).1 hx]
    simp [Record.config, hcfg]
  · rfl

/-- A run keeps the counts exact where each of its steps does. -/
theorem countsSound_foldl {α : Type} {f : State → α → State} (hf : ∀ s a, s.countsSound → (f s a).countsSound) (l : List α)
    {s : State} (h : s.countsSound) : (l.foldl f s).countsSound := by
  induction l generalizing s with
  | nil => exact h
  | cons a l ih => exact ih (hf s a h)

theorem countsSound_trackInboundOne (bytes : List Byte) (s : State) (i : SlotIx) (h : s.countsSound) :
    (s.trackInboundOne bytes i).countsSound := by
  unfold State.trackInboundOne
  split
  · exact h
  · next hx =>
    split
    · exact countsSound_setStream hx rfl h
    · exact h

theorem countsSound_trackOutboundOne (bytes : List Byte) (s : State) (i : SlotIx) (h : s.countsSound) :
    (s.trackOutboundOne bytes i).countsSound := by
  unfold State.trackOutboundOne
  split
  · exact h
  · next hx =>
    split
    · exact countsSound_setStream hx rfl h
    · exact h

theorem countsSound_trackInbound {s : State} (bytes : List Byte) (h : s.countsSound) :
    (s.trackInbound bytes).countsSound := by
  unfold State.trackInbound
  exact countsSound_foldl (countsSound_trackInboundOne bytes) _ h

theorem countsSound_trackOutbound {s : State} (bytes : List Byte) (h : s.countsSound) :
    (s.trackOutbound bytes).countsSound := by
  unfold State.trackOutbound
  exact countsSound_foldl (countsSound_trackOutboundOne bytes) _ h

theorem countsSound_takeFrame {s : State} (f : Frame) (h : s.countsSound) : (s.takeFrame f).countsSound := by
  by_cases hc : s.custody.state = .home
  · have hp := countsSound_of_lasting (s.lasting_passToStation f) h
    simp only [State.takeFrame, hc]
    split
    · exact countsSound_trackInbound _ hp
    · exact hp
  · exact countsSound_of_lasting (s.lasting_takeFrame f hc) h

theorem countsSound_takeStationFrame {s : State} (f : Frame) (h : s.countsSound) :
    (s.takeStationFrame f).countsSound := by
  by_cases hc : s.custody.state = .home
  · have ht : (s.stationTests f) = s.trackOutbound f.bytes := by simp [State.stationTests, hc]
    simp only [State.takeStationFrame, ht]
    exact countsSound_of_lasting (State.lasting_setStn _ _) 
      (countsSound_trackOutbound f.bytes h)
  · exact countsSound_of_lasting (s.lasting_takeStationFrame f hc) h

/-! ## Requests keep the counts exact -/

@[simp] theorem State.startLoad_table (s : State) (answers : Bool) : (s.startLoad answers).table = s.table := by
  unfold State.startLoad State.endLoad
  split
  · rfl
  · dsimp only; split <;> simp

section Requests
variable {s : State} (p : Port) (payload : List Byte)

theorem countsSound_servePutSlot (h : s.countsSound) : (s.servePutSlot p payload).1.countsSound := by
  unfold State.servePutSlot
  split
  · exact h
  · split
    · exact h
    · split
      · exact h
      · dsimp only
        split
        · next hw => exact countsSound_put h hw
        · exact h

theorem countsSound_serveClearSlot (h : s.countsSound) : (s.serveClearSlot p payload).1.countsSound := by
  unfold State.serveClearSlot
  split
  · exact h
  · split
    · exact h
    · split
      · exact h
      · exact countsSound_clear h

theorem countsSound_servePoolWrite (h : s.countsSound) : (s.servePoolWrite p payload).1.countsSound := by
  unfold State.servePoolWrite
  split
  · exact h
  · split
    · exact h
    · split
      · exact h
      · dsimp only; split <;> exact h

theorem countsSound_serveSetPolicy (h : s.countsSound) : (s.serveSetPolicy p payload).1.countsSound := by
  unfold State.serveSetPolicy
  split
  · exact h
  · split
    · exact h
    · split
      · exact h
      · split
        · exact h
        · unfold State.storePolicy; split <;> exact h

theorem countsSound_serveSoftReset (h : s.countsSound) : (s.serveSoftReset p payload).1.countsSound := by
  unfold State.serveSoftReset
  split
  · exact h
  · split
    · exact h
    · split
      · exact h
      · split
        · exact h
        · exact countsSound_of_reset (by simp [State.softReset, State.resetBlocks])

theorem countsSound_serve (kind : RequestKind) (h : s.countsSound) : (s.serve p kind payload).1.countsSound := by
  cases hk : requestWritesTable kind with
  | false => exact countsSound_of_lasting (s.lasting_serve_of_read p payload hk) h
  | true =>
    cases kind
    case putSlot => exact countsSound_servePutSlot p payload h
    case clearSlot => exact countsSound_serveClearSlot p payload h
    case poolWrite => exact countsSound_servePoolWrite p payload h
    case setPolicy => exact countsSound_serveSetPolicy p payload h
    case softReset => exact countsSound_serveSoftReset p payload h
    all_goals cases hk

theorem countsSound_takeRequest (kind : RequestKind) (h : s.countsSound) : (s.takeRequest p kind payload).countsSound := by
  rcases s.lasting_takeRequest_cases p payload kind with ht | ht
  · exact countsSound_of_lasting ht h
  · exact countsSound_of_lasting ht (countsSound_serve p payload kind h)

theorem countsSound_receive (kind : RequestKind) (h : s.countsSound) : (s.receive p kind payload).countsSound := by
  rcases s.receive_cases p payload kind with hr | ⟨u, hu, -, hr⟩
  · exact countsSound_of_lasting hr h
  · rw [hr]; exact countsSound_takeRequest p payload kind (countsSound_of_lasting hu h)

end Requests

theorem countsSound_takeWaiting (s : State) (w : Waiting) (h : s.countsSound) : (s.takeWaiting w).countsSound := by
  cases w with
  | request p kind payload => exact countsSound_takeRequest p payload kind h
  | linkDrop => exact countsSound_of_lasting s.lasting_takeLinkDrop h
  | linkReturn => exact countsSound_of_lasting s.lasting_takeLinkReturn h
  | stationFrame =>
    simp only [State.takeWaiting, State.takeUntaken]
    split
    · exact h
    · exact countsSound_takeStationFrame _ (countsSound_of_lasting (State.lasting_setStn _ _) h)
  | stnRdy high => exact countsSound_of_lasting (s.lasting_takeStnRdy high) h
  | deliveryEnd => exact countsSound_of_lasting s.lasting_takeDeliveryEnd h

theorem countsSound_endWarmUp {s : State} (h : s.countsSound) : s.endWarmUp.countsSound :=
  countsSound_foldl countsSound_takeWaiting _ (countsSound_of_lasting (State.lasting_setClk _ _) h)

/-- A command's effect keeps the counts exact whether or not it is taken. -/
theorem countsSound_takeIf {s : State} {b : Bool} {effect : State → State} (h : s.countsSound)
    (he : (effect s).countsSound) : (s.takeIf b effect).countsSound := by
  unfold State.takeIf; split
  · exact he
  · exact h

/-- Every command keeps the counts exact. -/
theorem exec_countsSound {c : Instr} {s t : State} (hs : s.countsSound) (h : exec c s = .next t) : t.countsSound := by
  cases hc : mayWriteTable c with
  | false => exact countsSound_of_lasting (exec_lasting_of_not_mayWriteTable hc h) hs
  | true =>
    cases c
    case putSlot p b | clearSlot p b | poolWrite p b | setPolicy p b | softReset p b =>
      cases h; exact countsSound_receive p b _ hs
    case unknownRequest p m =>
      cases h
      rcases s.receiveMessage_cases p m with hm | ⟨kind, b, hm⟩
      · exact countsSound_of_lasting hm hs
      · rw [hm]; exact countsSound_receive p b kind hs
    case profileRecord =>
      cases h
      refine countsSound_takeIf hs ?_
      split
      · exact hs
      · next l _ =>
        rcases s.lasting_loadRecord_cases l with hl | ⟨kind, b, hl⟩
        · exact countsSound_of_lasting hl hs
        · exact countsSound_of_lasting hl (countsSound_serve _ b kind hs)
    case frameTaking =>
      cases h
      refine countsSound_takeIf hs ?_
      split
      · exact hs
      · exact countsSound_takeFrame _ (countsSound_of_lasting (State.lasting_setRx _ _) hs)
    case stationFrameTaking =>
      cases h
      refine countsSound_takeIf hs ?_
      unfold State.stationFrameEnds
      split
      · exact hs
      · dsimp only
        split
        · split
          · exact countsSound_takeStationFrame _ (countsSound_of_lasting (State.lasting_setStn _ _) hs)
          · exact hs
        · exact hs
    case warmUpEnd => cases h; exact countsSound_takeIf hs (countsSound_endWarmUp hs)
    case powerOn | powerLoss => cases h; exact countsSound_of_reset rfl
    case rstN => cases h; exact countsSound_takeIf hs (countsSound_of_reset rfl)
    case resetRelease => cases h; exact countsSound_takeIf hs (countsSound_of_reset (by simp [State.resetBlocks]))
    all_goals cases hc

end Sys2Proof.Machine

open Sys2Proof Sys2Proof.Machine

/-- Settles O58: the commands that write the table move counts and records together, all others leave both. -/
theorem kindCountsAreExact : Obligations.KindCountsAreExact := by
  intro s t hs h
  unfold step at h
  split at h
  · cases h; exact hs
  · refine exec_countsSound ?_ h
    exact countsSound_of_table (s := s) rfl hs

end

section
/-! SUPPORT. A request that is ready reaches its owner at once and is answered; CLEAR_SLOT and PUT_SLOT check by check; the state after
reset (R15, R18, R20, R24). -/

namespace Sys2Proof.Machine

/-! ## A request that reaches its owner at once (R180, R181) -/

section Ready
variable {s : State} {p : Port} {kind : RequestKind} {payload : List Byte}

/-- A ready request is taken at once, with its slot WORKING. -/
theorem State.receive_of_readyFor (h : s.readyFor p kind) (hl : payload.length ≤ 1024) :
    s.receive p kind payload = (s.working p).takeRequest p kind payload := by
  obtain ⟨hrun, hact, hslot, -⟩ := h
  have hout : s.shiftHeldOut p = s.setPort p { s.port p with out := s.outAfter p } := by cases p <;> rfl
  have hport : (s.shiftHeldOut p).port p = { s.port p with out := s.outAfter p } := by
    rw [hout, State.port_setPort, if_pos rfl]
  have hidle : (s.shiftHeldOut p).inProgress p = false := by simp [State.inProgress, hport, hslot]
  have hwork : (s.shiftHeldOut p).setPort p { (s.shiftHeldOut p).port p with slot := .working } = s.working p := by
    rw [hport, hout, State.setPort_setPort]; rfl
  have hact' : (s.working p).clk.state = .active := by simp [State.working, hact]
  have hwake : (s.working p).wake = s.working p := by simp [State.wake, hact']
  have hlen : ¬ Config.maxPayload < payload.length := Nat.not_lt.2 hl
  simp only [State.receive, State.takeIf, hrun, decide_true, if_true, hlen, if_false, State.receiveFramed, hidle,
    Bool.false_eq_true, hwork, hwake, State.takeOrDefer, hact']

/-- A request its owner answers in its own taking. -/
theorem State.takeRequest_answered {s1 : State} {r : Response} (hload : s.store.load = none ∨ handledDuringLoad kind = true)
    (hs : s.serve p kind payload = (s1, some r)) : s.takeRequest p kind payload = s1.respond p r := by
  have hload' : ¬ (s.store.load.isSome ∧ handledDuringLoad kind = false) := by
    rintro ⟨h1, h2⟩
    rcases hload with hload | hload
    · simp [hload] at h1
    · rw [hload] at h2; cases h2
  unfold State.takeRequest
  rw [if_neg hload', hs]

/-- A response that answers a request received is the only change. -/
@[simp] theorem State.working_respond (s : State) (p : Port) (r : Response) : (s.working p).respond p r = s.answered p r := by
  simp only [State.respond, State.working, State.port_setPort, if_true, State.setPort_setPort]
  rfl

/-- A request received changes the ports alone. -/
@[simp] theorem State.working_frame (s : State) (p : Port) :
    (s.working p).store = s.store ∧ (s.working p).custody = s.custody ∧ (s.working p).table = s.table ∧ (s.working p).pool = s.pool := by
  simp [State.working]

/-- What an owner answers in the request's own taking, with the table it leaves. -/
theorem State.receive_answered {s1 : State} {r : Response} (h : s.readyFor p kind) (hl : payload.length ≤ 1024)
    (hs : (s.working p).serve p kind payload = (s1, some r)) : s.receive p kind payload = s1.respond p r := by
  have hload : (s.working p).store.load = none ∨ handledDuringLoad kind = true := by
    rw [(State.working_frame s p).1]; exact h.2.2.2
  rw [State.receive_of_readyFor h hl, State.takeRequest_answered hload hs]

/-- A ready request that its owner answers without any other change. -/
theorem State.receive_refused {r : Response} (h : s.readyFor p kind) (hl : payload.length ≤ 1024)
    (hs : (s.working p).serve p kind payload = (s.working p, some r)) : s.receive p kind payload = s.answered p r := by
  rw [State.receive_answered h hl hs, State.working_respond]

@[simp] theorem State.working_slot (s : State) (p : Port) (i : SlotIx) : (s.working p).slot i = s.slot i := by
  simp [State.slot]

/-- A slot's contents and the counts replaced while a request waits for its answer. -/
theorem State.replaceSlot_working_respond (s : State) (p : Port) (i : SlotIx) (r : Option Record) (n : KindCounts)
    (x : Response) :
    ((s.working p).replaceSlot i r n).respond p x =
      (s.setTable { s.table with slots := s.table.slots.set i.val r i.isLt, counts := n }).answered p x := by
  cases p <;> rfl

end Ready

/-! ## The slot a payload names (R19, R20) -/

theorem slotOfPayload_ix (i : SlotIx) : slotOfPayload [BitVec.ofNat 8 i.val] = .ok i := by
  have hi : (BitVec.ofNat 8 i.val).toNat = i.val := by simp; omega
  simp [slotOfPayload, hi]

theorem slotOfPayload_malformed {payload : List Byte} (h : payload.length ≠ 1) :
    slotOfPayload payload = .error .malformed := by
  unfold slotOfPayload
  split
  · exact absurd rfl h
  · rfl

theorem slotOfPayload_outOfRange {b : Byte} (h : 127 < b.toNat) : slotOfPayload [b] = .error .outOfRange := by
  have : ¬ b.toNat < 128 := by omega
  simp [slotOfPayload, this]

/-! ## CLEAR_SLOT (R20) -/

section ClearSlot
variable {s : State} {payload : List Byte}

theorem State.serveClearSlot_platform : s.serveClearSlot .platform payload = (s, .bare .notPermitted) := by
  simp [State.serveClearSlot]

theorem State.serveClearSlot_wrongState (h : s.custody.state ≠ .home) :
    s.serveClearSlot .system payload = (s, .bare .wrongState) := by
  simp [State.serveClearSlot, h]

theorem State.serveClearSlot_error {e : Result} (h : s.custody.state = .home) (he : slotOfPayload payload = .error e) :
    s.serveClearSlot .system payload = (s, .bare e) := by
  simp [State.serveClearSlot, h, he]

theorem State.serveClearSlot_ok {i : SlotIx} (h : s.custody.state = .home) (hi : slotOfPayload payload = .ok i) :
    s.serveClearSlot .system payload = (s.replaceSlot i none (s.table.counts.remove (s.slot i)), .bare .done) := by
  simp [State.serveClearSlot, h, hi]

/-- An empty slot emptied changes nothing. -/
theorem State.setTable_clear_empty {i : SlotIx} (h : s.slot i = none) :
    s.setTable { s.table with
      slots := s.table.slots.set i.val none i.isLt, counts := s.table.counts.remove (s.slot i) } = s := by
  have hset := s.setSlot_self i none h
  rw [h]
  exact hset

end ClearSlot

/-! ## PUT_SLOT (R15, R18) -/

section PutSlot
variable {s : State} {payload : List Byte}

theorem State.servePutSlot_platform : s.servePutSlot .platform payload = (s, .bare .notPermitted) := by
  simp [State.servePutSlot]

theorem State.servePutSlot_wrongState (h : s.custody.state ≠ .home) :
    s.servePutSlot .system payload = (s, .bare .wrongState) := by
  simp [State.servePutSlot, h]

theorem State.servePutSlot_error {e : WalkFault} (h : s.custody.state = .home) (he : readImage payload = .error e) :
    s.servePutSlot .system payload = (s, putRefusal e.result e.offset) := by
  simp [State.servePutSlot, h, he]

theorem State.servePutSlot_full {i : SlotIx} {r : Record} (h : s.custody.state = .home)
    (hi : readImage payload = .ok (i, r)) (hw : ((s.table.counts.remove (s.slot i)).add r).within = false) :
    s.servePutSlot .system payload = (s, putRefusal .outOfRange 1) := by
  simp [State.servePutSlot, h, hi, hw]

theorem State.servePutSlot_ok {i : SlotIx} {r : Record} (h : s.custody.state = .home)
    (hi : readImage payload = .ok (i, r)) (hw : ((s.table.counts.remove (s.slot i)).add r).within = true) :
    s.servePutSlot .system payload =
      (s.replaceSlot i (some r) ((s.table.counts.remove (s.slot i)).add r), .bare .done) := by
  simp [State.servePutSlot, h, hi, hw]

end PutSlot

end Sys2Proof.Machine

open Sys2Proof Sys2Proof.Machine

/-- Settles O10: each check of CLEAR_SLOT is one answer of its owner, and a ready request is answered with it. -/
theorem clearSlotEmptiesTheSlot : Obligations.ClearSlotEmptiesTheSlot := by
  intro p payload s hl hr
  have hcus : (s.working p).custody.state = s.custody.state := by simp
  have refused : ∀ x, (s.working p).serveClearSlot p payload = (s.working p, x) →
      exec (.clearSlot p payload) s = .next (s.answered p x) := fun x hx =>
    congrArg Host.Outcome.next (State.receive_refused hr hl (congrArg answered hx))
  refine ⟨?_, ?_, ?_, ?_, ?_⟩
  · rintro rfl
    exact refused _ State.serveClearSlot_platform
  · rintro rfl hc
    exact refused _ (State.serveClearSlot_wrongState (hcus.trans_ne hc))
  · rintro rfl hc hlen
    exact refused _ (State.serveClearSlot_error (hcus.trans hc) (slotOfPayload_malformed hlen))
  · rintro rfl hc b rfl hb
    exact refused _ (State.serveClearSlot_error (hcus.trans hc) (slotOfPayload_outOfRange hb))
  · rintro rfl hc i rfl
    have hdone : exec (.clearSlot .system [BitVec.ofNat 8 i.val]) s =
        .next ((s.setTable
          { s.table with
            slots := s.table.slots.set i.val none i.isLt
            counts := s.table.counts.remove (s.slot i) }).answered .system { result := .done, payload := [] }) := by
      have hserve := State.serveClearSlot_ok (hcus.trans hc) (slotOfPayload_ix i)
      refine congrArg Host.Outcome.next ((State.receive_answered hr hl (congrArg answered hserve)).trans ?_)
      rw [State.replaceSlot_working_respond, State.working_slot]
      simp [Response.bare]
    exact ⟨hdone, fun hempty => by rw [hdone, State.setTable_clear_empty hempty]⟩

/-- Settles O60: the memories, queues and lists of the state after reset are decided by its values; its table is empty, so the
counts are exact, and every item of the policy is looked at by its class. -/
theorem resetStateIsSound : Obligations.ResetStateIsSound := by
  have hpool : ∀ a, State.reset.poolByte a = 0 := fun _ => rfl
  have hstore : ∀ a, 2 ≤ a → State.reset.storeByte a = 0xFF := by
    intro a ha
    have h0 : a ≠ 0 := by omega
    have h1 : a ≠ 1 := by omega
    simp [State.storeByte, State.reset, StoreUnit.shipped, memRead, storeBlank, h0, h1]
  have hempty : ∀ i, State.reset.slot i = none := by
    intro i; simp [State.slot, State.reset, Vector.get_eq_getElem]
  have hflags : ∀ cls : ConditionClass,
      State.reset.policy.retain.getLsbD cls.code = true ∧ State.reset.policy.notify.getLsbD cls.code = true ∧
        (State.reset.policy.rouse.getLsbD cls.code = true ↔ 1 ≤ cls.code ∧ cls.code ≤ 7) := by
    intro cls; cases cls <;> decide
  exact ⟨by decide, countsSound_of_reset rfl, by decide, by decide, by decide, by decide, hempty, rfl, hpool, hstore, rfl,
    rfl, hflags, rfl, rfl, rfl, rfl, rfl, rfl, rfl, rfl, rfl⟩

end

section
/-! SUPPORT. Probes and descriptors byte by byte (R3 to R5), and what the resets leave (R63, R185, R187). -/

namespace Sys2Proof.Machine

/-! ## Probes and descriptors (R3 to R5) -/

/-- A byte of a run of bytes. -/
theorem bytesAt_getElem? (bytes : List Byte) (offset n k : Nat) (hk : k < n) :
    (bytesAt bytes offset n)[k]? = bytes[offset + k]? := by
  simp [bytesAt, hk]

/-- A byte of a number, the most significant one first. -/
theorem beBytes_getElem? (w n k : Nat) (hk : k < w) : (beBytes w n)[k]? = some (BitVec.ofNat 8 (n / 256 ^ (w - 1 - k))) := by
  induction w generalizing k with
  | zero => omega
  | succ w ih =>
    cases k with
    | zero => simp [beBytes]
    | succ k =>
      have hw : w - (k + 1) = w - 1 - k := by omega
      simpa [beBytes, hw] using ih k (by omega)

/-- A number's bytes are those of its part below the width. -/
theorem beBytes_mod (w n : Nat) : beBytes w (n % 256 ^ w) = beBytes w n := by
  apply List.ext_getElem?
  intro k
  by_cases hk : k < w
  · rw [beBytes_getElem? w _ k hk, beBytes_getElem? w _ k hk]
    congr 1
    apply BitVec.eq_of_toNat_eq
    have hpow : 256 ^ w = 256 ^ (w - 1 - k) * (256 * 256 ^ k) := by
      rw [← Nat.pow_succ', ← Nat.pow_add]; congr 1; omega
    rw [BitVec.toNat_ofNat, BitVec.toNat_ofNat, hpow, Nat.mod_mul_right_div_self, Nat.mod_mul_right_mod]
  · rw [List.getElem?_eq_none (by simp; omega), List.getElem?_eq_none (by simp; omega)]

/-- The low bytes of a value, byte by byte. -/
theorem lowBytes_getElem? (v : BitVec 32) (n k : Nat) (hk : k < n) :
    (lowBytes v n)[k]? = some (BitVec.ofNat 8 (v.toNat / 256 ^ (n - 1 - k))) := by
  rw [lowBytes, beBytes_mod, beBytes_getElem? n _ k hk]

/-- A byte inside a frame. -/
theorem getElem?_of_lt {bytes : List Byte} {k : Nat} (h : k < bytes.length) : bytes[k]? = some (bytes.getD k 0) := by
  simp [List.getD_eq_getElem?_getD, h]

/-- Every byte of a zipped run passes a test where each byte pair does, place by place. -/
theorem all_zip_iff {α β : Type} (l : List α) (m : List β) (h : l.length = m.length) (test : α × β → Bool) (a : α) (b : β) :
    (l.zip m).all test = true ↔ ∀ k < m.length, test (l.getD k a, m.getD k b) = true := by
  induction l generalizing m with
  | nil => cases m <;> simp_all
  | cons x l ih =>
    cases m with
    | nil => cases h
    | cons y m =>
      have hlen : l.length = m.length := by simpa using h
      simp only [List.zip_cons_cons, List.all_cons, Bool.and_eq_true, ih m hlen, List.length_cons]
      constructor
      · rintro ⟨h0, hs⟩ (_ | k) hk
        · exact h0
        · exact hs k (by omega)
      · exact fun hall => ⟨hall 0 (by omega), fun k hk => hall (k + 1) (by omega)⟩

theorem passes_masked_iff (counter : SeqValue) (bytes : List Byte) (offset : Nat) (vm : List (Byte × Byte)) :
    (Probe.masked offset vm).passes counter bytes = true ↔
      offset + vm.length ≤ bytes.length ∧
        ∀ k < vm.length, bytes.getD (offset + k) 0 &&& (vm.getD k (0, 0)).2 =
          (vm.getD k (0, 0)).1 &&& (vm.getD k (0, 0)).2 := by
  simp only [Probe.passes, Bool.and_eq_true, decide_eq_true_eq]
  refine and_congr_right fun hlen => ?_
  have hat : (bytesAt bytes offset vm.length).length = vm.length := by simp [bytesAt]; omega
  rw [all_zip_iff _ _ hat _ 0 (0, 0)]
  refine forall₂_congr fun k hk => ?_
  simp only [List.getD_eq_getElem?_getD, bytesAt_getElem? bytes offset _ k hk, decide_eq_true_eq]

theorem passes_equalsCounter_iff (counter : SeqValue) (bytes : List Byte) (offset len : Nat) :
    (Probe.equalsCounter offset len).passes counter bytes = true ↔
      offset + len ≤ bytes.length ∧
        ∀ k < len, bytes.getD (offset + k) 0 = BitVec.ofNat 8 (counter.toNat / 256 ^ (len - 1 - k)) := by
  simp only [Probe.passes, Bool.and_eq_true, decide_eq_true_eq]
  refine and_congr_right fun hlen => ?_
  have hat : ∀ k < len, (bytesAt bytes offset len)[k]? = some (bytes.getD (offset + k) 0) := fun k hk => by
    rw [bytesAt_getElem? bytes offset len k hk, getElem?_of_lt (by omega)]
  constructor
  · intro h k hk
    have := hat k hk
    rw [h, lowBytes_getElem? counter len k hk] at this
    exact (Option.some.inj this).symm
  · intro h
    apply List.ext_getElem?
    intro k
    by_cases hk : k < len
    · rw [hat k hk, lowBytes_getElem? counter len k hk, h k hk]
    · rw [List.getElem?_eq_none (by simp [bytesAt]; omega), List.getElem?_eq_none (by simp [lowBytes]; omega)]

theorem descriptorPasses_iff (counter : SeqValue) (bytes : List Byte) (d : Descriptor) :
    descriptorPasses counter bytes d = true ↔ ∀ p ∈ d, p.passes counter bytes = true := List.all_eq_true

/-! ## Resets (R62, R63, R185, R187) -/

/-- An interrupted store operation changes the store and the draw count alone, and leaves no operation. -/
theorem State.interruptStore_frame (s : State) :
    s.interruptStore.pins = s.pins ∧ s.interruptStore.pending = s.pending ∧
      (s.store.op = none → s.interruptStore = s) := by
  unfold State.interruptStore
  split
  · exact ⟨rfl, rfl, fun _ => rfl⟩
  · next h => simp [State.writePage, h]
  · next h => simp [State.writePage, h]

/-- What a held reset or a loss of supply leaves (R63, R185, R187). -/
theorem State.resetBlocks_interruptStore (s : State) (power : Power) :
    let u := s.interruptStore.resetBlocks (ClockUnit.at power 0)
    u = { State.reset with
        clk := { State.reset.clk with power := power }
        pins := s.pins
        tx := { State.reset.tx with linkUp := s.pins.link }
        store := u.store
        draws := u.draws
        pending := s.pending } ∧ u.store.op = none ∧ (s.store.op = none → u.store.cells = s.store.cells) := by
  obtain ⟨hpins, hpending, hidle⟩ := s.interruptStore_frame
  refine ⟨?_, rfl, fun h => ?_⟩
  · simp only [State.resetBlocks, hpins, hpending]; rfl
  · rw [hidle h]; rfl

/-- The load starts with the store's block alone changed, where no SOFT_RESET waits for it (R189). -/
theorem State.startLoad_eq (s : State) :
    s.startLoad false = s.setStore { s.store with
      fault := false, load := if s.profileValid then some { position := 0, answers := false } else none } := by
  unfold State.startLoad State.endLoad; split <;> rfl

end Sys2Proof.Machine

open Sys2Proof Sys2Proof.Machine

/-- Settles O16, a test for each form of probe and one for the descriptor. -/
theorem probesTestTheirBytes : Obligations.ProbesTestTheirBytes :=
  ⟨passes_masked_iff, fun counter bytes offset len _ => passes_equalsCounter_iff counter bytes offset len,
    descriptorPasses_iff⟩

/-- Settles O30: the two held resets and the loss of supply share what they leave; the release resets and starts the load. -/
theorem resetsGiveEveryBlockItsValues : Obligations.ResetsGiveEveryBlockItsValues := by
  intro s
  refine ⟨⟨_, rfl, s.resetBlocks_interruptStore .resetHeld⟩, fun h => ⟨s.holdReset, ?_, s.resetBlocks_interruptStore .resetHeld⟩,
    ⟨_, rfl, s.resetBlocks_interruptStore .off⟩, fun h => ?_⟩
  · simp [exec, execRstN, State.takeIf, h]
  · have hexec : exec .resetRelease s = .next ((s.resetBlocks (ClockUnit.at .running 0)).startLoad false) := by
      simp [exec, execResetRelease, State.takeIf, h]
    rw [State.startLoad_eq] at hexec
    exact ⟨_, hexec, rfl, rfl⟩

end

section
/-! SUPPORT. GET_SLOT and the slot image in the encodings of R14 and R28 (R19). -/

namespace Sys2Proof.Machine

/-! ## GET_SLOT and the slot image (R14, R19, R28) -/

theorem beBytes_one (n : Nat) : beBytes 1 n = [BitVec.ofNat 8 n] := by simp [beBytes]

theorem beBytes_two (n : Nat) : beBytes 2 n = beBytes 1 (n / 256) ++ beBytes 1 n := by simp [beBytes]

theorem beBytes_four (n : Nat) : beBytes 4 n = beBytes 2 (n / 65536) ++ beBytes 2 n := by
  simp [beBytes, Nat.div_div_eq_div_mul]

theorem State.serveGetSlot_ok {s : State} {p : Port} {payload : List Byte} {i : SlotIx} (h : slotOfPayload payload = .ok i) :
    s.serveGetSlot p payload = (s, { result := .done, payload := slotImage i (s.slot i) }) := by
  simp [State.serveGetSlot, h]

theorem State.serveGetSlot_error {s : State} {p : Port} {payload : List Byte} {e : Result}
    (h : slotOfPayload payload = .error e) : s.serveGetSlot p payload = (s, .bare e) := by
  simp [State.serveGetSlot, h]

end Sys2Proof.Machine

open Sys2Proof Sys2Proof.Machine

/-- Settles O9: each encoding the statement spells out is shown to be the model's, from the numbers up to the records; the
images then agree by the order of their fields. -/
theorem getSlotReturnsTheImage : Obligations.GetSlotReturnsTheImage := by
  unfold Obligations.GetSlotReturnsTheImage
  intro u1 u2 u4 flag link probe descriptor source template optionalTemplate claim responder filter stream exchange
  have hu1 : u1 = beBytes 1 := funext fun n => (beBytes_one n).symm
  have hu2 : u2 = beBytes 2 := funext fun n => by rw [beBytes_two, ← hu1]
  have hu4 : u4 = beBytes 4 := funext fun n => by rw [beBytes_four, ← hu2]
  have hflag : flag = fun b => [flagByte b] := funext fun b => by cases b <;> rfl
  clear_value u1 u2 u4 flag
  subst hu1 hu2 hu4 hflag
  have hlink : link = linkBytes := funext fun l => by cases l <;> rfl
  have hprobe : probe = probeBytes := funext fun x => by cases x <;> rfl
  have hsource : source = sourceBytes := funext fun x => by cases x <;> rfl
  clear_value link probe source
  subst hlink hprobe hsource
  have hdescriptor : descriptor = descriptorBytes := rfl
  have htemplate : template = templateBytes := rfl
  clear_value descriptor template
  subst hdescriptor htemplate
  have hoptional : optionalTemplate = optionalBytes templateBytes := funext fun x => by cases x <;> rfl
  clear_value optionalTemplate
  subst hoptional
  have hclaim : claim = fun c => 1 :: claimConfigBytes c := rfl
  have hresponder : responder = fun r => 2 :: responderConfigBytes r := funext fun r => by
    simp only [responder, responderConfigBytes]; cases r.cls <;> rfl
  have hfilter : filter = fun f => 3 :: filterConfigBytes f := funext fun f => by
    simp only [filter, filterConfigBytes]; cases f.action <;> rfl
  have hstream : stream = fun x => 4 :: streamConfigBytes x := funext fun x => by
    simp only [stream, streamConfigBytes]; cases x.closeProbe <;> rfl
  have hexchange : exchange = fun x => 5 :: exchangeHostBytes x := funext fun x => by
    simp only [exchange, exchangeHostBytes]
    cases x.cfg.decline <;> cases x.cfg.schedule <;> simp [scheduleBytes, optionalBytes, beBytes_one]
  clear_value claim responder filter stream exchange
  subst hclaim hresponder hfilter hstream hexchange
  refine ⟨?_, ?_⟩
  · intro p s hrun hact hslot
    have hready : s.readyFor p .getSlot := ⟨hrun, hact, hslot, .inr rfl⟩
    have answeredWith : ∀ payload x, payload.length ≤ 1024 → (s.working p).serveGetSlot p payload = (s.working p, x) →
        exec (.getSlot p payload) s = .next (s.answered p x) := fun payload x hl hx =>
      congrArg Host.Outcome.next (State.receive_refused hready hl (congrArg answered hx))
    refine ⟨fun i => ?_, fun payload hl h1 => ?_, fun b hb => ?_⟩
    · rw [answeredWith _ _ (by simp) (State.serveGetSlot_ok (slotOfPayload_ix i)), State.working_slot]
    · exact answeredWith _ _ hl (State.serveGetSlot_error (slotOfPayload_malformed h1))
    · exact answeredWith _ _ (by simp) (State.serveGetSlot_error (slotOfPayload_outOfRange hb))
  · intro i
    refine ⟨rfl, fun c => ?_, fun r => ?_, fun f => ?_, fun x => ?_, fun x => ?_, fun c => rfl, fun r => rfl, fun f => rfl,
      fun x => ?_, fun x => rfl⟩
    · simp only [slotImage, claimBytes]; cases c.state <;> simp [ClaimState.code]
    · simp [slotImage, responderBytes]
    · simp [slotImage, filterBytes]
    · simp only [slotImage, streamBytes]; cases x.state <;> simp [StreamState.code]
    · simp only [slotImage, exchangeBytes]
      rcases x.haltReason with _ | _ | _ <;> cases x.state <;>
        simp [ExchangeState.code, HaltReason.code, optionalBytes, beBytes_one]
    · simp only [putImage]; cases x.valuesValid <;> simp [optionalBytes, beBytes_one]

end

section
/-! SUPPORT. The refusals of a whole PUT_SLOT image: each record kind's walk meets the faults `badImage` names, at their offsets (R15,
R16, R29). -/

namespace Sys2Proof.Machine

/-! ## What the walk refuses of a record (R15, R16, R29) -/

/-- A code with what stands behind it. -/
theorem walkCode_refuses_bind {α γ : Type} {codes : Nat → Option α} {f : α → Walk γ} {behind : Nat → ImageFault}
    (h : ∀ n, codes n = none ↔ 1 < n) (hk : ∀ n x, codes n = some x → WalkRefuses (f x) (behind n)) :
    WalkRefuses (walkCode codes >>= f) (faultFrom 1 (1 < ·) .malformed behind) := by
  unfold walkCode
  simp only [bind_assoc]
  refine walkTested_refuses_bind 1 _ _ (fun n _ hn a q => ?_) fun n _ hn a => ?_
  · rw [(h n).2 hn]; rfl
  · cases hx : codes n with
    | none => exact absurd ((h n).1 hx) hn
    | some x => simpa only [pure_bind] using hk n x hx

/-- A part repeated behind its count, with what stands behind it. -/
theorem walkList_refuses_bind {α γ : Type} (part : Walk α) (enc : α → List Byte) (sound : α → Prop) (bad : ImageFault)
    (low high : Nat) (hh : high < 256) (hb : WalkRefuses part bad) (hf : WalkFollows part enc sound id)
    {f : List α → Walk γ} {behind : ImageFault} (hk : ∀ xs, WalkRefuses (f xs) behind) :
    WalkRefuses (walkWithin 1 low high >>= fun n => walkTimes part n >>= f)
      (faultIn (listBytes enc) (fun l => within low high l.length ∧ ∀ x ∈ l, sound x) (badList low high enc sound bad)
        fun _ => behind) := by
  have hs := walkList_spec part enc sound bad low high hh hb hf
  have := WalkRefuses.bind (f := f) hs.1 hs.2 (behind := fun _ => behind) fun xs _ => hk xs
  rwa [bind_assoc] at this

section Parts
variable {γ : Type} {behind : ImageFault}

theorem walkDescriptor_refuses_bind {ca : Bool} {f : Descriptor → Walk γ} (hk : ∀ d, WalkRefuses (f d) behind) :
    WalkRefuses (walkDescriptor ca >>= f) (faultFromDescriptor ca behind) :=
  WalkRefuses.bind (walkDescriptor_spec ca).1 (walkDescriptor_spec ca).2 fun d _ => hk d

theorem walkTemplate_refuses_bind {rx : Bool} {f : Template → Walk γ} (hk : ∀ t, WalkRefuses (f t) behind) :
    WalkRefuses (walkTemplate rx >>= f) (faultFromTemplate rx behind) :=
  WalkRefuses.bind (walkTemplate_spec rx).1 (walkTemplate_spec rx).2 fun t _ => hk t

theorem walkOptional_refuses_bind {α : Type} {part : Walk α} {enc : α → List Byte} {sound : α → Prop} {bad : ImageFault}
    (h : WalkRefuses part bad ∧ WalkFollows part enc sound id) {f : Option α → Walk γ}
    (hk : ∀ x, WalkRefuses (f x) behind) :
    WalkRefuses (walkOptional part >>= f) (faultFromOptional enc sound bad behind) :=
  have hs := walkOptional_spec part enc sound bad h.1 h.2
  WalkRefuses.bind hs.1 hs.2 fun x _ => hk x

/-- A number of four bytes with what stands behind it. -/
theorem walkWord_refuses_bind {f : Nat → Walk γ} (hk : ∀ n, WalkRefuses (f n) behind) :
    WalkRefuses (walkNat 4 >>= f) (faultFrom 4 noneRefused .malformed fun _ => behind) :=
  walkNat_refuses_bind 4 _ fun n _ => hk n

/-- A clamped number with one thing behind it, whatever its value (R17). -/
theorem walkClamped_refuses_bind' {w low high : Nat} {f : Nat → Walk γ} (hk : ∀ n, WalkRefuses (f n) behind) :
    WalkRefuses (walkClamped w low high >>= f) (faultFrom w noneRefused .malformed fun _ => behind) :=
  walkClamped_refuses_bind w low high _ fun _ _ => hk _

theorem walkLink_refuses_bind' {f : Link → Walk γ} (hk : ∀ l, WalkRefuses (f l) behind) :
    WalkRefuses (walkLink >>= f) (faultFrom 1 refusedLink .outOfRange fun _ => behind) :=
  walkLink_refuses_bind fun l _ => hk l

theorem walkFlag_refuses_bind' {f : Bool → Walk γ} (hk : ∀ b, WalkRefuses (f b) behind) :
    WalkRefuses (walkFlag >>= f) (faultFrom 1 (1 < ·) .malformed fun _ => behind) :=
  walkFlag_refuses_bind fun _ _ _ => hk _

end Parts

/-- What lies above a bound, as the walk tests it. -/
theorem above_iff (high n : Nat) : high < n ↔ ¬ (0 ≤ n ∧ n ≤ high) := by omega

section Records
variable {γ : Type} {k : Record → Walk γ}

theorem walkClaim_refuses (hk : ∀ r, WalkRefuses (k r) leftOver) : WalkRefuses (walkClaim >>= k) badClaim := by
  unfold walkClaim badClaim
  simp only [bind_assoc, pure_bind]
  refine walkWithin_refuses_bind 1 1 16 _ (fun _ _ => Iff.rfl) fun len _ _ => ?_
  refine WalkRefuses.bind (walkBytes_refuses _ _) (walkBytes_follows _) fun address _ => ?_
  refine walkDescriptor_refuses_bind fun assertion => ?_
  refine walkWithin_refuses_bind 2 0 1517 _ (fun n _ => above_iff 1517 n) fun offset _ _ => ?_
  refine walkOptional_refuses_bind (walkTemplate_spec false) fun probe => ?_
  refine walkOptional_refuses_bind (walkTemplate_spec false) fun announce => ?_
  refine walkClamped_refuses_bind' fun count => ?_
  refine walkClamped_refuses_bind' fun spacing => ?_
  refine walkClamped_refuses_bind' fun window => ?_
  exact walkLink_refuses_bind' fun link => hk _

theorem walkResponder_refuses (hk : ∀ r, WalkRefuses (k r) leftOver) : WalkRefuses (walkResponder >>= k) badResponder := by
  unfold walkResponder badResponder
  simp only [bind_assoc, pure_bind]
  refine walkDescriptor_refuses_bind fun descriptor => ?_
  refine walkTemplate_refuses_bind fun answer => ?_
  refine walkLink_refuses_bind' fun link => ?_
  refine walkCode_refuses_bind (fun n => ?_) fun _ cls _ => hk _
  split <;> simp_all; omega

theorem walkFilter_refuses (hk : ∀ r, WalkRefuses (k r) leftOver) : WalkRefuses (walkFilter >>= k) badFilter := by
  unfold walkFilter badFilter
  simp only [bind_assoc, pure_bind]
  refine walkDescriptor_refuses_bind fun descriptor => ?_
  refine walkCode_refuses_bind (fun n => ?_) fun _ action _ => hk _
  split <;> simp_all; omega

/-- The value pair as its numbers are written. -/
def valueBytes (v : SeqValue × SeqValue) : List Byte := beBytes 4 v.1.toNat ++ beBytes 4 v.2.toNat

theorem walkValues_refuses :
    WalkRefuses walkValues (faultFrom 4 noneRefused .malformed fun _ => badField 4 noneRefused .malformed) := by
  unfold walkValues
  exact walkWord_refuses_bind fun _ => (walkNat_refuses 4 _).map _

theorem walkValues_follows : WalkFollows walkValues valueBytes (fun _ => True) id := by
  rintro ⟨a, b⟩ - o rest
  unfold walkValues valueBytes
  rw [List.append_assoc, walkNat_reads 4 _ _ _ a.isLt, walkNat_reads 4 _ _ _ b.isLt, walk_pure]
  simp

/-- Any two numbers are written as the value pair they are read as. -/
theorem valueBytes_ofNat (a b : Nat) :
    valueBytes (BitVec.ofNat 32 a, BitVec.ofNat 32 b) = beBytes 4 a ++ beBytes 4 b := by
  simp only [valueBytes, BitVec.toNat_ofNat]
  exact congrArg₂ (· ++ ·) (beBytes_mod 4 a) (beBytes_mod 4 b)

/-- The optional value pair at fault, whatever numbers stand in a sound one (R10). -/
theorem walkOptionalValues_refuses_bind {behind : ImageFault} {f : Option (SeqValue × SeqValue) → Walk γ}
    (hk : ∀ x, WalkRefuses (f x) behind) :
    WalkRefuses (walkOptional walkValues >>= f)
      (faultFromOptional (fun v : Nat × Nat => beBytes 4 v.1 ++ beBytes 4 v.2) (fun _ => True)
        (faultFrom 4 noneRefused .malformed fun _ => badField 4 noneRefused .malformed) behind) := by
  have hs := walkOptional_spec walkValues valueBytes _ _ walkValues_refuses walkValues_follows
  refine WalkRefuses.bind (val := Option.map fun v => (BitVec.ofNat 32 v.1, BitVec.ofNat 32 v.2)) hs.1 ?_ fun x _ => hk _
  intro x _ o rest
  have henc : optionalBytes (fun v : Nat × Nat => beBytes 4 v.1 ++ beBytes 4 v.2) x =
      optionalBytes valueBytes (x.map fun v => (BitVec.ofNat 32 v.1, BitVec.ofNat 32 v.2)) := by
    cases x with
    | none => rfl
    | some v => exact congrArg _ (valueBytes_ofNat v.1 v.2).symm
  rw [henc]
  exact hs.2 _ (fun _ _ => trivial) o rest

theorem walkStream_refuses (hk : ∀ r, WalkRefuses (k r) leftOver) : WalkRefuses (walkStream >>= k) badStream := by
  unfold walkStream badStream
  simp only [bind_assoc]
  refine walkDescriptor_refuses_bind fun inbound => ?_
  refine walkDescriptor_refuses_bind fun outbound => ?_
  refine walkWithin_refuses_bind 2 0 1514 _ (fun n _ => above_iff 1514 n) fun seqOffset _ _ => ?_
  refine walkWithin_refuses_bind 2 0 1514 _ (fun n _ => above_iff 1514 n) fun ackOffset _ _ => ?_
  refine walkTested_refuses_bind 2 _ _ (fun n _ hn a q => ?_) fun headerLen _ hn a => ?_
  · rw [if_pos hn]; rfl
  · rw [if_neg hn]
    simp only [bind_assoc, pure_bind]
    refine walkOptional_refuses_bind (walkProbe_spec false) fun closeProbe => ?_
    refine walkFlag_refuses_bind' fun tracking => ?_
    refine walkTemplate_refuses_bind fun probe => ?_
    refine walkTemplate_refuses_bind fun reply => ?_
    refine walkClamped_refuses_bind' fun period => ?_
    refine walkClamped_refuses_bind' fun retry => ?_
    refine walkClamped_refuses_bind' fun misses => ?_
    refine walkLink_refuses_bind' fun link => ?_
    exact walkOptionalValues_refuses_bind fun values => hk _

theorem walkCapture_spec :
    WalkRefuses walkCapture
      (faultFrom 2 (1517 < ·) .outOfRange fun _ => badField 1 (fun n => ¬ within 1 4 n) .outOfRange) ∧
    WalkFollows walkCapture (fun c => beBytes 2 c.offset ++ beBytes 1 c.len)
      (fun c => c.offset ≤ 1517 ∧ within 1 4 c.len) id := by
  constructor
  · unfold walkCapture
    refine walkWithin_refuses_bind 2 0 1517 _ (fun n _ => above_iff 1517 n) fun offset _ _ => ?_
    exact (walkWithin_spec 1 1 4 _ (fun _ _ => Iff.rfl)).1.map _
  · rintro ⟨a, n⟩ ⟨ha, hn1, hn4⟩ o rest
    simp only at ha hn1 hn4
    unfold walkCapture
    rw [List.append_assoc, walkWithin_reads 2 0 1517 _ _ _ (by omega) (by omega) ha,
      walkWithin_reads 1 1 4 _ _ _ (by omega) hn1 hn4, walk_pure]
    simp

/-- The schedule's fields with what stands behind them (R11, R17). -/
theorem walkSchedule_refuses_bind {behind : ImageFault} {f : Schedule → Walk γ} (hk : ∀ m, WalkRefuses (f m) behind) :
    WalkRefuses (walkSchedule >>= f) (faultFrom 1 (1 < ·) .malformed fun mode =>
      if mode = 0 then faultFrom 4 noneRefused .malformed fun _ => behind
      else faultFrom 1 (3 < ·) .outOfRange fun _ => faultFrom 1 noneRefused .malformed fun _ =>
        faultFrom 4 noneRefused .malformed fun _ => faultFrom 4 noneRefused .malformed fun _ => behind) := by
  unfold walkSchedule
  simp only [bind_assoc]
  refine walkCode_refuses_bind (fun n => ?_) fun n captured hn => ?_
  · split <;> simp_all; omega
  · cases captured with
    | true =>
      have h0 : n ≠ 0 := by rintro rfl; cases hn
      rw [if_neg h0, if_pos rfl]
      simp only [bind_assoc, pure_bind]
      refine walkWithin_refuses_bind 1 0 3 _ (fun n _ => above_iff 3 n) fun index _ _ => ?_
      refine walkClamped_refuses_bind' fun fraction => ?_
      refine walkClamped_refuses_bind' fun least => ?_
      exact walkClamped_refuses_bind' fun most => hk _
    | false =>
      have h0 : n = 0 := by
        split at hn
        · rfl
        · cases hn
        · cases hn
      rw [if_pos h0, if_neg Bool.false_ne_true]
      simp only [bind_assoc, pure_bind]
      exact walkClamped_refuses_bind' fun period => hk _

theorem walkExchange_refuses (hk : ∀ r, WalkRefuses (k r) leftOver) : WalkRefuses (walkExchange >>= k) badExchange := by
  unfold walkExchange badExchange
  simp only [bind_assoc, pure_bind]
  refine walkTemplate_refuses_bind fun request => ?_
  refine walkDescriptor_refuses_bind fun reply => ?_
  refine walkOptional_refuses_bind (walkDescriptor_spec false) fun decline => ?_
  have hempty : (fun l : List CaptureSpec => l.length ≤ 4 ∧ ∀ c ∈ l, c.offset ≤ 1517 ∧ within 1 4 c.len) =
      fun l => within 0 4 l.length ∧ ∀ c ∈ l, c.offset ≤ 1517 ∧ within 1 4 c.len := by
    simp [within]
  rw [hempty]
  refine walkList_refuses_bind walkCapture _ _ _ 0 4 (by omega) walkCapture_spec.1 walkCapture_spec.2 fun specs => ?_
  refine walkWord_refuses_bind fun v0 => ?_
  refine walkWord_refuses_bind fun v1 => ?_
  refine walkWord_refuses_bind fun v2 => ?_
  refine walkWord_refuses_bind fun v3 => ?_
  refine walkClamped_refuses_bind' fun firstDelay => ?_
  refine walkSchedule_refuses_bind fun schedule => ?_
  refine walkClamped_refuses_bind' fun timeout => ?_
  refine walkClamped_refuses_bind' fun retries => ?_
  refine walkWord_refuses_bind fun counter => ?_
  exact walkLink_refuses_bind' fun link => hk _

end Records

/-- The walk of an image refuses what `badImage` says, with its result, at its offset. -/
theorem walkImage_refuses : WalkRefuses walkImage badImage := by
  have hend : ∀ (slot : SlotIx) (r : Record), WalkRefuses (walkEnd >>= fun _ => (pure (slot, r) : Walk _)) leftOver :=
    fun slot r => walkEnd_refuses (slot, r)
  unfold walkImage walkSlotIx badImage
  simp only [bind_assoc]
  refine walkTested_refuses_bind 1 _ _ (fun n _ hn a q => ?_) fun n _ hn a => ?_
  · rw [dif_neg (by omega)]; rfl
  · rw [dif_pos (show n < 128 by omega)]
    simp only [pure_bind]
    refine walkTested_refuses_bind 1 _ _ (fun kind _ hkind a q => ?_) fun kind _ hkind a => ?_
    · split
      case h_6 => rfl
      all_goals omega
    · have hcode : kind = 1 ∨ kind = 2 ∨ kind = 3 ∨ kind = 4 ∨ kind = 5 := by omega
      obtain rfl | rfl | rfl | rfl | rfl := hcode
      · exact walkClaim_refuses (hend _)
      · exact walkResponder_refuses (hend _)
      · exact walkFilter_refuses (hend _)
      · exact walkStream_refuses (hend _)
      · exact walkExchange_refuses (hend _)

/-- An image at fault is refused with its result and its offset (R15). -/
theorem readImage_of_badImage {payload : List Byte} {o : Nat} {r : Result} (h : badImage payload o r) :
    readImage payload = .error ⟨r, o⟩ := by
  unfold readImage
  rw [walkImage_refuses payload o r h 0, Nat.zero_add]

end Sys2Proof.Machine

open Sys2Proof Sys2Proof.Machine

/-- Settles O6: each check of PUT_SLOT is one answer of its owner, with which a ready request is answered; that a faulty image
is refused at its field is what the walk of an image refuses. -/
theorem putSlotIsCheckedAndWritten : Obligations.PutSlotIsCheckedAndWritten := by
  intro p payload s hl hr
  have hcus : (s.working p).custody.state = s.custody.state := by simp
  have refused : ∀ x, (s.working p).servePutSlot p payload = (s.working p, x) →
      exec (.putSlot p payload) s = .next (s.answered p x) := fun x hx =>
    congrArg Host.Outcome.next (State.receive_refused hr hl (congrArg answered hx))
  refine ⟨?_, ?_, ?_, ?_, ?_⟩
  · rintro rfl
    exact refused _ State.servePutSlot_platform
  · rintro rfl hc
    exact refused _ (State.servePutSlot_wrongState (hcus.trans_ne hc))
  · rintro rfl hc offset result hbad
    exact refused _ (State.servePutSlot_error (hcus.trans hc) (readImage_of_badImage hbad))
  · rintro rfl hc e he
    exact refused _ (State.servePutSlot_error (hcus.trans hc) he)
  · rintro rfl hc i r hi
    have hcounts : ((s.working .system).table.counts.remove ((s.working .system).slot i)).add r =
        (s.table.counts.remove (s.slot i)).add r := by simp
    refine ⟨fun hfull => ?_, fun hw => ?_⟩
    · exact refused _ (State.servePutSlot_full (hcus.trans hc) hi (hcounts ▸ hfull))
    · have hserve := State.servePutSlot_ok (hcus.trans hc) hi (hcounts ▸ hw)
      refine congrArg Host.Outcome.next ((State.receive_answered hr hl (congrArg answered hserve)).trans ?_)
      rw [State.replaceSlot_working_respond, hcounts]
      rfl

end

section
/-! SUPPORT. A record as its image writes it and as it is stored: the clamps of R17, and what the walk reads of each kind (R14). -/

namespace Sys2Proof.Machine

/-! ## Records as they are stored (R17)

A configuration as an image may write it: the clamped fields hold any number of their width. Stored, each stands at its
clamped value. -/

def ClaimConfig.stored (c : ClaimConfig) : ClaimConfig :=
  { c with
    probeCount := clamp 0 7 c.probeCount
    probeSpacing := clamp 1 Config.maxDelay c.probeSpacing
    defenceWindow := clamp 1 Config.maxDelay c.defenceWindow }

/-- An image can write the configuration, and PUT_SLOT accepts it. -/
structure ClaimConfig.Writable (c : ClaimConfig) : Prop where
  stored : (RecordConfig.claim c.stored).inRange
  probeCount : c.probeCount < 256 ^ 1
  probeSpacing : c.probeSpacing < 256 ^ 4
  defenceWindow : c.defenceWindow < 256 ^ 4

def StreamConfig.stored (x : StreamConfig) : StreamConfig :=
  { x with
    period := clamp 16 (2 ^ 20) x.period
    retrySpacing := clamp 1 (2 ^ 16) x.retrySpacing
    missLimit := clamp 1 15 x.missLimit }

/-- An image can write the configuration, and PUT_SLOT accepts it. -/
structure StreamConfig.Writable (x : StreamConfig) : Prop where
  stored : (RecordConfig.stream x.stored).inRange
  period : x.period < 256 ^ 4
  retrySpacing : x.retrySpacing < 256 ^ 4
  missLimit : x.missLimit < 256 ^ 1

def Schedule.stored : Schedule → Schedule
  | .fixed period => .fixed (clamp 1 Config.maxDelay period)
  | .captured index fraction low high =>
    .captured index (clamp 1 255 fraction) (clamp 1 Config.maxDelay low)
      (clamp (clamp 1 Config.maxDelay low) Config.maxDelay high)

/-- An image can write the schedule, and PUT_SLOT accepts it. -/
def Schedule.Writable : Schedule → Prop
  | .fixed period => period < 256 ^ 4
  | .captured index fraction low high => index ≤ 3 ∧ fraction < 256 ^ 1 ∧ low < 256 ^ 4 ∧ high < 256 ^ 4

def ExchangeConfig.stored (x : ExchangeConfig) : ExchangeConfig :=
  { x with
    firstDelay := clamp 1 Config.maxDelay x.firstDelay
    schedule := x.schedule.stored
    replyTimeout := clamp 1 (2 ^ 16) x.replyTimeout
    retryLimit := clamp 0 15 x.retryLimit }

/-- An image can write the configuration, and PUT_SLOT accepts it. -/
structure ExchangeConfig.Writable (x : ExchangeConfig) : Prop where
  stored : (RecordConfig.exchange x.stored).inRange
  firstDelay : x.firstDelay < 256 ^ 4
  schedule : x.schedule.Writable
  replyTimeout : x.replyTimeout < 256 ^ 4
  retryLimit : x.retryLimit < 256 ^ 1

/-- A clamped value as R17's table says it. -/
theorem clamp_eq {low high : Nat} (h : low ≤ high) (n : Nat) : clamp low high n = max low (min n high) := by
  unfold clamp; split
  · omega
  · split <;> omega

/-- A delay is stored clamped to 2^30 ticks at most (R17, section 6.3). -/
theorem clamp_delay (n : Nat) : clamp 1 Config.maxDelay n = max 1 (min n (2 ^ 30)) := clamp_eq (by decide) n

/-- A value in range is stored as it is. -/
theorem clamp_of_within {low high n : Nat} (h : within low high n) : clamp low high n = n := by
  unfold clamp within at *; split
  · omega
  · split <;> omega

/-- A clamped value is in range. -/
theorem within_clamp {low high : Nat} (h : low ≤ high) (n : Nat) : within low high (clamp low high n) := by
  rw [clamp_eq h]; unfold within; omega

theorem Schedule.stored_inRange {m : Schedule} (h : m.Writable) : m.stored.inRange := by
  cases m with
  | fixed period => exact within_clamp (by decide) period
  | captured index fraction low high =>
    have hlow := within_clamp (low := 1) (high := Config.maxDelay) (by decide) low
    exact ⟨h.1, within_clamp (by decide) fraction, hlow, within_clamp hlow.2 high⟩

/-! ### A configuration in range is stored as it is -/

theorem ClaimConfig.stored_of_inRange {c : ClaimConfig} (h : (RecordConfig.claim c).inRange) : c.stored = c := by
  obtain ⟨-, -, -, -, -, hcount, hspacing, hwindow⟩ := h
  simp [ClaimConfig.stored, clamp_of_within hspacing, clamp_of_within hwindow,
    clamp_of_within (⟨Nat.zero_le _, hcount⟩ : within 0 7 c.probeCount)]

theorem StreamConfig.stored_of_inRange {x : StreamConfig} (h : (RecordConfig.stream x).inRange) : x.stored = x := by
  obtain ⟨-, -, -, -, -, -, -, -, -, -, hperiod, hretry, hmiss⟩ := h
  simp only [StreamConfig.stored, clamp_of_within hperiod, clamp_of_within hretry, clamp_of_within hmiss]

theorem Schedule.stored_of_inRange {m : Schedule} (h : m.inRange) : m.stored = m := by
  cases m with
  | fixed period => exact congrArg _ (clamp_of_within h)
  | captured index fraction low high =>
    obtain ⟨-, hfraction, hlow, hhigh⟩ := h
    simp [Schedule.stored, clamp_of_within hfraction, clamp_of_within hlow, clamp_of_within hhigh]

theorem ExchangeConfig.stored_of_inRange {x : ExchangeConfig} (h : (RecordConfig.exchange x).inRange) : x.stored = x := by
  obtain ⟨-, -, -, -, -, hfirst, hschedule, htimeout, hretry⟩ := h
  simp only [ExchangeConfig.stored, clamp_of_within hfirst, Schedule.stored_of_inRange hschedule, clamp_of_within htimeout,
    clamp_of_within (⟨Nat.zero_le _, hretry⟩ : within 0 15 x.retryLimit)]

/-! ## What the walk reads of a record (R14) -/

section Reads
variable {γ : Type}

/-- A clamped number is read and the walk goes on with its stored value. -/
theorem walkClamped_reads {f : Nat → Walk γ} (w low high n o : Nat) (rest : List Byte) (h : n < 256 ^ w) :
    (walkClamped w low high >>= f) ⟨o, beBytes w n ++ rest⟩ = f (clamp low high n) ⟨o + w, rest⟩ := by
  unfold walkClamped
  simp only [bind_assoc, pure_bind]
  exact walkNat_reads w n o rest h

/-- A link is read and the walk goes on. -/
theorem walkLink_reads {f : Link → Walk γ} (l : Link) (o : Nat) (rest : List Byte) :
    (walkLink >>= f) ⟨o, linkBytes l ++ rest⟩ = f l ⟨o + 1, rest⟩ := by
  cases l with
  | none =>
    have hr : (0xFF : Nat) < 256 ^ 1 ∧ ¬ refusedLink 0xFF := by unfold refusedLink; omega
    exact walk_bind_ok (walkLink_spec.2 0xFF hr o rest)
  | some i =>
    have hr : i.val < 256 ^ 1 ∧ ¬ refusedLink i.val := by unfold refusedLink; omega
    have := walk_bind_ok (f := f) (walkLink_spec.2 i.val hr o rest)
    simpa [linkBytes] using this

/-- A code is read and the walk goes on. -/
theorem walkCode_reads {α : Type} {codes : Nat → Option α} {f : α → Walk γ} (n o : Nat) (rest : List Byte) (x : α)
    (hn : n < 256 ^ 1) (hx : codes n = some x) : (walkCode codes >>= f) ⟨o, beBytes 1 n ++ rest⟩ = f x ⟨o + 1, rest⟩ := by
  unfold walkCode
  simp only [bind_assoc]
  rw [walkHere_bind, walkNat_reads 1 n o rest hn, hx, pure_bind]

theorem walkDescriptor_reads {ca : Bool} {f : Descriptor → Walk γ} (d : Descriptor) (o : Nat) (rest : List Byte)
    (h : d.inRange ca) :
    (walkDescriptor ca >>= f) ⟨o, descriptorBytes d ++ rest⟩ = f d ⟨o + (descriptorBytes d).length, rest⟩ :=
  (walkDescriptor_spec ca).2.bind d h o rest

theorem walkTemplate_reads {rx : Bool} {f : Template → Walk γ} (t : Template) (o : Nat) (rest : List Byte)
    (h : t.inRange rx) :
    (walkTemplate rx >>= f) ⟨o, templateBytes t ++ rest⟩ = f t ⟨o + (templateBytes t).length, rest⟩ :=
  (walkTemplate_spec rx).2.bind t h o rest

theorem walkOptional_reads {α : Type} {part : Walk α} {enc : α → List Byte} {sound : α → Prop} {bad : ImageFault}
    (hs : WalkRefuses part bad ∧ WalkFollows part enc sound id) {f : Option α → Walk γ} (x : Option α) (o : Nat)
    (rest : List Byte) (h : ∀ y ∈ x, sound y) :
    (walkOptional part >>= f) ⟨o, optionalBytes enc x ++ rest⟩ = f x ⟨o + (optionalBytes enc x).length, rest⟩ :=
  (walkOptional_spec part enc sound bad hs.1 hs.2).2.bind x h o rest

end Reads

/-- An image with no byte left over ends there. -/
theorem walkEnd_reads {γ : Type} (x : γ) (o : Nat) : (walkEnd >>= fun _ => (pure x : Walk γ)) ⟨o, []⟩ = .ok (x, ⟨o, []⟩) :=
  rfl

/-- The walk reads the bytes to their end, from whatever offset. -/
def WalkReadsAll {α : Type} (w : Walk α) (bytes : List Byte) (x : α) : Prop := ∀ o, ∃ q, w ⟨o, bytes⟩ = .ok (x, ⟨q, []⟩)

section Records

theorem walkClaim_reads {c : ClaimConfig} (h : c.Writable) :
    WalkReadsAll walkClaim (claimConfigBytes c) (.claim (Claim.fresh c.stored)) := by
  intro o
  obtain ⟨⟨⟨haddr1, haddr16⟩, hassert, hoffset, hprobe, hannounce, -, -, -⟩, hcount, hspacing, hwindow⟩ := h
  simp only [ClaimConfig.stored] at haddr1 haddr16 hassert hoffset hprobe hannounce
  unfold walkClaim claimConfigBytes
  rw [← List.append_nil (linkBytes c.exchangeLink)]
  simp only [List.append_assoc]
  rw [walkWithin_reads 1 1 16 _ _ _ (by omega) haddr1 haddr16, walkBytes_reads _ _ _ _ rfl, walkDescriptor_reads _ _ _ hassert,
    walkWithin_reads 2 0 1517 _ _ _ (by omega) (Nat.zero_le _) hoffset,
    walkOptional_reads (walkTemplate_spec false) _ _ _ hprobe, walkOptional_reads (walkTemplate_spec false) _ _ _ hannounce,
    walkClamped_reads _ _ _ _ _ _ hcount, walkClamped_reads _ _ _ _ _ _ hspacing, walkClamped_reads _ _ _ _ _ _ hwindow,
    walkLink_reads]
  exact ⟨_, rfl⟩

theorem walkResponder_reads {r : ResponderConfig} (h : (RecordConfig.responder r).inRange) :
    WalkReadsAll walkResponder (responderConfigBytes r) (.responder (Responder.fresh r)) := by
  intro o
  obtain ⟨hdescriptor, hanswer⟩ := h
  unfold walkResponder responderConfigBytes
  rw [← List.append_nil (beBytes 1 r.cls.code)]
  simp only [List.append_assoc]
  rw [walkDescriptor_reads _ _ _ hdescriptor, walkTemplate_reads _ _ _ hanswer, walkLink_reads,
    walkCode_reads _ _ _ r.cls (by cases r.cls <;> decide) (by cases r.cls <;> rfl)]
  exact ⟨_, rfl⟩

theorem walkFilter_reads {f : FilterConfig} (h : (RecordConfig.filter f).inRange) :
    WalkReadsAll walkFilter (filterConfigBytes f) (.filter (Filter.fresh f)) := by
  intro o
  unfold walkFilter filterConfigBytes
  rw [← List.append_nil (beBytes 1 f.action.code)]
  rw [walkDescriptor_reads _ _ _ h, walkCode_reads _ _ _ f.action (by cases f.action <;> decide) (by cases f.action <;> rfl)]
  exact ⟨_, rfl⟩

theorem walkStream_reads {x : StreamConfig} (values : Option (SeqValue × SeqValue)) (h : x.Writable) :
    WalkReadsAll walkStream (streamConfigBytes x ++ optionalBytes valueBytes values)
      (.stream (Stream.fresh x.stored values)) := by
  intro o
  obtain ⟨⟨hin, hout, hseq, hack, hlen, hlenSeq, hlenAck, hclose, hprobe, hreply, -, -, -⟩, hperiod, hretry, hmiss⟩ := h
  simp only [StreamConfig.stored] at hin hout hseq hack hlen hlenSeq hlenAck hclose hprobe hreply
  have hhead : ¬ (x.headerLen > 1518 ∨ x.headerLen < x.seqOffset + 4 ∨ x.headerLen < x.ackOffset + 4) := by omega
  unfold walkStream streamConfigBytes
  rw [← List.append_nil (optionalBytes valueBytes values)]
  simp only [List.append_assoc]
  rw [walkDescriptor_reads _ _ _ hin, walkDescriptor_reads _ _ _ hout,
    walkWithin_reads 2 0 1514 _ _ _ (by omega) (Nat.zero_le _) hseq,
    walkWithin_reads 2 0 1514 _ _ _ (by omega) (Nat.zero_le _) hack, walkHere_bind,
    walkNat_reads 2 _ _ _ (by omega), if_neg hhead, walkOptional_reads (walkProbe_spec false) _ _ _ hclose]
  simp only [List.cons_append, List.nil_append]
  rw [walkFlag_reads, walkTemplate_reads _ _ _ hprobe, walkTemplate_reads _ _ _ hreply, walkClamped_reads _ _ _ _ _ _ hperiod,
    walkClamped_reads _ _ _ _ _ _ hretry, walkClamped_reads _ _ _ _ _ _ hmiss, walkLink_reads,
    walkOptional_reads ⟨walkValues_refuses, walkValues_follows⟩ _ _ _ (fun _ _ => trivial)]
  exact ⟨_, rfl⟩

/-- The schedule's fields are read as they are stored (R11, R17). -/
theorem walkSchedule_reads {γ : Type} {f : Schedule → Walk γ} (m : Schedule) (o : Nat) (rest : List Byte) (h : m.Writable) :
    ∃ q, (walkSchedule >>= f) ⟨o, scheduleBytes m ++ rest⟩ = f m.stored ⟨q, rest⟩ := by
  unfold walkSchedule
  simp only [bind_assoc]
  cases m with
  | fixed period =>
    simp only [scheduleBytes, List.cons_append]
    rw [byte_eq_beBytes, walkCode_reads _ _ _ false (by decide) rfl, if_neg Bool.false_ne_true]
    simp only [bind_assoc, pure_bind]
    rw [walkClamped_reads _ _ _ _ _ _ h]
    exact ⟨_, rfl⟩
  | captured index fraction low high =>
    obtain ⟨hindex, hfraction, hlow, hhigh⟩ := h
    simp only [scheduleBytes, List.cons_append]
    rw [byte_eq_beBytes, walkCode_reads _ _ _ true (by decide) rfl, if_pos rfl]
    simp only [bind_assoc, pure_bind, List.append_assoc]
    rw [walkWithin_reads 1 0 3 _ _ _ (by omega) (Nat.zero_le _) hindex, walkClamped_reads _ _ _ _ _ _ hfraction,
      walkClamped_reads _ _ _ _ _ _ hlow, walkClamped_reads _ _ _ _ _ _ hhigh]
    exact ⟨_, rfl⟩

/-- A list of capture specs is read behind its count. -/
theorem walkCaptures_reads {γ : Type} {f : List CaptureSpec → Walk γ} (l : List CaptureSpec) (o : Nat) (rest : List Byte)
    (hl : l.length ≤ 4) (h : ∀ c ∈ l, c.offset ≤ 1517 ∧ within 1 4 c.len) :
    ∃ q, (walkWithin 1 0 4 >>= fun n => walkTimes walkCapture n >>= f)
        ⟨o, beBytes 1 l.length ++ (l.flatMap (fun c => beBytes 2 c.offset ++ beBytes 1 c.len) ++ rest)⟩ = f l ⟨q, rest⟩ := by
  rw [walkWithin_reads 1 0 4 _ _ _ (by omega) (Nat.zero_le _) hl,
    walk_bind_ok (walkTimes_follows walkCapture _ _ walkCapture_spec.2 l h _ rest)]
  exact ⟨_, rfl⟩

theorem walkExchange_reads {x : Exchange} (h : x.cfg.Writable) :
    WalkReadsAll walkExchange (exchangeHostBytes x)
      (.exchange (Exchange.fresh x.cfg.stored x.captures x.sendCounter)) := by
  intro o
  obtain ⟨⟨hrequest, hreply, hdecline, hcount, hspecs, -, -, -, -⟩, hfirst, hschedule, htimeout, hretry⟩ := h
  simp only [ExchangeConfig.stored] at hrequest hreply hdecline hcount hspecs
  have hcaptures : ∃ a b c d, x.captures = #v[a, b, c, d] := by
    refine ⟨x.captures[0], x.captures[1], x.captures[2], x.captures[3], ?_⟩
    ext k hk
    interval_cases k <;> rfl
  obtain ⟨a, b, c, d, hv⟩ := hcaptures
  have hlist : (#v[a, b, c, d]).toList = [a, b, c, d] := rfl
  have hword : ∀ v : SeqValue, v.toNat < 256 ^ 4 := fun v => v.isLt
  unfold walkExchange exchangeHostBytes
  rw [← List.append_nil (linkBytes x.cfg.claimLink), hv, hlist]
  simp only [List.append_assoc, List.flatMap_cons, List.flatMap_nil, List.nil_append]
  rw [walkTemplate_reads _ _ _ hrequest, walkDescriptor_reads _ _ _ hreply,
    walkOptional_reads (walkDescriptor_spec false) _ _ _ hdecline]
  obtain ⟨q, hq⟩ := walkCaptures_reads x.cfg.captureSpecs _ _ hcount hspecs
  rw [hq, walkNat_reads 4 _ _ _ (hword a), walkNat_reads 4 _ _ _ (hword b), walkNat_reads 4 _ _ _ (hword c),
    walkNat_reads 4 _ _ _ (hword d), walkClamped_reads _ _ _ _ _ _ hfirst]
  obtain ⟨q', hq'⟩ := walkSchedule_reads x.cfg.schedule _ _ hschedule
  rw [hq', walkClamped_reads _ _ _ _ _ _ htimeout, walkClamped_reads _ _ _ _ _ _ hretry, walkNat_reads 4 _ _ _ (hword _),
    walkLink_reads]
  simp only [BitVec.ofNat_toNat, BitVec.setWidth_eq]
  exact ⟨_, rfl⟩

end Records
end Sys2Proof.Machine

end

section
/-! SUPPORT. Whole images are read back (R14), and whatever image is read gives a record in range and fresh (R16 to R18). -/

namespace Sys2Proof.Machine

/-! ## A whole image is read back (R14) -/

/-- The walk of a kind's fields. -/
def walkKind (kind : Nat) : Walk Record :=
  match kind with
  | 1 => walkClaim
  | 2 => walkResponder
  | 3 => walkFilter
  | 4 => walkStream
  | 5 => walkExchange
  | _ => walkFail .malformed 1

/-- Behind a slot index and a kind code the walk of an image is the kind's. -/
theorem walkImage_kind (i : SlotIx) (b : Byte) (bytes : List Byte) :
    walkImage ⟨0, beBytes 1 i.val ++ b :: bytes⟩ =
      (walkKind b.toNat >>= fun r => walkEnd >>= fun _ => pure (i, r)) ⟨2, bytes⟩ := by
  unfold walkImage walkSlotIx
  simp only [bind_assoc]
  rw [walkHere_bind, walkNat_reads 1 i.val 0 _ (by omega), dif_pos i.isLt]
  simp only [pure_bind]
  rw [walkHere_bind, WalkFollows.cons _ _ _ _ b.toNat rfl]
  unfold walkKind
  rcases b.toNat with _ | _ | _ | _ | _ | _ | _ <;> rfl

/-- An image whose kind's walk reads all its fields is read. -/
theorem readImage_of_kind {i : SlotIx} {b : Byte} {bytes : List Byte} {r : Record}
    (h : WalkReadsAll (walkKind b.toNat) bytes r) : readImage (beBytes 1 i.val ++ b :: bytes) = .ok (i, r) := by
  obtain ⟨q, hq⟩ := h 2
  unfold readImage
  rw [walkImage_kind, walk_bind_ok hq, walkEnd_reads]

theorem readImage_claim (i : SlotIx) {c : ClaimConfig} (h : c.Writable) :
    readImage (putImage i (.claim (Claim.fresh c))) = .ok (i, .claim (Claim.fresh c.stored)) :=
  readImage_of_kind (b := 1) (walkClaim_reads h)

theorem readImage_responder (i : SlotIx) {r : ResponderConfig} (h : (RecordConfig.responder r).inRange) :
    readImage (putImage i (.responder (Responder.fresh r))) = .ok (i, .responder (Responder.fresh r)) :=
  readImage_of_kind (b := 2) (walkResponder_reads h)

theorem readImage_filter (i : SlotIx) {f : FilterConfig} (h : (RecordConfig.filter f).inRange) :
    readImage (putImage i (.filter (Filter.fresh f))) = .ok (i, .filter (Filter.fresh f)) :=
  readImage_of_kind (b := 3) (walkFilter_reads h)

theorem readImage_stream (i : SlotIx) {x : StreamConfig} (values : Option (SeqValue × SeqValue)) (h : x.Writable) :
    readImage (putImage i (.stream (Stream.fresh x values))) = .ok (i, .stream (Stream.fresh x.stored values)) := by
  have himage : putImage i (.stream (Stream.fresh x values)) =
      beBytes 1 i.val ++ 4 :: (streamConfigBytes x ++ optionalBytes valueBytes values) := by
    cases values <;> rfl
  rw [himage]
  exact readImage_of_kind (walkStream_reads values h)

theorem readImage_exchange (i : SlotIx) {x : ExchangeConfig} (captures : Vector SeqValue 4) (counter : SeqValue)
    (h : x.Writable) :
    readImage (putImage i (.exchange (Exchange.fresh x captures counter))) =
      .ok (i, .exchange (Exchange.fresh x.stored captures counter)) :=
  readImage_of_kind (b := 5) (walkExchange_reads (x := Exchange.fresh x captures counter) h)

/-! ### A configuration in range can be written with any numbers in its clamped fields -/

theorem ClaimConfig.writable_with {c : ClaimConfig} (h : (RecordConfig.claim c).inRange) {count spacing window : Nat}
    (hcount : count < 256 ^ 1) (hspacing : spacing < 256 ^ 4) (hwindow : window < 256 ^ 4) :
    ClaimConfig.Writable { c with probeCount := count, probeSpacing := spacing, defenceWindow := window } := by
  obtain ⟨haddress, hassert, hoffset, hprobe, hannounce, -, -, -⟩ := h
  exact ⟨⟨haddress, hassert, hoffset, hprobe, hannounce, (within_clamp (high := 7) (Nat.zero_le _) count).2,
    within_clamp (by decide) spacing, within_clamp (by decide) window⟩, hcount, hspacing, hwindow⟩

theorem StreamConfig.writable_with {x : StreamConfig} (h : (RecordConfig.stream x).inRange) {period retry misses : Nat}
    (hperiod : period < 256 ^ 4) (hretry : retry < 256 ^ 4) (hmiss : misses < 256 ^ 1) :
    StreamConfig.Writable { x with period := period, retrySpacing := retry, missLimit := misses } := by
  obtain ⟨hin, hout, hseq, hack, hlen, hlenSeq, hlenAck, hclose, hprobe, hreply, -, -, -⟩ := h
  exact ⟨⟨hin, hout, hseq, hack, hlen, hlenSeq, hlenAck, hclose, hprobe, hreply, within_clamp (by decide) period,
    within_clamp (by decide) retry, within_clamp (by decide) misses⟩, hperiod, hretry, hmiss⟩

theorem ExchangeConfig.writable_with {x : ExchangeConfig} (h : (RecordConfig.exchange x).inRange)
    {first timeout retries : Nat} {m : Schedule} (hfirst : first < 256 ^ 4) (hm : m.Writable) (htimeout : timeout < 256 ^ 4)
    (hretries : retries < 256 ^ 1) :
    ExchangeConfig.Writable
      { x with firstDelay := first, schedule := m, replyTimeout := timeout, retryLimit := retries } := by
  obtain ⟨hrequest, hreply, hdecline, hcount, hspecs, -, -, -, -⟩ := h
  exact ⟨⟨hrequest, hreply, hdecline, hcount, hspecs, within_clamp (by decide) first, Schedule.stored_inRange hm,
    within_clamp (by decide) timeout, (within_clamp (high := 15) (Nat.zero_le _) retries).2⟩, hfirst, hm, htimeout, hretries⟩

/-- A configuration in range is one of these: its clamped fields hold numbers of their width. -/
theorem ClaimConfig.writable_of_inRange {c : ClaimConfig} (h : (RecordConfig.claim c).inRange) : c.Writable := by
  obtain ⟨-, -, -, -, -, hcount, hspacing, hwindow⟩ := id h
  simp only [within, Config.maxDelay] at hspacing hwindow
  exact ClaimConfig.writable_with h (by omega) (by omega) (by omega)

theorem StreamConfig.writable_of_inRange {x : StreamConfig} (h : (RecordConfig.stream x).inRange) : x.Writable := by
  obtain ⟨-, -, -, -, -, -, -, -, -, -, hperiod, hretry, hmiss⟩ := id h
  simp only [within] at hperiod hretry hmiss
  exact StreamConfig.writable_with h (by omega) (by omega) (by omega)

theorem Schedule.writable_of_inRange {m : Schedule} (h : m.inRange) : m.Writable := by
  cases m with
  | fixed period =>
    simp only [Schedule.inRange, within, Config.maxDelay] at h
    simp only [Schedule.Writable]
    omega
  | captured index fraction low high =>
    simp only [Schedule.inRange, within, Config.maxDelay] at h
    simp only [Schedule.Writable]
    omega

theorem ExchangeConfig.writable_of_inRange {x : ExchangeConfig} (h : (RecordConfig.exchange x).inRange) : x.Writable := by
  obtain ⟨-, -, -, -, -, hfirst, hschedule, htimeout, hretry⟩ := id h
  simp only [within, Config.maxDelay] at hfirst htimeout
  exact ExchangeConfig.writable_with h (by omega) (Schedule.writable_of_inRange hschedule) (by omega) (by omega)

/-! ## What an accepted image can hold (R16, R17, R18) -/

/-- Whatever value the walk gives has a property. -/
def WalkYields {α : Type} (w : Walk α) (P : α → Prop) : Prop := ∀ p x q, w p = .ok (x, q) → P x

section Yields
variable {α β : Type} {P : α → Prop} {Q : β → Prop}

theorem WalkYields.bind {w : Walk α} {f : α → Walk β} (hw : WalkYields w P) (hf : ∀ x, P x → WalkYields (f x) Q) :
    WalkYields (w >>= f) Q := by
  intro p y q h
  cases hp : w p with
  | error e => rw [walk_bind_error hp] at h; cases h
  | ok a =>
    obtain ⟨x, p'⟩ := a
    rw [walk_bind_ok hp] at h
    exact hf x (hw p x p' hp) p' y q h

theorem WalkYields.pure {x : α} (h : P x) : WalkYields (Pure.pure x : Walk α) P := by
  intro p y q hy; cases hy; exact h

theorem WalkYields.fail {r : Result} {o : Nat} : WalkYields (walkFail r o : Walk α) P := by
  intro p y q hy; cases hy

/-- Nothing is asked of a value. -/
theorem WalkYields.any (w : Walk α) : WalkYields w fun _ => True := fun _ _ _ _ => trivial

/-- A walk goes on with a value of which nothing is asked. -/
theorem WalkYields.skip {w : Walk α} {f : α → Walk β} (hf : ∀ x, WalkYields (f x) Q) : WalkYields (w >>= f) Q :=
  (WalkYields.any w).bind fun x _ => hf x

/-- A number is below what its bytes can hold. -/
theorem natOfBytes_lt (bytes : List Byte) : natOfBytes bytes < 256 ^ bytes.length := by
  have key : ∀ (l : List Byte) (acc : Nat),
      l.foldl (fun acc b => acc * 256 + b.toNat) acc < (acc + 1) * 256 ^ l.length := by
    intro l
    induction l with
    | nil => intro acc; simp
    | cons b l ih =>
      intro acc
      have hb := b.isLt
      calc (b :: l).foldl (fun acc b => acc * 256 + b.toNat) acc
          < (acc * 256 + b.toNat + 1) * 256 ^ l.length := ih _
        _ ≤ ((acc + 1) * 256) * 256 ^ l.length := Nat.mul_le_mul_right _ (by omega)
        _ = (acc + 1) * 256 ^ (b :: l).length := by rw [List.length_cons, Nat.pow_succ', Nat.mul_assoc]
  simpa [natOfBytes] using key bytes 0

theorem walkBytes_yields (n : Nat) : WalkYields (walkBytes n) fun bytes => bytes.length = n := by
  intro p x q h
  unfold walkBytes at h
  split at h
  · cases h
  · next hlen => cases h; rw [List.length_take]; omega

theorem walkNat_yields (w : Nat) : WalkYields (walkNat w) fun n => n < 256 ^ w := by
  unfold walkNat
  exact (walkBytes_yields w).bind fun bytes hb => .pure (hb ▸ natOfBytes_lt bytes)

theorem walkWithin_yields (w low high : Nat) : WalkYields (walkWithin w low high) (within low high) := by
  unfold walkWithin
  refine .skip fun a => .skip fun n => ?_
  split
  · next h => exact .pure h
  · exact .fail

theorem walkClamped_yields {w low high : Nat} (h : low ≤ high) : WalkYields (walkClamped w low high) (within low high) := by
  unfold walkClamped
  exact .skip fun n => .pure (within_clamp h n)

theorem walkTimes_yields {part : Walk α} (h : WalkYields part P) :
    ∀ n, WalkYields (walkTimes part n) fun xs => xs.length = n ∧ ∀ x ∈ xs, P x
  | 0 => .pure ⟨rfl, by simp⟩
  | n + 1 => h.bind fun x hx => (walkTimes_yields h n).bind fun xs hxs =>
      .pure ⟨by simp [hxs.1], List.forall_mem_cons.2 ⟨hx, hxs.2⟩⟩

/-- A part repeated behind its count. -/
theorem walkList_yields {part : Walk α} (h : WalkYields part P) (low high : Nat) {f : List α → Walk β}
    (hf : ∀ xs, within low high xs.length → (∀ x ∈ xs, P x) → WalkYields (f xs) Q) :
    WalkYields (walkWithin 1 low high >>= fun n => walkTimes part n >>= f) Q :=
  (walkWithin_yields 1 low high).bind fun n hn => (walkTimes_yields h n).bind fun xs hxs =>
    hf xs (hxs.1 ▸ hn) hxs.2

theorem walkOptional_yields {part : Walk α} (h : WalkYields part P) :
    WalkYields (walkOptional part) fun x => ∀ y ∈ x, P y := by
  unfold walkOptional
  refine .skip fun present => ?_
  split
  · exact h.bind fun x hx => .pure (by simpa using hx)
  · exact .pure (by simp)

end Yields

theorem walkProbe_yields (ca : Bool) : WalkYields (walkProbe ca) (Probe.inRange ca) := by
  unfold walkProbe
  refine (walkWithin_yields 2 0 1517).bind fun offset hoffset => .skip fun lenAt => ?_
  refine (walkWithin_yields 1 1 16).bind fun len hlen => .skip fun formAt => .skip fun form => ?_
  split
  · refine (walkBytes_yields len).bind fun value hvalue => (walkBytes_yields len).bind fun mask hmask => .pure ?_
    have hzip : (value.zip mask).length = len := by simp [hvalue, hmask]
    exact ⟨hoffset.2, hzip.symm ▸ hlen⟩
  · split
    · split
      · exact .fail
      · split
        · next h4 hca => exact .pure ⟨hca, hoffset.2, hlen.1, Nat.not_lt.1 h4⟩
        · exact .fail
    · exact .fail

theorem walkDescriptor_yields (ca : Bool) : WalkYields (walkDescriptor ca) (Descriptor.inRange ca) := by
  unfold walkDescriptor
  rw [← bind_pure (walkWithin 1 1 4 >>= _), bind_assoc]
  exact walkList_yields (walkProbe_yields ca) 1 4 fun d hlen hprobes => .pure ⟨hlen, hprobes⟩

theorem walkSegment_yields : WalkYields walkSegment fun g => g.startBlock ≤ 255 ∧ within 1 1514 g.len := by
  unfold walkSegment
  refine (walkNat_yields 1).bind fun block hblock => (walkWithin_yields 2 1 1514).bind fun len hlen => ?_
  exact .skip fun flag => .pure ⟨Nat.le_of_lt_succ hblock, hlen⟩

theorem walkSubst_yields (rx : Bool) :
    WalkYields (walkSubst rx) fun u => u.offset ≤ 1513 ∧ within 1 16 u.len ∧ u.source.inRange rx := by
  unfold walkSubst
  refine (walkWithin_yields 2 0 1513).bind fun offset hoffset => (walkWithin_yields 1 1 16).bind fun len hlen => ?_
  refine .skip fun sourceAt => .skip fun code => ?_
  split
  · exact .fail
  · split
    · exact .fail
    · next hrx =>
      refine .skip fun argAt => .skip fun arg => ?_
      split
      · split
        · exact .fail
        · next harg => exact .pure ⟨hoffset.2, hlen, by simpa using hrx, Nat.not_lt.1 harg⟩
      · split
        · exact .fail
        · next harg => exact .pure ⟨hoffset.2, hlen, Nat.not_lt.1 harg⟩
      · split
        · exact .fail
        · split <;> exact .pure ⟨hoffset.2, hlen, trivial⟩

theorem walkChecksum_yields :
    WalkYields walkChecksum fun c => c.spanStart ≤ 1513 ∧ (∀ e ∈ c.spanEnd, within 1 1514 e) ∧ c.fieldOffset ≤ 1512 := by
  unfold walkChecksum
  refine (walkWithin_yields 2 0 1513).bind fun start hstart => .skip fun endAt => ?_
  refine (walkNat_yields 2).bind fun e he => ?_
  split
  · exact .fail
  · next hrange =>
    refine (walkWithin_yields 2 0 1512).bind fun field hfield => .skip fun base => .skip fun ones => .pure ?_
    refine ⟨hstart.2, ?_, hfield.2⟩
    dsimp only
    split
    · simp
    · simp only [Option.mem_def, Option.some.injEq, forall_eq']
      unfold within
      omega

theorem walkTemplate_yields (rx : Bool) : WalkYields (walkTemplate rx) (Template.inRange rx) := by
  unfold walkTemplate
  refine (walkWithin_yields 2 14 1514).bind fun total htotal => ?_
  refine walkList_yields walkSegment_yields 1 8 fun segments hsegments hg => ?_
  refine walkList_yields (walkSubst_yields rx) 0 6 fun substs hsubsts hu => ?_
  refine walkList_yields walkChecksum_yields 0 2 fun checksums hchecksums hc => ?_
  exact .pure ⟨htotal, hsegments, hsubsts.2, hchecksums.2, hg, hu, hc⟩

/-- A record in range, fresh. -/
def Record.isStored (r : Record) : Prop := r.config.inRange ∧ r.isFresh

theorem walkClaim_yields : WalkYields walkClaim Record.isStored := by
  unfold walkClaim
  refine (walkWithin_yields 1 1 16).bind fun len hlen => (walkBytes_yields len).bind fun address haddress => ?_
  refine (walkDescriptor_yields false).bind fun assertion hassertion => ?_
  refine (walkWithin_yields 2 0 1517).bind fun offset hoffset => ?_
  refine (walkOptional_yields (walkTemplate_yields false)).bind fun probe hprobe => ?_
  refine (walkOptional_yields (walkTemplate_yields false)).bind fun announce hannounce => ?_
  refine (walkClamped_yields (by decide)).bind fun count hcount => ?_
  refine (walkClamped_yields (by decide)).bind fun spacing hspacing => ?_
  refine (walkClamped_yields (by decide)).bind fun window hwindow => .skip fun link => .pure ?_
  exact ⟨⟨haddress.symm ▸ hlen, hassertion, hoffset.2, hprobe, hannounce, hcount.2, hspacing, hwindow⟩, rfl⟩

theorem walkResponder_yields : WalkYields walkResponder Record.isStored := by
  unfold walkResponder
  refine (walkDescriptor_yields false).bind fun descriptor hdescriptor => ?_
  refine (walkTemplate_yields true).bind fun answer hanswer => .skip fun link => .skip fun cls => .pure ?_
  exact ⟨⟨hdescriptor, hanswer⟩, rfl⟩

theorem walkFilter_yields : WalkYields walkFilter Record.isStored := by
  unfold walkFilter
  refine (walkDescriptor_yields false).bind fun descriptor hdescriptor => .skip fun action => .pure ?_
  exact ⟨hdescriptor, rfl⟩

/-- A stream as PUT_SLOT writes it is fresh, whether or not the host supplies its values. -/
theorem Stream.fresh_isFresh (x : StreamConfig) (values : Option (SeqValue × SeqValue)) :
    (Record.stream (Stream.fresh x values)).isFresh := by
  cases values <;> rfl

theorem walkStream_yields : WalkYields walkStream Record.isStored := by
  unfold walkStream
  refine (walkDescriptor_yields false).bind fun inbound hinbound => ?_
  refine (walkDescriptor_yields false).bind fun outbound houtbound => ?_
  refine (walkWithin_yields 2 0 1514).bind fun seqOffset hseq => ?_
  refine (walkWithin_yields 2 0 1514).bind fun ackOffset hack => .skip fun headerAt => .skip fun headerLen => ?_
  split
  · exact .fail
  · next hheader =>
    refine (walkOptional_yields (walkProbe_yields false)).bind fun closeProbe hclose => .skip fun tracking => ?_
    refine (walkTemplate_yields false).bind fun probe hprobe => (walkTemplate_yields true).bind fun reply hreply => ?_
    refine (walkClamped_yields (by decide)).bind fun period hperiod => ?_
    refine (walkClamped_yields (by decide)).bind fun retry hretry => ?_
    refine (walkClamped_yields (by decide)).bind fun misses hmisses => .skip fun link => .skip fun values => .pure ?_
    refine ⟨⟨hinbound, houtbound, hseq.2, hack.2, ?_, ?_, ?_, hclose, hprobe, hreply, hperiod, hretry, hmisses⟩,
      Stream.fresh_isFresh _ _⟩
    all_goals simp only [Stream.fresh]
    all_goals omega

theorem walkCapture_yields : WalkYields walkCapture fun c => c.offset ≤ 1517 ∧ within 1 4 c.len := by
  unfold walkCapture
  exact (walkWithin_yields 2 0 1517).bind fun offset hoffset => (walkWithin_yields 1 1 4).bind fun len hlen =>
    .pure ⟨hoffset.2, hlen⟩

theorem walkSchedule_yields : WalkYields walkSchedule Schedule.inRange := by
  unfold walkSchedule
  refine .skip fun captured => ?_
  split
  · refine (walkWithin_yields 1 0 3).bind fun index hindex => ?_
    refine (walkClamped_yields (by decide)).bind fun fraction hfraction => ?_
    refine (walkClamped_yields (by decide)).bind fun least hleast => ?_
    exact (walkClamped_yields hleast.2).bind fun most hmost => .pure ⟨hindex.2, hfraction, hleast, hmost⟩
  · exact (walkClamped_yields (by decide)).bind fun period hperiod => .pure hperiod

theorem walkExchange_yields : WalkYields walkExchange Record.isStored := by
  unfold walkExchange
  refine (walkTemplate_yields false).bind fun request hrequest => ?_
  refine (walkDescriptor_yields true).bind fun reply hreply => ?_
  refine (walkOptional_yields (walkDescriptor_yields false)).bind fun decline hdecline => ?_
  refine walkList_yields walkCapture_yields 0 4 fun specs hlen hspecs => ?_
  refine .skip fun v0 => .skip fun v1 => .skip fun v2 => .skip fun v3 => ?_
  refine (walkClamped_yields (by decide)).bind fun firstDelay hfirst => ?_
  refine walkSchedule_yields.bind fun schedule hschedule => ?_
  refine (walkClamped_yields (by decide)).bind fun timeout htimeout => ?_
  refine (walkClamped_yields (by decide)).bind fun retries hretries => .skip fun counter => .skip fun link => .pure ?_
  exact ⟨⟨hrequest, hreply, hdecline, hlen.2, hspecs, hfirst, hschedule, htimeout, hretries.2⟩, rfl⟩

/-- Whatever image is read, its record is in range and fresh. -/
theorem readImage_yields {payload : List Byte} {i : SlotIx} {r : Record} (h : readImage payload = .ok (i, r)) :
    r.isStored := by
  have hwalk : WalkYields walkImage fun x => x.2.isStored := by
    unfold walkImage
    refine .skip fun slot => .skip fun kindAt => .skip fun kind => ?_
    have hend : ∀ r : Record, r.isStored →
        WalkYields (walkEnd >>= fun _ => (pure (slot, r) : Walk _)) fun x => x.2.isStored := fun r hr =>
      .skip fun _ => .pure hr
    dsimp only
    split
    · exact walkClaim_yields.bind hend
    · exact walkResponder_yields.bind hend
    · exact walkFilter_yields.bind hend
    · exact walkStream_yields.bind hend
    · exact walkExchange_yields.bind hend
    · exact .bind .fail hend
  unfold readImage at h
  split at h
  · next x q hx => cases h; exact hwalk _ _ q hx
  · cases h

end Sys2Proof.Machine

open Sys2Proof Sys2Proof.Machine

/-- Settles O8: a fresh record's image is read as its configuration is stored, and a configuration in range is stored as it
is. -/
theorem putImageReadsBack : Obligations.PutImageReadsBack := by
  intro i r hrange hfresh
  cases r with
  | claim c =>
    rw [show c = Claim.fresh c.cfg from hfresh, readImage_claim i (ClaimConfig.writable_of_inRange hrange),
      ClaimConfig.stored_of_inRange hrange]
  | responder r => rw [show r = Responder.fresh r.cfg from hfresh, readImage_responder i hrange]
  | filter f => rw [show f = Filter.fresh f.cfg from hfresh, readImage_filter i hrange]
  | stream x =>
    rw [show x = Stream.fresh x.cfg _ from hfresh, readImage_stream i _ (StreamConfig.writable_of_inRange hrange),
      StreamConfig.stored_of_inRange hrange]
  | exchange x =>
    rw [show x = Exchange.fresh x.cfg x.captures x.sendCounter from hfresh,
      readImage_exchange i _ _ (ExchangeConfig.writable_of_inRange hrange), ExchangeConfig.stored_of_inRange hrange]

/-- Settles O7: what the walk of an image can yield is in range and fresh; the table of clamps is how each record with any
numbers written in its clamped fields is stored. -/
theorem storedRecordIsInRange : Obligations.StoredRecordIsInRange := by
  refine ⟨fun payload i r h => readImage_yields h, ?_, ?_, ?_⟩
  · intro i c count spacing window hrange hcount hspacing hwindow
    rw [readImage_claim i (ClaimConfig.writable_with hrange hcount hspacing hwindow)]
    simp [ClaimConfig.stored, clamp_delay, clamp_eq]
  · intro i x values period retry misses hrange hperiod hretry hmiss
    rw [readImage_stream i values (StreamConfig.writable_with hrange hperiod hretry hmiss)]
    simp [StreamConfig.stored, clamp_eq]
  · intro i x captures counter first timeout retries hrange hfirst htimeout hretries written stored
    have key : ∀ m : Schedule, m.Writable → written m = stored m.stored := by
      intro m hm
      simp only [written, stored]
      rw [readImage_exchange i captures counter (ExchangeConfig.writable_with hrange hfirst hm htimeout hretries)]
      simp [ExchangeConfig.stored, clamp_delay, clamp_eq]
    refine ⟨fun period hperiod => ?_, fun index fraction low high hindex hfraction hlow hhigh => ?_⟩
    · rw [key (.fixed period) hperiod, Schedule.stored, clamp_delay]
    · have hleast : max 1 (min low (2 ^ 30)) ≤ Config.maxDelay := by unfold Config.maxDelay; omega
      have hf : min fraction 255 = fraction := by omega
      rw [key (.captured index fraction low high) ⟨hindex, hfraction, hlow, hhigh⟩, Schedule.stored, clamp_delay,
        clamp_eq hleast, clamp_eq (by omega), hf]

end

section
/-! SUPPORT. The pool and the store: no engine, no frame and no clock event writes either, and the requests, store operations and
resets that write one keep it canonical inside its address space (R25, R26, R186, R187). -/

namespace Sys2Proof.Machine

/-- Nothing was written to the pool or to the store between two states. -/
@[simp] abbrev SameMemories (t s : State) : Prop := t.pool = s.pool ∧ t.store = s.store

theorem SameMemories.trans {s t u : State} (hu : SameMemories u t) (ht : SameMemories t s) : SameMemories u s :=
  ⟨hu.1.trans ht.1, hu.2.trans ht.2⟩

/-- A run over a list leaves the memories where each of its steps does. -/
theorem sameMemories_foldl {α : Type} {f : State → α → State} (h : ∀ s a, SameMemories (f s a) s) (l : List α) (s : State) :
    SameMemories (l.foldl f s) s := by
  induction l generalizing s with
  | nil => exact ⟨rfl, rfl⟩
  | cons a l ih => exact SameMemories.trans (ih (f s a)) (h s a)

/-- A command's effect leaves the memories whether or not it is taken. -/
theorem sameMemories_takeIf {s : State} {b : Bool} {effect : State → State} (h : SameMemories (effect s) s) :
    SameMemories (s.takeIf b effect) s := by
  unfold State.takeIf
  split
  · exact h
  · exact ⟨rfl, rfl⟩

/-- What comes is taken with the memories left, or waits (R184). -/
theorem sameMemories_takeOrDefer {s : State} {w : Waiting} {take : State → State} (h : SameMemories (take s) s) :
    SameMemories (s.takeOrDefer w take) s := by
  unfold State.takeOrDefer
  split
  · exact h
  · exact ⟨rfl, rfl⟩

/-! ## The engines leave the memories -/

section Engines
variable (s : State) (i : SlotIx)

@[simp] theorem State.wake_memories : SameMemories s.wake s := by
  unfold State.wake; split <;> simp

@[simp] theorem State.countDemand_memories : SameMemories s.countDemand s := by
  unfold State.countDemand; split <;> simp

@[simp] theorem State.holdFor_memories (f : Frame) (c : ConditionClass) : SameMemories (s.holdFor f c i) s := by
  simp [State.holdFor]

/-! ### Claims -/

theorem State.endLinkedStream_memories (claim : SlotIx) : SameMemories (s.endLinkedStream claim i) s := by
  unfold State.endLinkedStream
  split
  · simp
  · split <;> simp

@[simp] theorem State.loseClaim_memories (a c : Claim) : SameMemories (s.loseClaim i a c) s := by
  unfold State.loseClaim
  simp [sameMemories_foldl fun s j => s.endLinkedStream_memories j i]

theorem State.loseLinkedClaim_memories (x : SlotIx) : SameMemories (s.loseLinkedClaim x i) s := by
  unfold State.loseLinkedClaim
  split
  · simp
  · split <;> simp

@[simp] theorem State.conflictFor_memories (c : Claim) : SameMemories (s.conflictFor i c) s := by
  unfold State.conflictFor
  cases c.state with
  | held => dsimp only; split <;> simp
  | contested | probing | lost => simp

@[simp] theorem State.claimProbeSent_memories : SameMemories (s.claimProbeSent i) s := by
  unfold State.claimProbeSent
  split
  · simp
  · split
    · dsimp only; split <;> simp
    · simp

theorem State.takeProbeSpacing_memories : SameMemories (s.takeProbeSpacing i) s := by
  unfold State.takeProbeSpacing
  split
  · simp
  · split
    · refine sameMemories_takeIf ?_
      dsimp only
      split <;> simp
    · simp

theorem State.takeDefenceWindow_memories : SameMemories (s.takeDefenceWindow i) s := by
  unfold State.takeDefenceWindow
  split
  · simp
  · split
    · exact sameMemories_takeIf (by simp)
    · simp

theorem State.dropClaimOne_memories : SameMemories (s.dropClaimOne i) s := by
  unfold State.dropClaimOne
  split
  · simp
  · split <;> simp

@[simp] theorem State.returnClaim_memories (c : Claim) : SameMemories (s.returnClaim i c) s := by
  unfold State.returnClaim
  split
  · split
    · dsimp only; split <;> simp
    · simp
  · simp

/-! ### Streams -/

@[simp] theorem State.streamFrame_memories (t : Stream) (f : Frame) : SameMemories (s.streamFrame i t f) s := by
  unfold State.streamFrame
  split
  · simp
  · split
    · simp
    · split
      · simp
      · split
        case h_2 => unfold State.streamAck; dsimp only; split <;> simp
        all_goals simp [State.streamStale]

theorem State.takePeriod_memories : SameMemories (s.takePeriod i) s := by
  unfold State.takePeriod
  split
  · simp
  · exact sameMemories_takeIf (by simp)

theorem State.takeRetry_memories : SameMemories (s.takeRetry i) s := by
  unfold State.takeRetry
  split
  · simp
  · refine sameMemories_takeIf ?_
    dsimp only
    split <;> simp

@[simp] theorem State.streamProbeSent_memories : SameMemories (s.streamProbeSent i) s := by
  unfold State.streamProbeSent
  split
  · simp
  · dsimp only; split <;> simp

@[simp] theorem State.streamReplySent_memories : SameMemories (s.streamReplySent i) s := by
  unfold State.streamReplySent; split <;> simp

theorem State.takeoverOne_memories (bytes : List Byte) : SameMemories (s.takeoverOne bytes i) s := by
  unfold State.takeoverOne
  split
  · simp
  · split <;> simp

theorem State.trackInboundOne_memories (bytes : List Byte) : SameMemories (s.trackInboundOne bytes i) s := by
  unfold State.trackInboundOne
  split
  · simp
  · split <;> simp

theorem State.trackOutboundOne_memories (bytes : List Byte) : SameMemories (s.trackOutboundOne bytes i) s := by
  unfold State.trackOutboundOne
  split
  · simp
  · split <;> simp

@[simp] theorem State.returnStream_memories (t : Stream) : SameMemories (s.returnStream i t) s := by
  unfold State.returnStream; split <;> simp

/-! ### Exchanges -/

@[simp] theorem State.haltExchange_memories (a x : Exchange) (r : HaltReason) : SameMemories (s.haltExchange i a x r) s := by
  unfold State.haltExchange
  simp [sameMemories_foldl fun s j => s.loseLinkedClaim_memories j i]

@[simp] theorem State.exchangeFrame_memories (x : Exchange) (f : Frame) (v : ReplyVerdict) :
    SameMemories (s.exchangeFrame i x f v) s := by
  cases v <;> simp [State.exchangeFrame, State.acceptReply]

theorem State.takeNextDue_memories : SameMemories (s.takeNextDue i) s := by
  unfold State.takeNextDue
  split
  · simp
  · exact sameMemories_takeIf (by simp)

theorem State.takeReplyWait_memories : SameMemories (s.takeReplyWait i) s := by
  unfold State.takeReplyWait
  split
  · simp
  · refine sameMemories_takeIf ?_
    dsimp only
    split <;> simp

@[simp] theorem State.requestSent_memories : SameMemories (s.requestSent i) s := by
  unfold State.requestSent
  split
  · simp
  · dsimp only; split <;> simp

@[simp] theorem State.returnExchange_memories (x : Exchange) : SameMemories (s.returnExchange i x) s := by
  unfold State.returnExchange; split <;> simp

/-! ### Responders, filters and the flood guard -/

@[simp] theorem State.respondWith_memories (r : Responder) (f : Frame) : SameMemories (s.respondWith i r f) s := by
  unfold State.respondWith
  dsimp only
  split
  · simp
  · split <;> simp

@[simp] theorem State.responderSent_memories : SameMemories (s.responderSent i) s := by
  unfold State.responderSent; split <;> simp

@[simp] theorem State.filterFrame_memories (t : Filter) (f : Frame) : SameMemories (s.filterFrame i t f) s := by
  unfold State.filterFrame
  dsimp only
  split <;> simp

@[simp] theorem State.judgeWindow_memories : SameMemories s.judgeWindow s := by
  unfold State.judgeWindow
  dsimp only
  split
  · split
    · split <;> simp
    · simp
  · split <;> simp

end Engines

/-! ## Classification leaves the memories -/

section Classification
variable {s t : State} {f : Frame}

/-- A test that asks the slots in turn leaves what the first slot to claim the frame leaves. -/
theorem sameMemories_findSome {g : SlotIx → Option State} (hg : ∀ i t, g i = some t → SameMemories t s)
    (h : slotIndices.findSome? g = some t) : SameMemories t s := by
  obtain ⟨i, -, hi⟩ := List.exists_of_findSome?_eq_some h
  exact hg i t hi

/-- A record that claims the frame is acted on. -/
theorem sameMemories_map {α : Type} {x : Option α} {act : α → State} (ha : ∀ a, SameMemories (act a) s)
    (h : x.map act = some t) : SameMemories t s := by
  obtain ⟨a, -, rfl⟩ := Option.map_eq_some_iff.1 h
  exact ha a

theorem State.conflictTest_memories (h : s.conflictTest f = some t) : SameMemories t s := by
  unfold State.conflictTest at h
  split at h
  · exact sameMemories_findSome (fun i _ => sameMemories_map (s.conflictFor_memories i)) h
  · cases h

theorem State.streamTest_memories (h : s.streamTest f = some t) : SameMemories t s :=
  sameMemories_findSome (fun i _ => sameMemories_map fun x => s.streamFrame_memories i x f) h

theorem State.exchangeTest_memories (h : s.exchangeTest f = some t) : SameMemories t s := by
  refine sameMemories_findSome (fun i u hu => ?_) h
  split at hu
  · cases hu
  · next x _ => exact sameMemories_map (s.exchangeFrame_memories i x f) hu

theorem State.responderTest_memories (h : s.responderTest f = some t) : SameMemories t s := by
  refine sameMemories_findSome (fun i u hu => ?_) h
  split at hu
  · cases hu
  · next r _ =>
    split at hu
    · cases hu; exact s.respondWith_memories i r f
    · cases hu

theorem State.filterTest_memories (h : s.filterTest f = some t) : SameMemories t s := by
  refine sameMemories_findSome (fun i u hu => ?_) h
  split at hu
  · cases hu
  · next r _ =>
    split at hu
    · cases hu; exact s.filterFrame_memories i r f
    · cases hu

theorem State.claimedBy_memories (h : s.claimedBy f = some t) : SameMemories t s := by
  unfold State.claimedBy at h
  simp only [Option.orElse_eq_orElse, Option.orElse_eq_or, Option.or_eq_some_iff] at h
  rcases h with h | ⟨-, h | ⟨-, h | ⟨-, h | ⟨-, h⟩⟩⟩⟩
  · exact State.conflictTest_memories h
  · exact State.streamTest_memories h
  · exact State.exchangeTest_memories h
  · exact State.responderTest_memories h
  · exact State.filterTest_memories h

@[simp] theorem State.defaultDisposition_memories (s : State) (f : Frame) : SameMemories (s.defaultDisposition f) s := by
  unfold State.defaultDisposition
  split
  · simp
  · simp
  · split <;> simp

@[simp] theorem State.classify_memories (s : State) (f : Frame) : SameMemories (s.classify f) s := by
  unfold State.classify
  dsimp only
  split
  · simp
  · split
    · next h => simpa using State.claimedBy_memories h
    · simp

@[simp] theorem State.passToStation_memories (s : State) (f : Frame) : SameMemories (s.passToStation f).1 s := by
  unfold State.passToStation
  split
  · simp
  · split <;> simp

@[simp] theorem State.trackInbound_memories (s : State) (bytes : List Byte) : SameMemories (s.trackInbound bytes) s :=
  sameMemories_foldl (fun s i => s.trackInboundOne_memories i bytes) _ _

@[simp] theorem State.takeFrame_memories (s : State) (f : Frame) : SameMemories (s.takeFrame f) s := by
  unfold State.takeFrame
  split
  case h_1 => dsimp only; split <;> simp
  case h_5 | h_6 => split <;> simp
  all_goals simp

end Classification

/-! ## The clock, the transmitter, the link and the station path leave the memories -/

section Transmission
variable (s : State)

theorem State.takeTick_memories : SameMemories s.takeTick s := by
  unfold State.takeTick
  dsimp only
  split
  · unfold State.quietTest
    split
    · split <;> simp [State.enterDoze]
    · simp
  · split <;> simp
  · simp

theorem State.startLineFrame_memories : SameMemories s.startLineFrame s := by
  unfold State.startLineFrame; split <;> simp

theorem State.lineFrameArrives_memories (f : Frame) : SameMemories (s.lineFrameArrives f) s := by
  unfold State.lineFrameArrives
  split
  · simp
  · simp
  · split <;> simp

@[simp] theorem State.drainOn_memories : SameMemories s.drainOn s := by
  unfold State.drainOn; split <;> simp [State.reachHome]

@[simp] theorem State.endQuiesce_memories : SameMemories s.endQuiesce s := by
  unfold State.endQuiesce; split <;> simp

@[simp] theorem State.frameSent_memories (c : Carried) : SameMemories (s.frameSent c) s := by
  unfold State.frameSent; split <;> simp

@[simp] theorem State.requeueOwn_memories (item : OwnItem) : SameMemories (s.requeueOwn item) s := by
  unfold State.requeueOwn
  split
  · simp
  · dsimp only
    split
    · split
      · split <;> simp
      · simp
    · split
      · split <;> simp
      · simp
    · split
      · split <;> simp
      · simp

@[simp] theorem State.abortCarried_memories : SameMemories s.abortCarried s := by
  unfold State.abortCarried
  split
  · simp
  · dsimp only; split <;> simp

@[simp] theorem State.takeLinkDrop_memories : SameMemories s.takeLinkDrop s := by
  unfold State.takeLinkDrop
  split
  · simp [apply_ite State.pool, apply_ite State.store, sameMemories_foldl State.dropClaimOne_memories]
  · simp

theorem State.returnOne_memories (i : SlotIx) : SameMemories (s.returnOne i) s := by
  unfold State.returnOne; split <;> simp

@[simp] theorem State.takeLinkReturn_memories : SameMemories s.takeLinkReturn s := by
  unfold State.takeLinkReturn
  split
  · simp
  · dsimp only
    split <;> simp [sameMemories_foldl State.returnOne_memories]

@[simp] theorem State.takeStnRdy_memories (high : Bool) : SameMemories (s.takeStnRdy high) s := by
  unfold State.takeStnRdy; split <;> simp

@[simp] theorem State.nextPassing_memories : SameMemories s.nextPassing s := by
  unfold State.nextPassing; split <;> simp

@[simp] theorem State.takeDeliveryEnd_memories : SameMemories s.takeDeliveryEnd s := by
  unfold State.takeDeliveryEnd
  split
  · simp
  · simp
  · dsimp only; split <;> simp

@[simp] theorem State.takeStationFrame_memories (f : Frame) : SameMemories (s.takeStationFrame f) s := by
  have htests : SameMemories (s.stationTests f) s := by
    unfold State.stationTests
    split
    case h_1 => exact sameMemories_foldl (fun s i => s.trackOutboundOne_memories i f.bytes) _ _
    case h_5 | h_6 => exact sameMemories_foldl (fun s i => s.takeoverOne_memories i f.bytes) _ _
    all_goals simp
  exact htests

@[simp] theorem State.takeUntaken_memories : SameMemories s.takeUntaken s := by
  unfold State.takeUntaken; split <;> simp

theorem State.stationFrameEnds_memories (f : Frame) : SameMemories (s.stationFrameEnds f) s := by
  unfold State.stationFrameEnds
  split
  · simp
  · dsimp only
    split
    · split <;> simp [State.deferStationFrame, State.defer]
    · simp

end Transmission

/-! ## Custody leaves the memories -/

section CustodyUnit
variable (s : State)

theorem State.firstProbe_memories (i : SlotIx) : SameMemories (s.firstProbe i) s := by
  unfold State.firstProbe
  split
  · split <;> simp
  · simp

@[simp] theorem State.lendSuccess_memories : SameMemories s.lendSuccess s := by
  simp [State.lendSuccess, State.restartGuard, State.startRecords, sameMemories_foldl State.firstProbe_memories]

theorem State.checkStep_memories : SameMemories s.checkStep s := by
  unfold State.checkStep
  split
  · simp
  · split <;> simp [State.checkFailed]
  · split
    · simp [State.checkFailed]
    · split <;> simp

theorem State.reclaimOne_memories (i : SlotIx) : SameMemories (s.reclaimOne i) s := by
  unfold State.reclaimOne
  split
  case h_3 => dsimp only; split <;> simp
  all_goals simp

@[simp] theorem State.takeReclaim_memories : SameMemories s.takeReclaim s := by
  simp [State.takeReclaim, sameMemories_foldl State.reclaimOne_memories]

@[simp] theorem State.takeDiscard_memories : SameMemories s.takeDiscard s := by
  simp [State.takeDiscard]

theorem State.takeRecall_memories (discard : Bool) : SameMemories (s.takeRecall discard).1 s := by
  unfold State.takeRecall
  split
  case h_1 | h_2 => simp
  all_goals cases discard <;> simp

end CustodyUnit
end Sys2Proof.Machine
end

section
/-! SUPPORT. What writes the pool or the store keeps both canonical inside their address spaces (R25, R26, R186, R187). -/

namespace Sys2Proof.Machine

/-! ## Canonical memories inside an address space -/

theorem memBelow_iff {bound : Nat} {m : List Host.Cell} : memBelow bound m = true ↔ ∀ c ∈ m, c.1 < bound := by
  simp [memBelow]

/-- A run of writes that ends within the bound keeps a memory canonical and below it. -/
theorem memWriteAll_sound {blank : Byte} {bound x : Nat} {m : List Host.Cell} {vs : List Byte}
    (hwf : memWf blank m = true) (hb : memBelow bound m = true) (hx : x + vs.length ≤ bound) :
    memWf blank (memWriteAll blank m x vs) = true ∧ memBelow bound (memWriteAll blank m x vs) = true :=
  ⟨memWf_memWriteAll blank vs m x hwf, memBelow_iff.2 (memWriteAll_below blank vs m bound x hx (memBelow_iff.1 hb))⟩

section Sound
variable {s t : State}

/-- Memories stay sound where their bytes stay and no store operation comes up. -/
theorem memoriesSound_of_bytes (hp : t.pool = s.pool) (hc : t.store.cells = s.store.cells)
    (ho : t.store.op = s.store.op ∨ t.store.op = none) (h : s.memoriesSound) : t.memoriesSound := by
  obtain ⟨hpw, hpb, hcw, hcb, hop⟩ := h
  refine ⟨hp ▸ hpw, hp ▸ hpb, hc ▸ hcw, hc ▸ hcb, ?_⟩
  rcases ho with ho | ho
  · rw [ho]; exact hop
  · rw [ho]; rfl

theorem memoriesSound_of_same (ht : SameMemories t s) (h : s.memoriesSound) : t.memoriesSound :=
  memoriesSound_of_bytes ht.1 (by rw [ht.2]) (.inl (by rw [ht.2])) h

/-- A command's effect keeps the memories sound whether or not it is taken. -/
theorem memoriesSound_takeIf {b : Bool} {effect : State → State} (h : s.memoriesSound) (he : (effect s).memoriesSound) :
    (s.takeIf b effect).memoriesSound := by
  unfold State.takeIf
  split
  · exact he
  · exact h

theorem memoriesSound_takeOrDefer {w : Waiting} {take : State → State} (h : s.memoriesSound)
    (ht : (take s).memoriesSound) : (s.takeOrDefer w take).memoriesSound := by
  unfold State.takeOrDefer
  split
  · exact ht
  · exact memoriesSound_of_same ⟨rfl, rfl⟩ h

/-! ## The store's operations (R186, R187) -/

/-- A page of the store written whole. -/
theorem memoriesSound_writePage {page : Nat} {bytes : List Byte} (hp : page ≤ 7) (hb : bytes.length = 256)
    (h : s.memoriesSound) : (s.writePage page bytes).memoriesSound := by
  obtain ⟨hpw, hpb, hcw, hcb, hop⟩ := h
  obtain ⟨hw, hbelow⟩ := memWriteAll_sound (x := pageBase page) (vs := bytes) hcw hcb (by unfold pageBase; omega)
  exact ⟨hpw, hpb, hw, hbelow, hop⟩

theorem tornPage_length (draw : Nat) (data : List Byte) : (tornPage draw data).length = 256 := by
  simp only [tornPage, List.length_append, List.length_map, List.length_range]
  rfl

theorem erasedPage_length : erasedPage.length = 256 := List.length_replicate

/-- The operation under way concerns a user page. -/
theorem memoriesSound_erase {page : Nat} (h : s.memoriesSound) (ho : s.store.op = some (.erase page)) :
    2 ≤ page ∧ page ≤ 7 := by
  obtain ⟨-, -, -, -, hop⟩ := h
  simpa [ho, StoreOp.fits] using hop

theorem memoriesSound_program {page : Nat} {data : List Byte} (h : s.memoriesSound)
    (ho : s.store.op = some (.program page data)) : 2 ≤ page ∧ page ≤ 7 ∧ data.length = 256 := by
  obtain ⟨-, -, -, -, hop⟩ := h
  simpa [ho, StoreOp.fits] using hop

theorem memoriesSound_storeIdle (h : s.memoriesSound) : s.storeIdle.memoriesSound :=
  memoriesSound_of_bytes (by simp [State.storeIdle]) (by simp [State.storeIdle]) (.inr (by simp [State.storeIdle])) h

theorem memoriesSound_interruptStore (h : s.memoriesSound) : s.interruptStore.memoriesSound := by
  unfold State.interruptStore
  split
  · exact h
  · next page ho =>
    have hpage := memoriesSound_erase h ho
    exact memoriesSound_of_bytes (by simp) (by simp) (.inr (by simp))
      (memoriesSound_writePage hpage.2 erasedPage_length h)
  · next page data ho =>
    have hpage := memoriesSound_program h ho
    exact memoriesSound_of_bytes (by simp) (by simp) (.inr (by simp))
      (memoriesSound_writePage hpage.2.1 (tornPage_length s.draws data) h)

/-- An operation that fits comes up at an idle store. -/
theorem memoriesSound_startOp {op : StoreOp} (ho : op.fits = true) (h : s.memoriesSound) :
    (s.setStore { s.store with op := some op }).memoriesSound := by
  obtain ⟨hpw, hpb, hcw, hcb, -⟩ := h
  exact ⟨hpw, hpb, hcw, hcb, by simpa using ho⟩

/-! ## Resets and the profile load (R63, R185, R187, R189) -/

theorem memoriesSound_resetBlocks (clk : ClockUnit) (h : s.memoriesSound) : (s.resetBlocks clk).memoriesSound := by
  obtain ⟨-, -, hcw, hcb, -⟩ := h
  exact ⟨rfl, rfl, hcw, hcb, rfl⟩

theorem memoriesSound_endLoad (fault answers : Bool) (h : s.memoriesSound) : (s.endLoad fault answers).memoriesSound := by
  unfold State.endLoad
  dsimp only
  split
  · exact memoriesSound_of_bytes (by simp) (by simp) (.inl (by simp)) h
  · exact h

theorem memoriesSound_startLoad (answers : Bool) (h : s.memoriesSound) : (s.startLoad answers).memoriesSound := by
  unfold State.startLoad
  split
  · exact h
  · exact memoriesSound_endLoad false answers h

theorem memoriesSound_softReset (h : s.memoriesSound) : s.softReset.memoriesSound :=
  memoriesSound_startLoad true
    (memoriesSound_of_same (by simp) (memoriesSound_resetBlocks (ClockUnit.at s.clk.power s.clk.partTime) h))

/-! ## Requests -/

section Requests
variable (p : Port) (payload : List Byte)

theorem State.servePutSlot_memories (s : State) : SameMemories (s.servePutSlot p payload).1 s := by
  unfold State.servePutSlot
  split
  · simp
  · split
    · simp
    · split
      · simp
      · dsimp only; split <;> simp [State.replaceSlot]

theorem State.serveClearSlot_memories (s : State) : SameMemories (s.serveClearSlot p payload).1 s := by
  unfold State.serveClearSlot
  split
  · simp
  · split
    · simp
    · split <;> simp [State.replaceSlot]

theorem State.serveLend_memories (s : State) : SameMemories (s.serveLend p payload).1 s := by
  unfold State.serveLend
  split
  · simp
  · split
    · simp
    · split <;> simp

theorem State.serveReclaim_memories (s : State) : SameMemories (s.serveReclaim p payload).1 s := by
  unfold State.serveReclaim
  split
  · simp
  · split
    case h_5 | h_6 => split <;> simp
    all_goals simp

theorem State.serveRecall_memories (s : State) : SameMemories (s.serveRecall p payload).1 s := by
  unfold State.serveRecall
  split
  · simp
  · split
    · simp
    · split
      · split
        · exact s.takeRecall_memories false
        · split
          · exact s.takeRecall_memories true
          · simp
      · simp

theorem State.serveSetPolicy_memories (s : State) : SameMemories (s.serveSetPolicy p payload).1 s := by
  unfold State.serveSetPolicy
  split
  · simp
  · split
    · simp
    · split
      · simp
      · split
        · simp
        · unfold State.storePolicy; split <;> simp

theorem State.serveReadReport_memories (s : State) : SameMemories (s.serveReadReport p payload).1 s := by
  unfold State.serveReadReport
  split
  · simp
  · cases p <;> simp

theorem State.serveReleaseSample_memories (s : State) : SameMemories (s.serveReleaseSample p payload).1 s := by
  unfold State.serveReleaseSample
  split
  · simp
  · split
    · simp
    · split
      · simp
      · split <;> simp

theorem memoriesSound_servePoolWrite (h : s.memoriesSound) : (s.servePoolWrite p payload).1.memoriesSound := by
  unfold State.servePoolWrite
  split
  · exact h
  · split
    · exact h
    · split
      · exact h
      · dsimp only
        split
        · exact h
        · next hroom =>
          obtain ⟨hpw, hpb, hcw, hcb, hop⟩ := h
          obtain ⟨hw, hb⟩ := memWriteAll_sound (x := natOfBytes (payload.take 2)) (vs := payload.drop 2) hpw hpb (by omega)
          exact ⟨hw, hb, hcw, hcb, hop⟩

theorem memoriesSound_serveStoreErase (h : s.memoriesSound) : (s.serveStoreErase p payload).1.memoriesSound := by
  unfold State.serveStoreErase
  split
  · exact h
  · split
    · split
      · exact h
      · split
        · exact h
        · split
          · exact h
          · exact memoriesSound_startOp (by simp only [StoreOp.fits, decide_eq_true_eq]; omega) h
    · exact h

theorem memoriesSound_serveStoreProgram (h : s.memoriesSound) : (s.serveStoreProgram p payload).1.memoriesSound := by
  unfold State.serveStoreProgram
  split
  · exact h
  · split
    · split
      · exact h
      · split
        · exact h
        · split
          · exact h
          · split
            · exact h
            · split
              · exact h
              · exact memoriesSound_startOp (by simp only [StoreOp.fits, decide_eq_true_eq]; omega) h
    · exact h

theorem memoriesSound_serveSoftReset (h : s.memoriesSound) : (s.serveSoftReset p payload).1.memoriesSound := by
  unfold State.serveSoftReset
  split
  · exact h
  · split
    · exact h
    · split
      · exact h
      · split
        · exact h
        · exact memoriesSound_softReset h

theorem memoriesSound_serve (kind : RequestKind) (h : s.memoriesSound) : (s.serve p kind payload).1.memoriesSound := by
  cases kind
  case putSlot => exact memoriesSound_of_same (s.servePutSlot_memories p payload) h
  case getSlot => exact (s.serveGetSlot_fst p payload).symm ▸ h
  case clearSlot => exact memoriesSound_of_same (s.serveClearSlot_memories p payload) h
  case poolWrite => exact memoriesSound_servePoolWrite p payload h
  case poolRead => exact (s.servePoolRead_fst p payload).symm ▸ h
  case lend => exact memoriesSound_of_same (s.serveLend_memories p payload) h
  case reclaim => exact memoriesSound_of_same (s.serveReclaim_memories p payload) h
  case setPolicy => exact memoriesSound_of_same (s.serveSetPolicy_memories p payload) h
  case getPolicy => exact (s.serveGetPolicy_fst p payload).symm ▸ h
  case readStatus => exact (s.serveReadStatus_fst p payload).symm ▸ h
  case readChanges => exact (s.serveReadChanges_fst p payload).symm ▸ h
  case readReport => exact memoriesSound_of_same (s.serveReadReport_memories p payload) h
  case takeSample => exact (s.serveTakeSample_fst p payload).symm ▸ h
  case releaseSample => exact memoriesSound_of_same (s.serveReleaseSample_memories p payload) h
  case storeRead => exact (s.serveStoreRead_fst p payload).symm ▸ h
  case storeErase => exact memoriesSound_serveStoreErase p payload h
  case storeProgram => exact memoriesSound_serveStoreProgram p payload h
  case softReset => exact memoriesSound_serveSoftReset p payload h
  -- RECALL is the one left: its constructor's name is a word of Lean's.
  exact memoriesSound_of_same (s.serveRecall_memories p payload) h

theorem memoriesSound_takeRequest (kind : RequestKind) (h : s.memoriesSound) :
    (s.takeRequest p kind payload).memoriesSound := by
  have hserve := memoriesSound_serve p payload kind h
  unfold State.takeRequest
  split
  · exact memoriesSound_of_same (by simp) h
  · split
    · next hs => rw [hs] at hserve; exact memoriesSound_of_same (by simp) hserve
    · next hs => rw [hs] at hserve; exact hserve

theorem State.shiftHeldOut_memories (s : State) : SameMemories (s.shiftHeldOut p) s := by
  cases p <;> simp [State.shiftHeldOut]

theorem State.receiveMalformed_memories (s : State) : SameMemories (s.receiveMalformed p) s := by
  unfold State.receiveMalformed; split <;> simp [State.noteBusy]

theorem memoriesSound_receiveFramed (kind : RequestKind) (h : s.memoriesSound) :
    (s.receiveFramed p kind payload).memoriesSound := by
  unfold State.receiveFramed
  split
  · exact memoriesSound_of_same (by simp [State.noteBusy]) h
  · have hwoken := memoriesSound_of_same (t := (s.setPort p { s.port p with slot := .working }).wake) (by simp) h
    exact memoriesSound_takeOrDefer hwoken (memoriesSound_takeRequest p payload kind hwoken)

theorem memoriesSound_receive (kind : RequestKind) (h : s.memoriesSound) :
    (s.receive p kind payload).memoriesSound := by
  have hout := memoriesSound_of_same (s.shiftHeldOut_memories p) h
  refine memoriesSound_takeIf h ?_
  dsimp only
  split
  · exact memoriesSound_of_same (State.receiveMalformed_memories p _) hout
  · exact memoriesSound_receiveFramed p payload kind hout

theorem memoriesSound_receiveMessage (h : s.memoriesSound) : (s.receiveMessage p payload).memoriesSound := by
  have hout := memoriesSound_of_same (s.shiftHeldOut_memories p) h
  unfold State.receiveMessage
  split
  · exact memoriesSound_takeIf h hout
  · exact memoriesSound_takeIf h (memoriesSound_of_same (State.receiveMalformed_memories p _) hout)
  · exact memoriesSound_receive p _ _ h

end Requests

/-- A record of the load is served as its request (R189). -/
theorem memoriesSound_serveRecord {type : Byte} {body : List Byte} {u : State} {r : Response} (h : s.memoriesSound)
    (hrec : s.serveRecord type body = some (u, r)) : u.memoriesSound := by
  have hserve := fun kind => memoriesSound_serve .system body kind h
  unfold State.serveRecord at hrec
  split at hrec
  · simpa only [State.serve, answered, Option.some.inj hrec] using hserve .putSlot
  · simpa only [State.serve, answered, Option.some.inj hrec] using hserve .poolWrite
  · simpa only [State.serve, answered, Option.some.inj hrec] using hserve .setPolicy
  · cases hrec

/-- One record of the load is served as its request, and moves the load on or ends it (R189). -/
theorem memoriesSound_loadRecord (l : ProfileLoad) (h : s.memoriesSound) : (s.loadRecord l).memoriesSound := by
  unfold State.loadRecord
  dsimp only
  split
  · exact memoriesSound_endLoad _ _ h
  · split
    · exact memoriesSound_endLoad _ _ h
    · split
      · exact memoriesSound_endLoad _ _ h
      · split
        · exact memoriesSound_endLoad _ _ h
        · next u r hrec =>
          have hu := memoriesSound_serveRecord h hrec
          split
          · exact memoriesSound_endLoad _ _ h
          · split
            · exact memoriesSound_endLoad _ _ hu
            · exact hu

/-! ## Commands -/

theorem memoriesSound_takeWaiting (w : Waiting) (h : s.memoriesSound) : (s.takeWaiting w).memoriesSound := by
  cases w with
  | request p kind payload => exact memoriesSound_takeRequest p payload kind h
  | linkDrop => exact memoriesSound_of_same s.takeLinkDrop_memories h
  | linkReturn => exact memoriesSound_of_same s.takeLinkReturn_memories h
  | stationFrame => exact memoriesSound_of_same s.takeUntaken_memories h
  | stnRdy high => exact memoriesSound_of_same (s.takeStnRdy_memories high) h
  | deliveryEnd => exact memoriesSound_of_same s.takeDeliveryEnd_memories h

theorem memoriesSound_endWarmUp (h : s.memoriesSound) : s.endWarmUp.memoriesSound :=
  List.foldlRecOn _ _ h fun _ hs w _ => memoriesSound_takeWaiting w hs

end Sound

/-- The commands whose effect may write the pool or the store: the requests and a message that may be one, the load, the ends of
the store's operations, what waits for the end of warm-up, and the resets. -/
def mayWriteMemory : Instr → Bool
  | .putSlot _ _ | .getSlot _ _ | .clearSlot _ _ | .poolWrite _ _ | .poolRead _ _ | .lend _ _ | .reclaim _ _
  | .recall _ _ | .setPolicy _ _ | .getPolicy _ _ | .readStatus _ _ | .readChanges _ _ | .readReport _ _
  | .takeSample _ _ | .releaseSample _ _ | .storeRead _ _ | .storeErase _ _ | .storeProgram _ _ | .softReset _ _
  | .unknownRequest _ _ | .profileRecord | .storeEraseDone | .storeProgramDone | .warmUpEnd | .powerOn | .rstN
  | .resetRelease | .powerLoss => true
  | .poll _ | .responseRead _ _ | .lendCheckStep | .lineFrameStart | .lineFrameArrival _ _ | .frameTaking
  | .stationFrameStart | .stationFrameTaking _ _ | .grant | .transmitComplete | .lineLinkDrop | .lineLinkReturn
  | .stnRdyChange _ | .deliveryEnd | .tick | .dueItemPlacement | .probeSpacingExpiry _ | .defenceWindowExpiry _
  | .streamPeriodExpiry _ | .retrySpacingExpiry _ | .exchangeNextDue _ | .replyWaitExpiry _ | .floodWindowEnd
  | .dozeEntry | .warmUpStart _ => false

/-- Every other command leaves both memories. -/
theorem exec_memories_of_not_mayWriteMemory {c : Instr} {s t : State} (hc : mayWriteMemory c = false)
    (h : exec c s = .next t) : SameMemories t s := by
  cases c
  case poll | responseRead => cases h; exact sameMemories_takeIf (by simp)
  case lendCheckStep => cases h; exact sameMemories_takeIf s.checkStep_memories
  case lineFrameStart =>
    cases h
    refine sameMemories_takeIf ?_
    simpa using s.wake.startLineFrame_memories
  case lineFrameArrival => cases h; exact sameMemories_takeIf (s.lineFrameArrives_memories _)
  case frameTaking => cases h; refine sameMemories_takeIf ?_; split <;> simp
  case stationFrameStart => cases h; exact sameMemories_takeIf (by simp)
  case stationFrameTaking => cases h; exact sameMemories_takeIf (s.stationFrameEnds_memories _)
  case grant => cases h; exact sameMemories_takeIf (by simp)
  case transmitComplete => cases h; refine sameMemories_takeIf ?_; split <;> simp
  case lineLinkDrop =>
    cases h
    refine sameMemories_takeIf (SameMemories.trans (sameMemories_takeIf ?_) (t := s.setPins _) (by simp))
    exact SameMemories.trans (sameMemories_takeOrDefer (State.takeLinkDrop_memories _)) (by simp [State.cutArriving])
  case lineLinkReturn =>
    cases h
    refine sameMemories_takeIf (SameMemories.trans (sameMemories_takeIf ?_) (t := s.setPins _) (by simp))
    exact SameMemories.trans (sameMemories_takeOrDefer (State.takeLinkReturn_memories _)) (by simp)
  case stnRdyChange =>
    cases h
    refine sameMemories_takeIf (SameMemories.trans (sameMemories_takeIf ?_) (t := s.setPins _) (by simp))
    exact sameMemories_takeOrDefer (State.takeStnRdy_memories _ _)
  case deliveryEnd => cases h; exact sameMemories_takeIf (sameMemories_takeOrDefer s.takeDeliveryEnd_memories)
  case tick => cases h; exact sameMemories_takeIf s.takeTick_memories
  case dueItemPlacement => cases h; exact sameMemories_takeIf (sameMemories_foldl (by simp) _ _)
  case probeSpacingExpiry i => cases h; exact s.takeProbeSpacing_memories i
  case defenceWindowExpiry i => cases h; exact s.takeDefenceWindow_memories i
  case streamPeriodExpiry i => cases h; exact s.takePeriod_memories i
  case retrySpacingExpiry i => cases h; exact s.takeRetry_memories i
  case exchangeNextDue i => cases h; exact s.takeNextDue_memories i
  case replyWaitExpiry i => cases h; exact s.takeReplyWait_memories i
  case floodWindowEnd => cases h; exact sameMemories_takeIf (by simp [State.startWindow])
  case dozeEntry => cases h; exact sameMemories_takeIf (by simp [State.enterDoze])
  case warmUpStart => cases h; exact sameMemories_takeIf s.wake_memories
  all_goals cases hc

/-- Every command keeps the memories sound. -/
theorem exec_memoriesSound {c : Instr} {s t : State} (hs : s.memoriesSound) (h : exec c s = .next t) : t.memoriesSound := by
  cases hc : mayWriteMemory c with
  | false => exact memoriesSound_of_same (exec_memories_of_not_mayWriteMemory hc h) hs
  | true =>
    cases c
    case putSlot | getSlot | clearSlot | poolWrite | poolRead | lend | reclaim | setPolicy | getPolicy | readStatus
        | readChanges | readReport | takeSample | releaseSample | storeRead | storeErase | storeProgram | softReset =>
      cases h; exact memoriesSound_receive _ _ _ hs
    case unknownRequest p m => cases h; exact memoriesSound_receiveMessage p m hs
    case profileRecord =>
      cases h
      refine memoriesSound_takeIf hs ?_
      split
      · exact hs
      · exact memoriesSound_loadRecord _ hs
    case storeEraseDone =>
      cases h
      refine memoriesSound_takeIf hs ?_
      split
      · next page ho =>
        exact memoriesSound_storeIdle (memoriesSound_writePage (memoriesSound_erase hs ho).2 erasedPage_length hs)
      · exact hs
    case storeProgramDone =>
      cases h
      refine memoriesSound_takeIf hs ?_
      split
      · next page data ho =>
        obtain ⟨-, hpage, hdata⟩ := memoriesSound_program hs ho
        exact memoriesSound_storeIdle (memoriesSound_writePage hpage hdata hs)
      · exact hs
    case warmUpEnd => cases h; exact memoriesSound_takeIf hs (memoriesSound_endWarmUp hs)
    case powerOn | powerLoss => cases h; exact memoriesSound_resetBlocks _ (memoriesSound_interruptStore hs)
    case rstN =>
      cases h
      exact memoriesSound_takeIf hs (memoriesSound_resetBlocks _ (memoriesSound_interruptStore hs))
    case resetRelease =>
      cases h
      exact memoriesSound_takeIf hs (memoriesSound_startLoad false (memoriesSound_resetBlocks _ hs))
    case poll | responseRead | lendCheckStep | lineFrameStart | lineFrameArrival | frameTaking | stationFrameStart
        | stationFrameTaking | grant | transmitComplete | lineLinkDrop | lineLinkReturn | stnRdyChange | deliveryEnd | tick
        | dueItemPlacement | probeSpacingExpiry | defenceWindowExpiry | streamPeriodExpiry | retrySpacingExpiry
        | exchangeNextDue | replyWaitExpiry | floodWindowEnd | dozeEntry | warmUpStart => cases hc
    -- RECALL is the one left: its constructor's name is a word of Lean's.
    cases h
    exact memoriesSound_receive _ _ _ hs

end Sys2Proof.Machine

open Sys2Proof Sys2Proof.Machine

/-- Settles O57: the few operations that write the pool or the store do so within its address space; all others leave both. -/
theorem memoriesStayCanonical : Obligations.MemoriesStayCanonical := by
  intro s t hs h
  unfold step at h
  split at h
  · cases h; exact hs
  · refine exec_memoriesSound ?_ h
    exact hs

end

section
/-! SUPPORT. POOL_WRITE and POOL_READ check by check, on payloads that spell a start offset and what follows it (R26, R27). -/

namespace Sys2Proof.Machine

section Pool
variable {s : State} {payload data : List Byte} {start n : Nat}

/-- The number that leads a payload, and what stands behind it. -/
theorem natOfBytes_take_two (data : List Byte) (h : start < 65536) : natOfBytes ((beBytes 2 start ++ data).take 2) = start := by
  rw [List.take_left' (beBytes_length 2 start), natOfBytes_beBytes 2 start h]

theorem drop_two_beBytes (start : Nat) (data : List Byte) : (beBytes 2 start ++ data).drop 2 = data :=
  List.drop_left' (beBytes_length 2 start)

/-! ## POOL_WRITE (R26) -/

theorem State.servePoolWrite_platform : s.servePoolWrite .platform payload = (s, .bare .notPermitted) := by
  simp [State.servePoolWrite]

theorem State.servePoolWrite_wrongState (h : s.custody.state ≠ .home) :
    s.servePoolWrite .system payload = (s, .bare .wrongState) := by
  simp [State.servePoolWrite, h]

theorem State.servePoolWrite_malformed (h : s.custody.state = .home) (hl : payload.length < 3 ∨ 258 < payload.length) :
    s.servePoolWrite .system payload = (s, .bare .malformed) := by
  simp [State.servePoolWrite, h, hl]

/-- A POOL_WRITE of 1 … 256 data bytes in HOME: whether they end within the pool decides. -/
theorem State.servePoolWrite_data (h : s.custody.state = .home) (hs : start < 65536) (h1 : 1 ≤ data.length)
    (h2 : data.length ≤ 256) :
    s.servePoolWrite .system (beBytes 2 start ++ data) =
      if 16384 ≤ start ∨ 16384 < start + data.length then (s, .bare .outOfRange)
      else (s.setPool (memWriteAll poolBlank s.pool start data), .bare .done) := by
  have hlen : ¬ ((beBytes 2 start ++ data).length < 3 ∨ 258 < (beBytes 2 start ++ data).length) := by
    rw [List.length_append, beBytes_length]; omega
  simp only [State.servePoolWrite, h, hlen, natOfBytes_take_two data hs, drop_two_beBytes, Config.poolBytes]
  simp

/-- A pool written while a request waits for its answer. -/
theorem State.setPool_working_respond (s : State) (p : Port) (pool : List Host.Cell) (r : Response) :
    ((s.working p).setPool pool).respond p r = (s.setPool pool).answered p r := by
  cases p <;> rfl

/-! ## POOL_READ (R27) -/

theorem State.servePoolRead_platform : s.servePoolRead .platform payload = (s, .bare .notPermitted) := by
  simp [State.servePoolRead]

theorem State.servePoolRead_malformed (h : payload.length ≠ 4) :
    s.servePoolRead .system payload = (s, .bare .malformed) := by
  simp [State.servePoolRead, h]

/-- A POOL_READ of a start offset and a count: whether the bytes lie within the pool decides. -/
theorem State.servePoolRead_span (hs : start < 65536) (hn : n < 65536) :
    s.servePoolRead .system (beBytes 2 start ++ beBytes 2 n) =
      if n = 0 ∨ 256 < n ∨ 16384 ≤ start ∨ 16384 < start + n then (s, .bare .outOfRange)
      else (s, { result := .done, payload := (List.range n).map fun k => s.poolByte (start + k) }) := by
  have hlen : (beBytes 2 start ++ beBytes 2 n).length = 4 := by simp
  simp only [State.servePoolRead, hlen, natOfBytes_take_two _ hs, drop_two_beBytes, natOfBytes_beBytes 2 n hn, Config.poolBytes]
  simp [memReadAll, State.poolByte]

end Pool

end Sys2Proof.Machine

open Sys2Proof Sys2Proof.Machine

/-- Settles O11: the owner's answer is the pool with a run of writes, of which a read gives the byte written inside the run. -/
theorem poolWriteWritesItsBytes : Obligations.PoolWriteWritesItsBytes := by
  intro start data s hready hhome hwf h1 h2 hroom
  have hcus : (s.working .system).custody.state = .home := by simpa using hhome
  have hl : (beBytes 2 start ++ data).length ≤ 1024 := by simp; omega
  have hserve : (s.working .system).servePoolWrite .system (beBytes 2 start ++ data) =
      ((s.working .system).setPool (memWriteAll poolBlank s.pool start data), .bare .done) := by
    rw [State.servePoolWrite_data hcus (by omega) h1 h2, if_neg (by omega), (s.working_frame .system).2.2.2]
  refine ⟨memWriteAll poolBlank s.pool start data, ?_, fun a => memRead_memWriteAll poolBlank data s.pool start a hwf⟩
  refine congrArg Host.Outcome.next ((State.receive_answered hready hl (congrArg answered hserve)).trans ?_)
  exact State.setPool_working_respond s .system _ _

/-- Settles O12: each check is one answer of the pool's owner, and a ready request is answered with it. -/
theorem poolRequestsAreChecked : Obligations.PoolRequestsAreChecked := by
  intro p payload s hl
  refine ⟨fun hready => ?_, fun hready => ?_⟩
  · have answeredWith : ∀ x, (s.working p).servePoolRead p payload = (s.working p, x) →
        exec (.poolRead p payload) s = .next (s.answered p x) := fun x hx =>
      congrArg Host.Outcome.next (State.receive_refused hready hl (congrArg answered hx))
    refine ⟨?_, ?_, ?_⟩
    · rintro rfl
      exact answeredWith _ State.servePoolRead_platform
    · rintro rfl hlen
      exact answeredWith _ (State.servePoolRead_malformed hlen)
    · rintro rfl start n hs hn rfl
      have hspan := State.servePoolRead_span (s := s.working .system) hs hn
      have hbyte : ∀ a, (s.working .system).poolByte a = s.poolByte a := fun a => by simp [State.poolByte]
      refine ⟨fun hbad => answeredWith _ ?_, fun h1 h2 h3 => answeredWith _ ?_⟩
      · rw [hspan, if_pos (by omega)]; rfl
      · rw [hspan, if_neg (by omega)]; simp only [hbyte]
  · have hcus : (s.working p).custody.state = s.custody.state := by simp
    have refused : ∀ x, (s.working p).servePoolWrite p payload = (s.working p, x) →
        exec (.poolWrite p payload) s = .next (s.answered p x) := fun x hx =>
      congrArg Host.Outcome.next (State.receive_refused hready hl (congrArg answered hx))
    refine ⟨?_, ?_, ?_, ?_⟩
    · rintro rfl
      exact refused _ State.servePoolWrite_platform
    · rintro rfl hc
      exact refused _ (State.servePoolWrite_wrongState (hcus.trans_ne hc))
    · rintro rfl hc hlen
      exact refused _ (State.servePoolWrite_malformed (hcus.trans hc) hlen)
    · rintro rfl hc start data hs rfl h1 h2 hout
      refine refused _ ?_
      rw [State.servePoolWrite_data (hcus.trans hc) hs h1 h2, if_pos (by omega)]; rfl

end

section
/-! SUPPORT. What a substitution writes, byte by byte (R34, R35). -/

namespace Sys2Proof.Machine

/-! ## Values fitted to a length (R35) -/

@[simp] theorem fitAddress_length (address : List Byte) (n : Nat) : (fitAddress address n).length = n := by
  simp [fitAddress]

/-- An address fitted to a length keeps its bytes from the first on, with zero bytes behind its end. -/
theorem fitAddress_getElem? (address : List Byte) {n k : Nat} (h : k < n) :
    (fitAddress address n)[k]? = some (address.getD k 0) := by
  rw [fitAddress, List.getElem?_take_of_lt h, List.getD_eq_getElem?_getD]
  by_cases hk : k < address.length
  · rw [List.getElem?_append_left hk, List.getElem?_eq_getElem hk, Option.getD_some]
  · rw [List.getElem?_append_right (by omega), List.getElem?_replicate_of_lt (by omega),
      List.getElem?_eq_none (by omega), Option.getD_none]

@[simp] theorem fitNumber_length (v : BitVec 32) (n : Nat) : (fitNumber v n).length = n := by
  simp only [fitNumber, lowBytes, List.length_append, List.length_replicate, beBytes_length]
  omega

/-- A number fitted to a length, read from its last byte: its four low bytes, then zero bytes. -/
theorem fitNumber_getElem? (v : BitVec 32) {n k : Nat} (h : k < n) :
    (fitNumber v n)[n - 1 - k]? = some (if k < 4 then BitVec.ofNat 8 (v.toNat / 256 ^ k) else 0) := by
  rw [fitNumber]
  by_cases hk : k < 4
  · have hplace : min n 4 - 1 - (n - 1 - k - (n - 4)) = k := by omega
    rw [if_pos hk, List.getElem?_append_right (by simp only [List.length_replicate]; omega), List.length_replicate,
      lowBytes_getElem? v _ _ (by omega), hplace]
  · rw [if_neg hk, List.getElem?_append_left (by simp only [List.length_replicate]; omega),
      List.getElem?_replicate_of_lt (by omega)]

/-- A substitution writes as many bytes as it is long. -/
@[simp] theorem substValue_length (ctx : BuildContext) (source : Source) (n : Nat) :
    (substValue ctx source n).length = n := by
  cases source <;> simp [substValue]

end Sys2Proof.Machine

open Sys2Proof Sys2Proof.Machine

/-- Settles O15: every source supplies a number or an address, and each is fitted to the length in its one way. -/
theorem substitutionFitsItsValue : Obligations.SubstitutionFitsItsValue := by
  intro ctx n
  refine ⟨fun source => substValue_length ctx source n, fun k hk => fitNumber_getElem? ctx.now hk, ?_, ?_, ?_, ?_⟩
  · intro t k howner hk
    simp only [substValue, howner]
    exact ⟨fitNumber_getElem? t.ourSeq hk, fitNumber_getElem? (t.ourSeq - 1) hk, fitNumber_getElem? t.peerSeq hk⟩
  · intro x k j howner hk
    simp only [substValue, howner]
    exact ⟨fitNumber_getElem? x.sendCounter hk, fitNumber_getElem? (x.captures.toList.getD j 0) hk⟩
  · exact fun k hk => ⟨fitAddress_getElem? ctx.claimAddress hk, fitAddress_getElem? (beBytes 6 ctx.stationAddr.toNat) hk⟩
  · intro o k hk
    rw [substValue, fitAddress_getElem? _ hk]
    simp [List.getD_eq_getElem?_getD]

end

section
/-! SUPPORT. The frame a checked template builds: what the four failing tests leave of a template, each stage of a build byte by byte,
and the sum of a span before and after its checksum (R30 to R33, R35 to R39). -/

namespace Sys2Proof.Machine

/-! ## What a template that meets no failing test is (R31 to R33) -/

/-- A template has no reason exactly where none of its four tests fails (R33). -/
theorem Template.reason_eq_none {t : Template} {owner : Record} :
    t.reason owner = none ↔
      t.failsPoolRange = false ∧ t.failsChainLength = false ∧ t.failsFieldRange = false ∧ t.failsNoSource owner = false := by
  unfold Template.reason
  split_ifs <;> simp_all

/-- Every segment lies in the pool (R31). -/
theorem Template.segments_in_pool {t : Template} (h : t.failsPoolRange = false) :
    ∀ g ∈ t.segments, 64 * g.startBlock + g.len ≤ 16384 := by
  simpa [Template.failsPoolRange, Segment.leavesPool] using h

/-- The chain gives the total length (R31). -/
theorem Template.chain_length {t : Template} (h : t.failsChainLength = false) :
    (t.segments.map Segment.len).sum = t.totalLen := by
  simp only [Template.failsChainLength, Bool.or_eq_false_iff, decide_eq_false_iff_not, not_not] at h
  exact h.2

/-- A checksum spec's field lies in its span, at an even place of it, and the span in a template of length n (R32). -/
structure ChecksumSpec.Fits (n : Nat) (c : ChecksumSpec) : Prop where
  start_le : c.spanStart ≤ c.fieldOffset
  field_le : c.fieldOffset + 2 ≤ c.spanEnd.getD n
  end_le : c.spanEnd.getD n ≤ n
  even : (c.fieldOffset - c.spanStart) % 2 = 0

theorem ChecksumSpec.fits_of_not_fails {n : Nat} {c : ChecksumSpec} (h : c.fails n = false) : c.Fits n := by
  simp only [ChecksumSpec.fails, Bool.or_eq_false_iff, decide_eq_false_iff_not] at h
  obtain ⟨⟨⟨⟨-, hend⟩, hstart⟩, hfield⟩, heven⟩ := h
  refine ⟨by omega, by omega, ?_, by omega⟩
  cases hc : c.spanEnd with
  | none => simp
  | some e =>
    simp only [hc, Bool.or_eq_false_iff, decide_eq_false_iff_not] at hend
    simp only [Option.getD_some]
    omega

/-- Every field of a template lies inside it, and no checksum is written into the span of one listed before it (R32). -/
theorem Template.fields_fit {t : Template} (h : t.failsFieldRange = false) :
    (∀ u ∈ t.substs, u.offset + u.len ≤ t.totalLen) ∧ (∀ c ∈ t.checksums, c.Fits t.totalLen) ∧
      checksumsOverlap t.totalLen t.checksums = false := by
  simp only [Template.failsFieldRange, Bool.or_eq_false_iff, List.any_eq_false, decide_eq_true_eq, Nat.not_lt,
    Bool.not_eq_true] at h
  obtain ⟨⟨hsubsts, hfails⟩, hoverlap⟩ := h
  exact ⟨hsubsts, fun c hc => ChecksumSpec.fits_of_not_fails (hfails c hc), hoverlap⟩

/-! ## The stages of a build (R30, R36, R37, R39) -/

/-- The chain is as long as its segments together (R30). -/
theorem layChain_length (pool : List Host.Cell) (segments : List Segment) :
    (layChain pool segments).length = (segments.map Segment.len).sum := by
  simp [layChain, List.length_flatMap]

@[simp] theorem applySubsts_length (ctx : BuildContext) (substs : List Subst) (bytes : List Byte) :
    (applySubsts ctx substs bytes).length = bytes.length := by
  unfold applySubsts
  induction substs generalizing bytes with
  | nil => rfl
  | cons u substs ih => rw [List.foldl_cons, ih, overwrite_length]

/-- A byte after the substitutions: the one listed last that writes there decides (R36). -/
theorem applySubsts_getD (ctx : BuildContext) (substs : List Subst) (bytes : List Byte) {k : Nat} (hk : k < bytes.length) :
    (applySubsts ctx substs bytes).getD k 0 =
      (substs.reverse.find? fun u => decide (u.offset ≤ k ∧ k < u.offset + u.len)).elim (bytes.getD k 0) fun u =>
        (substValue ctx u.source u.len).getD (k - u.offset) 0 := by
  induction substs using List.reverseRecOn with
  | nil => rfl
  | append_singleton substs u ih =>
    have hstep : applySubsts ctx (substs ++ [u]) bytes =
        overwrite (applySubsts ctx substs bytes) u.offset (substValue ctx u.source u.len) := by
      simp [applySubsts]
    rw [hstep, overwrite_getD, substValue_length, applySubsts_length, List.reverse_append, List.reverse_singleton,
      List.singleton_append, List.find?_cons]
    by_cases hu : u.offset ≤ k ∧ k < u.offset + u.len
    · rw [if_pos ⟨hu.1, hu.2, hk⟩, decide_eq_true hu]; rfl
    · rw [if_neg (fun h => hu ⟨h.1, h.2.1⟩), decide_eq_false hu]; exact ih

/-- A span of a byte string, place by place. -/
theorem bytesAt_eq_map_range {bytes : List Byte} {start m : Nat} (h : start + m ≤ bytes.length) :
    bytesAt bytes start m = (List.range m).map fun j => bytes.getD (start + j) 0 := by
  apply List.ext_getElem?
  intro k
  by_cases hk : k < m
  · rw [bytesAt_getElem? bytes start m k hk, getElem?_of_lt (by omega)]
    simp [hk]
  · rw [List.getElem?_eq_none (by simp [bytesAt]; omega), List.getElem?_eq_none (by simp; omega)]

@[simp] theorem applyChecksum_length (n : Nat) (bytes : List Byte) (c : ChecksumSpec) :
    (applyChecksum n bytes c).length = bytes.length := by
  simp [applyChecksum]

/-- A run of checksums goes on with byte strings of one length. -/
theorem foldl_applyChecksum_length (n : Nat) (specs : List ChecksumSpec) (bytes : List Byte) :
    (specs.foldl (applyChecksum n) bytes).length = bytes.length := by
  induction specs generalizing bytes with
  | nil => rfl
  | cons c specs ih => rw [List.foldl_cons, ih, applyChecksum_length]

/-- The frame before it is padded is as long as the template. -/
theorem unpadded_length (ctx : BuildContext) (t : Template) (h : (t.segments.map Segment.len).sum = t.totalLen) :
    (t.checksums.foldl (applyChecksum t.totalLen) (applySubsts ctx t.substs (layChain ctx.pool t.segments))).length =
      t.totalLen := by
  rw [foldl_applyChecksum_length, applySubsts_length, layChain_length, h]

/-! ## One checksum (R37, R38) -/

/-- What a span sums to with its base sum, folded, gives the checksum over it (R37). -/
def checksumOfTotal (total : Nat) (zeroAsOnes : Bool) : Nat :=
  let folded := if total = 0 then 0 else (total - 1) % 65535 + 1
  if 0xFFFF - folded = 0 ∧ zeroAsOnes = true then 0xFFFF else 0xFFFF - folded

theorem checksumOf_eq {span : List Byte} {baseSum : BitVec 16} (zeroAsOnes : Bool)
    (h : sumWords span + baseSum.toNat < 2 ^ 31) :
    checksumOf span baseSum zeroAsOnes = checksumOfTotal (sumWords span + baseSum.toNat) zeroAsOnes := by
  simp only [checksumOf, checksumOfTotal, foldSum_eq _ h]

theorem checksumOfTotal_le (total : Nat) (zeroAsOnes : Bool) : checksumOfTotal total zeroAsOnes ≤ 0xFFFF := by
  unfold checksumOfTotal
  dsimp only
  split_ifs <;> omega

/-- A sum and its checksum together are a multiple of 65,535, and not 0. -/
theorem total_add_checksum (total : Nat) (zeroAsOnes : Bool) :
    ∃ q, total + checksumOfTotal total zeroAsOnes = 65535 * (q + 1) := by
  unfold checksumOfTotal
  by_cases h : total = 0
  · exact ⟨0, by simp [h]⟩
  · have hdiv : total - 1 = 65535 * ((total - 1) / 65535) + (total - 1) % 65535 := (Nat.div_add_mod _ _).symm
    have hmod : (total - 1) % 65535 < 65535 := Nat.mod_lt _ (by omega)
    simp only [if_neg h]
    split_ifs
    · exact ⟨(total - 1) / 65535 + 1, by omega⟩
    · exact ⟨(total - 1) / 65535, by omega⟩

/-- A sum to which its checksum is added folds to all ones (R38). -/
theorem foldSum_add_checksum {total : Nat} (zeroAsOnes : Bool) (h : total + 0xFFFF < 2 ^ 31) :
    foldSum (total + checksumOfTotal total zeroAsOnes) = 0xFFFF := by
  have hle := checksumOfTotal_le total zeroAsOnes
  obtain ⟨q, hq⟩ := total_add_checksum total zeroAsOnes
  rw [foldSum_eq _ (by omega), hq, if_neg (by omega)]
  omega

/-! ### The span around its field -/

/-- The sum of a span cut at an even place. -/
theorem sumWords_append {a : List Byte} (b : List Byte) (h : a.length % 2 = 0) : sumWords (a ++ b) = sumWords a + sumWords b := by
  induction a using sumWords.induct with
  | case1 => simp [sumWords]
  | case2 x => simp at h
  | case3 x y rest ih =>
    simp only [List.cons_append, sumWords]
    rw [ih (by simp only [List.length_cons] at h; omega)]
    omega

/-- A span of `m` bytes within a byte string sums to at most 65,280 for each byte. -/
theorem sumWords_bytesAt_le {bytes : List Byte} {start m : Nat} (h : start + m ≤ bytes.length) :
    sumWords (bytesAt bytes start m) ≤ m * 65280 := by
  rw [bytesAt_eq_map_range h]
  exact sumWords_le m _

/-- A two-byte field written inside a span: what stands before it, the field, what stands behind it. -/
theorem bytesAt_overwrite_field {bytes new : List Byte} {start field e : Nat} (hnew : new.length = 2) (h1 : start ≤ field)
    (h2 : field + 2 ≤ e) (h3 : e ≤ bytes.length) :
    bytesAt (overwrite bytes field new) start (e - start) =
      bytesAt bytes start (field - start) ++ new ++ bytesAt bytes (field + 2) (e - (field + 2)) := by
  have hl : (bytesAt bytes start (field - start)).length = field - start := by simp [bytesAt]; omega
  have hr : (bytesAt bytes (field + 2) (e - (field + 2))).length = e - (field + 2) := by simp [bytesAt]; omega
  have hw : (bytesAt (overwrite bytes field new) start (e - start)).length = e - start := by simp [bytesAt]; omega
  refine bytes_ext (by simp only [List.length_append, hl, hr, hw, hnew]; omega) fun k hk => ?_
  rw [hw] at hk
  have hleft : (bytesAt (overwrite bytes field new) start (e - start)).getD k 0 =
      (overwrite bytes field new).getD (start + k) 0 := by
    rw [bytesAt_eq_map_range (by rw [overwrite_length]; omega), getD_map_range _ _ _ hk]
  rw [hleft, overwrite_getD, hnew]
  by_cases hbefore : start + k < field
  · rw [if_neg (by omega), List.append_assoc, List.getD_append _ _ _ _ (by omega),
      bytesAt_eq_map_range (by omega), getD_map_range _ _ _ (by omega)]
  · by_cases hin : start + k < field + 2
    · rw [if_pos (by omega), List.getD_append _ _ _ _ (by rw [List.length_append]; omega),
        List.getD_append_right _ _ _ _ (by omega), hl]
      congr 1
      omega
    · rw [if_neg (by omega), List.getD_append_right _ _ _ _ (by rw [List.length_append]; omega), List.length_append, hl, hnew,
        bytesAt_eq_map_range (by omega), getD_map_range _ _ _ (by omega)]
      congr 1
      omega

/-- A field written twice is written once. -/
theorem overwrite_overwrite {bytes a b : List Byte} (field : Nat) (h : a.length = b.length) :
    overwrite (overwrite bytes field a) field b = overwrite bytes field b := by
  refine bytes_ext (by simp) fun k hk => ?_
  rw [overwrite_getD, overwrite_getD, overwrite_getD, overwrite_length, h]
  split <;> rfl

/-- A field outside a span leaves the span as it is. -/
theorem bytesAt_overwrite_outside {bytes new : List Byte} {start field e : Nat} (hnew : new.length = 2) (h1 : start ≤ e)
    (h2 : e ≤ bytes.length) (hout : field + 2 ≤ start ∨ e ≤ field) :
    bytesAt (overwrite bytes field new) start (e - start) = bytesAt bytes start (e - start) := by
  rw [bytesAt_eq_map_range (by rw [overwrite_length]; omega), bytesAt_eq_map_range (by omega)]
  refine List.map_congr_left fun j hj => ?_
  have := List.mem_range.1 hj
  rw [overwrite_getD, hnew, if_neg (by omega)]

/-- A number written in a zeroed field at an even place of a span adds to the span's sum. -/
theorem sumWords_overwrite_field {bytes : List Byte} {start field e v : Nat} (hv : v ≤ 0xFFFF) (h1 : start ≤ field)
    (h2 : field + 2 ≤ e) (h3 : e ≤ bytes.length) (heven : (field - start) % 2 = 0) :
    sumWords (bytesAt (overwrite bytes field (beBytes 2 v)) start (e - start)) =
      sumWords (bytesAt (overwrite bytes field [0, 0]) start (e - start)) + v := by
  have hl : (bytesAt bytes start (field - start)).length % 2 = 0 := by
    rw [show (bytesAt bytes start (field - start)).length = field - start by simp [bytesAt]; omega, heven]
  rw [bytesAt_overwrite_field (beBytes_length 2 v) h1 h2 h3, bytesAt_overwrite_field rfl h1 h2 h3, List.append_assoc,
    List.append_assoc, sumWords_append _ hl, sumWords_append _ hl]
  simp [beBytes, sumWords]
  omega

/-! ### The checksum of a spec (R37, R38) -/

section Checksum
variable {n : Nat} {bytes : List Byte} {c : ChecksumSpec}

/-- What a spec's checksum is formed over: the span with its field zeroed, and the base sum (R37). -/
def ChecksumSpec.total (n : Nat) (bytes : List Byte) (c : ChecksumSpec) : Nat :=
  sumWords (bytesAt (overwrite bytes c.fieldOffset [0, 0]) c.spanStart (c.spanEnd.getD n - c.spanStart)) + c.baseSum.toNat

theorem ChecksumSpec.Fits.total_lt (hc : c.Fits n) (hb : bytes.length = n) (hn : n ≤ 1514) :
    c.total n bytes + 0xFFFF < 2 ^ 31 := by
  obtain ⟨h1, h2, h3, -⟩ := hc
  have hsum := sumWords_bytesAt_le (bytes := overwrite bytes c.fieldOffset [0, 0]) (start := c.spanStart)
    (m := c.spanEnd.getD n - c.spanStart) (by rw [overwrite_length]; omega)
  have hbase := c.baseSum.isLt
  unfold ChecksumSpec.total
  omega

/-- A checksum is written over the bytes as they stand (R37). -/
theorem ChecksumSpec.Fits.apply_eq (hc : c.Fits n) (hb : bytes.length = n) (hn : n ≤ 1514) :
    applyChecksum n bytes c =
      overwrite bytes c.fieldOffset (beBytes 2 (checksumOfTotal (c.total n bytes) c.zeroAsOnes)) := by
  have hlt := hc.total_lt hb hn
  unfold ChecksumSpec.total at hlt ⊢
  simp only [applyChecksum]
  rw [checksumOf_eq c.zeroAsOnes (by omega), overwrite_overwrite _ (by simp)]

/-- The span with its checksum in it, and the base sum, fold to all ones (R38). -/
theorem ChecksumSpec.Fits.span_sum (hc : c.Fits n) (hb : bytes.length = n) (hn : n ≤ 1514) :
    foldSum (sumWords (bytesAt (applyChecksum n bytes c) c.spanStart (c.spanEnd.getD n - c.spanStart)) + c.baseSum.toNat) =
      0xFFFF := by
  have hadd := sumWords_overwrite_field (checksumOfTotal_le (c.total n bytes) c.zeroAsOnes) hc.start_le hc.field_le
    (hc.end_le.trans_eq hb.symm) hc.even
  rw [hc.apply_eq hb hn, hadd, Nat.add_right_comm]
  exact foldSum_add_checksum c.zeroAsOnes (hc.total_lt hb hn)

/-- After one or two checksums that do not overlap every span sums to all ones (R32, R38). -/
theorem spans_sum {specs : List ChecksumSpec} (hlen : specs.length ≤ 2) (hfit : ∀ c ∈ specs, c.Fits n)
    (hover : checksumsOverlap n specs = false) (hb : bytes.length = n) (hn : n ≤ 1514) (c : ChecksumSpec) (hc : c ∈ specs) :
    foldSum (sumWords (bytesAt (specs.foldl (applyChecksum n) bytes) c.spanStart (c.spanEnd.getD n - c.spanStart)) +
      c.baseSum.toNat) = 0xFFFF := by
  match specs, hlen with
  | [a], _ =>
    obtain rfl := List.mem_singleton.1 hc
    exact (hfit c hc).span_sum hb hn
  | [a, b], _ =>
    have ha := hfit a (by simp)
    have hbfit := hfit b (by simp)
    have hb1 : (applyChecksum n bytes a).length = n := by rw [applyChecksum_length, hb]
    simp only [List.foldl_cons, List.foldl_nil]
    rcases List.mem_pair.1 hc with rfl | rfl
    · simp only [checksumsOverlap, ChecksumSpec.covers, Bool.or_eq_false_iff, Bool.and_eq_false_iff,
        decide_eq_false_iff_not] at hover
      obtain ⟨h1, h2, h3, -⟩ := ha
      rw [hbfit.apply_eq hb1 hn, bytesAt_overwrite_outside (beBytes_length 2 _) (by omega) (by omega) (by omega)]
      exact (hfit c hc).span_sum hb hn
    · exact hbfit.span_sum hb1 hn

end Checksum

/-- A span within a byte string is the same with bytes behind it. -/
theorem bytesAt_append {a b : List Byte} {start m : Nat} (h : start + m ≤ a.length) :
    bytesAt (a ++ b) start m = bytesAt a start m := by
  rw [bytesAt, List.drop_append_of_le_length (by omega), List.take_append_of_le_length (by simp; omega)]
  rfl

end Sys2Proof.Machine

open Sys2Proof Sys2Proof.Machine

/-- Settles O14: each checksum makes its own span sum to all ones, no later one is written into that span, and the padding lies
behind all spans. -/
theorem everySpanSumsToAllOnes : Obligations.EverySpanSumsToAllOnes := by
  intro t owner rxAllowed ctx hrange hreason c hc
  obtain ⟨-, hchain, hfields, -⟩ := Template.reason_eq_none.1 hreason
  obtain ⟨-, hfit, hover⟩ := Template.fields_fit hfields
  obtain ⟨⟨-, hn⟩, -, -, hspecs, -⟩ := hrange
  have hlen := Template.chain_length hchain
  have hc' := hfit c hc
  have hinside : c.spanStart + (c.spanEnd.getD t.totalLen - c.spanStart) ≤ t.totalLen := by
    have := hc'.start_le
    have := hc'.field_le
    have := hc'.end_le
    omega
  have hb : (applySubsts ctx t.substs (layChain ctx.pool t.segments)).length = t.totalLen := by
    rw [applySubsts_length, layChain_length, hlen]
  rw [buildFrame, padFrame, bytesAt_append (by rw [unpadded_length ctx t hlen]; exact hinside)]
  exact spans_sum hspecs hfit hover hb hn c hc

end

section
/-! SUPPORT. The frame of a build byte by byte, as its rules spell it out, and what a build in a state draws on (R34, R36, R37, R41,
R42). -/

namespace Sys2Proof.Machine

section Checksum
variable {n : Nat} {bytes : List Byte} {c : ChecksumSpec}

/-- What a checksum is formed over, byte by byte: the field's two bytes count as zero (R37). -/
theorem ChecksumSpec.Fits.total_eq (hc : c.Fits n) (hb : bytes.length = n) :
    c.total n bytes = c.baseSum.toNat + ((List.range (c.spanEnd.getD n - c.spanStart)).map fun j =>
      if c.spanStart + j = c.fieldOffset ∨ c.spanStart + j = c.fieldOffset + 1 then 0
      else (bytes.getD (c.spanStart + j) 0).toNat * (if j % 2 = 0 then 256 else 1)).sum := by
  obtain ⟨h1, h2, h3, -⟩ := hc
  rw [ChecksumSpec.total, bytesAt_eq_map_range (by rw [overwrite_length]; omega), sumWords_map_range, Nat.add_comm]
  congr 2
  refine List.map_congr_left fun j hj => ?_
  have := List.mem_range.1 hj
  rw [overwrite_getD]
  by_cases hfield : c.spanStart + j = c.fieldOffset ∨ c.spanStart + j = c.fieldOffset + 1
  · have hzero : ([0, 0] : List Byte).getD (c.spanStart + j - c.fieldOffset) 0 = 0 := by
      rcases hfield with h | h <;> simp [h]
    rw [if_pos hfield, if_pos (by simp only [List.length_cons, List.length_nil]; omega), hzero]
    exact Nat.zero_mul _
  · rw [if_neg hfield, if_neg (by simp only [List.length_cons, List.length_nil]; omega)]

/-- A checksum written byte by byte (R37). -/
theorem ChecksumSpec.Fits.apply_eq_map_range (hc : c.Fits n) (hb : bytes.length = n) (hn : n ≤ 1514) :
    applyChecksum n bytes c = (List.range n).map fun k =>
      if k = c.fieldOffset then BitVec.ofNat 8 (checksumOfTotal (c.total n bytes) c.zeroAsOnes / 256)
      else if k = c.fieldOffset + 1 then BitVec.ofNat 8 (checksumOfTotal (c.total n bytes) c.zeroAsOnes)
      else bytes.getD k 0 := by
  have hin : c.fieldOffset + 2 ≤ n := hc.field_le.trans hc.end_le
  refine bytes_ext (by simp [hb]) fun k hk => ?_
  rw [applyChecksum_length, hb] at hk
  rw [hc.apply_eq hb hn, overwrite_getD, beBytes_length, getD_map_range _ _ _ hk]
  by_cases hfirst : k = c.fieldOffset
  · rw [if_pos (by omega), if_pos hfirst, hfirst]
    simp [beBytes]
  · by_cases hsecond : k = c.fieldOffset + 1
    · rw [if_pos (by omega), if_neg hfirst, if_pos hsecond, hsecond]
      simp [beBytes]
    · rw [if_neg (by omega), if_neg hfirst, if_neg hsecond]

end Checksum

/-- A run of checksums is a run of any function that writes each of them as it is written. -/
theorem foldl_applyChecksum_eq {n : Nat} {f : List Byte → ChecksumSpec → List Byte} {specs : List ChecksumSpec}
    {bytes : List Byte} (hb : bytes.length = n)
    (hf : ∀ c ∈ specs, ∀ bytes : List Byte, bytes.length = n → f bytes c = applyChecksum n bytes c) :
    specs.foldl f bytes = specs.foldl (applyChecksum n) bytes := by
  induction specs generalizing bytes with
  | nil => rfl
  | cons c specs ih =>
    rw [List.foldl_cons, List.foldl_cons, hf c (by simp) bytes hb]
    exact ih (by rw [applyChecksum_length, hb]) fun d hd => hf d (by simp [hd])

/-- A build with no CLAIM_ADDR does not draw on the claim's address (R34). -/
theorem buildFrame_claimAddress {ctx : BuildContext} {t : Template} (address : List Byte)
    (h : ∀ u ∈ t.substs, u.source ≠ .claimAddr) : buildFrame { ctx with claimAddress := address } t = buildFrame ctx t := by
  have hvalue : ∀ u ∈ t.substs, substValue { ctx with claimAddress := address } u.source u.len = substValue ctx u.source u.len := by
    intro u hu
    have hsource := h u hu
    cases hs : u.source with
    | claimAddr => exact absurd hs hsource
    | rx | stationAddr | seqOut | seqOutLess1 | seqIn | capture | counter | time => rfl
  have hsubsts : ∀ bytes, applySubsts { ctx with claimAddress := address } t.substs bytes = applySubsts ctx t.substs bytes :=
    fun bytes => List.foldl_ext _ _ _ fun bs u hu => by rw [hvalue u hu]
  rw [buildFrame, buildFrame, hsubsts]

/-- The address of the claim a link names (R34). -/
theorem State.eq_linkedAddress {s : State} {link : Link} {address : List Byte}
    (h : ∃ i c, link = some i ∧ s.claimAt i = some c ∧ address = c.cfg.address) : address = s.linkedAddress link := by
  obtain ⟨i, c, rfl, hc, rfl⟩ := h
  simp [State.linkedAddress, hc]

end Sys2Proof.Machine

open Sys2Proof Sys2Proof.Machine

/-- Settles O13: the tests that do not fail give the bounds; each stage of the build is then the one the statement spells out, and a
state's build draws on an address only through CLAIM_ADDR. -/
theorem checkedTemplateAlwaysBuilds : Obligations.CheckedTemplateAlwaysBuilds := by
  unfold Obligations.CheckedTemplateAlwaysBuilds
  intro laid substituted checksum summed
  refine ⟨fun t owner rxAllowed hrange hreason => ?_, ?_⟩
  · obtain ⟨hpool, hchain, hfields, -⟩ := Template.reason_eq_none.1 hreason
    obtain ⟨hsubsts, hfit, -⟩ := Template.fields_fit hfields
    obtain ⟨⟨-, hn⟩, -⟩ := hrange
    have hlen := Template.chain_length hchain
    have hlaid : ∀ pool, (layChain pool t.segments).length = t.totalLen := fun pool => (layChain_length pool _).trans hlen
    refine ⟨Template.segments_in_pool hpool, fun pool => ⟨rfl, hlaid pool⟩, hsubsts,
      fun c hc => ⟨(hfit c hc).field_le, (hfit c hc).end_le⟩, fun ctx => ?_⟩
    have hsubstituted : substituted ctx t = applySubsts ctx t.substs (layChain ctx.pool t.segments) := by
      refine bytes_ext (by simp [substituted, hlaid]) fun k hk => ?_
      have hk' : k < t.totalLen := by simpa [substituted] using hk
      rw [applySubsts_getD _ _ _ (by rw [hlaid]; exact hk'), getD_map_range _ _ _ hk']
      cases t.substs.reverse.find? fun u => decide (u.offset ≤ k ∧ k < u.offset + u.len) <;> rfl
    have hsummed : ∀ c ∈ t.checksums, ∀ bytes : List Byte, bytes.length = t.totalLen →
        summed t.totalLen bytes c = applyChecksum t.totalLen bytes c := by
      intro c hc bytes hb
      have hchecksum : checksum t.totalLen bytes c = checksumOfTotal (c.total t.totalLen bytes) c.zeroAsOnes := by
        rw [(hfit c hc).total_eq hb]; rfl
      rw [(hfit c hc).apply_eq_map_range hb hn, ← hchecksum]
    have hframe : (t.checksums.foldl (summed t.totalLen) (substituted ctx t)) =
        t.checksums.foldl (applyChecksum t.totalLen) (applySubsts ctx t.substs (layChain ctx.pool t.segments)) := by
      rw [hsubstituted]
      exact foldl_applyChecksum_eq (by rw [applySubsts_length, hlaid]) hsummed
    have hbuild : buildFrame ctx t =
        t.checksums.foldl (summed t.totalLen) (substituted ctx t) ++ List.replicate (60 - t.totalLen) 0 := by
      rw [hframe, buildFrame, padFrame, unpadded_length ctx t hlen]
    refine ⟨hbuild, ?_, by omega⟩
    rw [hbuild, hframe, List.length_append, unpadded_length ctx t hlen, List.length_replicate]
    omega
  · intro s owner t received address
    dsimp only
    rintro (howner | hsources)
    · have hsupplied : address = s.addressFor owner := by
        cases owner with
        | claim c => exact howner
        | responder r => exact State.eq_linkedAddress howner
        | filter f => exact howner.elim
        | stream x => exact State.eq_linkedAddress howner
        | exchange x => exact State.eq_linkedAddress howner
      rw [State.build, hsupplied]
    · exact (buildFrame_claimAddress address hsources).symm

end

section
/-! SUPPORT. Custody, the transmitter and the held queue: the operations and requests that leave all three as they were, and how a
request reaches its owner (R44, R150, R161, R181). -/

namespace Sys2Proof.Machine

/-! ## What leaves custody, the transmitter and the held queue -/

/-- Custody, the transmitter and the held queue of one state are those of another. -/
@[simp] abbrev SameLending (t s : State) : Prop := t.custody = s.custody ∧ t.tx = s.tx ∧ t.held = s.held

theorem SameLending.trans {s t u : State} (hu : SameLending u t) (ht : SameLending t s) : SameLending u s :=
  ⟨hu.1.trans ht.1, hu.2.1.trans ht.2.1, hu.2.2.trans ht.2.2⟩

theorem sameLending_of_eq {s t : State} (h : t = s) : SameLending t s := by simp [h]

/-- A run over a list leaves the three where each of its steps does. -/
theorem sameLending_foldl {α : Type} {f : State → α → State} (h : ∀ s a, SameLending (f s a) s) (l : List α)
    (s : State) : SameLending (l.foldl f s) s := by
  induction l generalizing s with
  | nil => exact ⟨rfl, rfl, rfl⟩
  | cons a l ih => exact SameLending.trans (ih (f s a)) (h s a)

/-- A command's effect leaves the three whether or not it is taken. -/
theorem sameLending_takeIf {s : State} {b : Bool} {effect : State → State} (h : SameLending (effect s) s) :
    SameLending (s.takeIf b effect) s := by
  unfold State.takeIf
  split
  · exact h
  · exact ⟨rfl, rfl, rfl⟩

section Operations
variable (s : State)

@[simp] theorem State.wake_lending : SameLending s.wake s := by
  unfold State.wake; split <;> simp

@[simp] theorem State.countDemand_lending : SameLending s.countDemand s := by
  unfold State.countDemand; split <;> simp

theorem State.startLineFrame_lending : SameLending s.startLineFrame s := by
  unfold State.startLineFrame; split <;> simp

theorem State.lineFrameArrives_lending (f : Frame) : SameLending (s.lineFrameArrives f) s := by
  unfold State.lineFrameArrives
  split
  · simp
  · simp
  · split <;> simp

@[simp] theorem State.passToStation_lending (f : Frame) : SameLending (s.passToStation f).1 s := by
  unfold State.passToStation
  split
  · simp
  · split <;> simp

@[simp] theorem State.trackInbound_lending (bytes : List Byte) : SameLending (s.trackInbound bytes) s := by
  refine sameLending_foldl (fun s i => ?_) _ _
  unfold State.trackInboundOne
  split
  · simp
  · split <;> simp

@[simp] theorem State.trackOutbound_lending (bytes : List Byte) : SameLending (s.trackOutbound bytes) s := by
  refine sameLending_foldl (fun s i => ?_) _ _
  unfold State.trackOutboundOne
  split
  · simp
  · split <;> simp

theorem State.takeTick_lending : SameLending s.takeTick s := by
  unfold State.takeTick
  dsimp only
  split
  · unfold State.quietTest
    split
    · split <;> simp [State.enterDoze]
    · simp
  · split <;> simp
  · simp

@[simp] theorem State.nextPassing_lending : SameLending s.nextPassing s := by
  unfold State.nextPassing; split <;> simp

@[simp] theorem State.takeStnRdy_lending (high : Bool) : SameLending (s.takeStnRdy high) s := by
  unfold State.takeStnRdy; split <;> simp

@[simp] theorem State.shiftHeldOut_lending (p : Port) : SameLending (s.shiftHeldOut p) s := by
  cases p <;> simp [State.shiftHeldOut]

@[simp] theorem State.receiveMalformed_lending (p : Port) : SameLending (s.receiveMalformed p) s := by
  unfold State.receiveMalformed; split <;> simp [State.noteBusy]

@[simp] theorem State.endLoad_lending (fault answers : Bool) : SameLending (s.endLoad fault answers) s := by
  unfold State.endLoad; dsimp only; split <;> simp

@[simp] theorem State.startLoad_lending (answers : Bool) : SameLending (s.startLoad answers) s := by
  unfold State.startLoad; split <;> simp

/-! ### Completions (R155) -/

@[simp] theorem State.claimProbeSent_lending (i : SlotIx) : SameLending (s.claimProbeSent i) s := by
  unfold State.claimProbeSent
  split
  · simp
  · split
    · dsimp only; split <;> simp
    · simp

@[simp] theorem State.streamProbeSent_lending (i : SlotIx) : SameLending (s.streamProbeSent i) s := by
  unfold State.streamProbeSent
  split
  · simp
  · dsimp only; split <;> simp

@[simp] theorem State.streamReplySent_lending (i : SlotIx) : SameLending (s.streamReplySent i) s := by
  unfold State.streamReplySent; split <;> simp

@[simp] theorem State.requestSent_lending (i : SlotIx) : SameLending (s.requestSent i) s := by
  unfold State.requestSent
  split
  · simp
  · dsimp only; split <;> simp

@[simp] theorem State.responderSent_lending (i : SlotIx) : SameLending (s.responderSent i) s := by
  unfold State.responderSent; split <;> simp

@[simp] theorem State.frameSent_lending (c : Carried) : SameLending (s.frameSent c) s := by
  unfold State.frameSent; split <;> simp

/-! ### The slots' parts of a pass -/

@[simp] theorem State.dropClaimOne_lending (i : SlotIx) : SameLending (s.dropClaimOne i) s := by
  unfold State.dropClaimOne
  split
  · simp
  · split <;> simp

theorem State.reclaimOne_lending (i : SlotIx) : SameLending (s.reclaimOne i) s := by
  unfold State.reclaimOne
  split
  case h_3 => dsimp only; split <;> simp
  all_goals simp

end Operations

/-! ### Requests -/

/-- The requests that may change custody, the transmitter or the held queue. -/
def requestOfCustody : RequestKind → Bool
  | .lend | .reclaim | .recall | .softReset => true
  | .putSlot | .getSlot | .clearSlot | .poolWrite | .poolRead | .setPolicy | .getPolicy | .readStatus | .readChanges
  | .readReport | .takeSample | .releaseSample | .storeRead | .storeErase | .storeProgram => false

section Requests
variable (s : State) (p : Port) (payload : List Byte)

theorem State.servePutSlot_lending : SameLending (s.servePutSlot p payload).1 s := by
  unfold State.servePutSlot
  split
  · simp
  · split
    · simp
    · split
      · simp
      · dsimp only; split <;> simp [State.replaceSlot]

theorem State.serveClearSlot_lending : SameLending (s.serveClearSlot p payload).1 s := by
  unfold State.serveClearSlot
  split
  · simp
  · split
    · simp
    · split <;> simp [State.replaceSlot]

theorem State.storePolicy_lending (item : PolicyItem) (index v : Nat) : SameLending (s.storePolicy item index v) s := by
  unfold State.storePolicy; split <;> simp

theorem State.serveSetPolicy_lending : SameLending (s.serveSetPolicy p payload).1 s := by
  unfold State.serveSetPolicy
  split
  · simp
  · split
    · simp
    · split
      · simp
      · split
        · simp
        · exact s.storePolicy_lending _ _ _

theorem State.serveReadReport_lending : SameLending (s.serveReadReport p payload).1 s := by
  unfold State.serveReadReport
  split
  · simp
  · cases p <;> simp

theorem State.serveReleaseSample_lending : SameLending (s.serveReleaseSample p payload).1 s := by
  unfold State.serveReleaseSample
  split
  · simp
  · split
    · simp
    · split
      · simp
      · split <;> simp

theorem State.servePoolWrite_lending : SameLending (s.servePoolWrite p payload).1 s := by
  unfold State.servePoolWrite
  split
  · simp
  · split
    · simp
    · split
      · simp
      · dsimp only; split <;> simp

theorem State.serveStoreErase_lending : SameLending (s.serveStoreErase p payload).1 s := by
  unfold State.serveStoreErase
  split
  · simp
  · split
    · split
      · simp
      · split
        · simp
        · split <;> simp
    · simp

theorem State.serveStoreProgram_lending : SameLending (s.serveStoreProgram p payload).1 s := by
  unfold State.serveStoreProgram
  split
  · simp
  · split
    · split
      · simp
      · split
        · simp
        · split
          · simp
          · split
            · simp
            · split <;> simp
    · simp

/-- Every request but the four of custody leaves the three. -/
theorem State.serve_lending {kind : RequestKind} (hk : requestOfCustody kind = false) :
    SameLending (s.serve p kind payload).1 s := by
  cases kind
  case putSlot => exact s.servePutSlot_lending p payload
  case getSlot => exact sameLending_of_eq (s.serveGetSlot_fst p payload)
  case clearSlot => exact s.serveClearSlot_lending p payload
  case poolWrite => exact s.servePoolWrite_lending p payload
  case poolRead => exact sameLending_of_eq (s.servePoolRead_fst p payload)
  case setPolicy => exact s.serveSetPolicy_lending p payload
  case getPolicy => exact sameLending_of_eq (s.serveGetPolicy_fst p payload)
  case readStatus => exact sameLending_of_eq (s.serveReadStatus_fst p payload)
  case readChanges => exact sameLending_of_eq (s.serveReadChanges_fst p payload)
  case readReport => exact s.serveReadReport_lending p payload
  case takeSample => exact sameLending_of_eq (s.serveTakeSample_fst p payload)
  case releaseSample => exact s.serveReleaseSample_lending p payload
  case storeRead => exact sameLending_of_eq (s.serveStoreRead_fst p payload)
  case storeErase => exact s.serveStoreErase_lending p payload
  case storeProgram => exact s.serveStoreProgram_lending p payload
  all_goals cases hk

/-- A taken request is refused with the three left, or leaves of them what its owner leaves. -/
theorem State.takeRequest_lending_cases (kind : RequestKind) :
    SameLending (s.takeRequest p kind payload) s ∨
      SameLending (s.takeRequest p kind payload) (s.serve p kind payload).1 := by
  unfold State.takeRequest
  split
  · simp
  · right
    split
    · next h => simp [h]
    · next h => simp [h]

/-- A request that comes in leaves the three, or is taken at once. -/
theorem State.receive_lending_cases (kind : RequestKind) :
    SameLending (s.receive p kind payload) s ∨
      ∃ u : State, SameLending u s ∧ s.receive p kind payload = u.takeRequest p kind payload := by
  unfold State.receive State.takeIf
  split
  · dsimp only
    split
    · left; simp
    · unfold State.receiveFramed
      split
      · left; simp [State.noteBusy]
      · unfold State.takeOrDefer
        split
        · exact .inr ⟨_, by simp, rfl⟩
        · left; simp [State.defer]
  · left; simp

/-- A message leaves the three, or comes in as a request. -/
theorem State.receiveMessage_lending_cases (message : List Byte) :
    SameLending (s.receiveMessage p message) s ∨
      ∃ kind body, frameMessage p message = .request kind body ∧ s.receiveMessage p message = s.receive p kind body := by
  unfold State.receiveMessage
  split
  · exact .inl (sameLending_takeIf (by simp))
  · exact .inl (sameLending_takeIf (by simp))
  · next hm => exact .inr ⟨_, _, hm, rfl⟩

/-- A profile record leaves the three (R189). -/
theorem State.loadRecord_lending (l : ProfileLoad) : SameLending (s.loadRecord l) s := by
  unfold State.loadRecord
  dsimp only
  split
  · simp
  · split
    · simp
    · split
      · simp
      · split
        · simp
        · next u r hrec =>
          have hu : SameLending u s := by
            unfold State.serveRecord at hrec
            split at hrec
            · obtain rfl := congrArg Prod.fst (Option.some.inj hrec); exact s.servePutSlot_lending _ _
            · obtain rfl := congrArg Prod.fst (Option.some.inj hrec); exact s.servePoolWrite_lending _ _
            · obtain rfl := congrArg Prod.fst (Option.some.inj hrec); exact s.serveSetPolicy_lending _ _
            · cases hrec
          split
          · simp
          · refine SameLending.trans ?_ hu
            split <;> simp

end Requests

end Sys2Proof.Machine

end

section
/-! SUPPORT. The moves of the custody unit, one constructor for each rule that writes it, and the custody a command leaves as a run of
them (R44 to R62). -/

namespace Sys2Proof.Machine

/-! ## The moves of the custody unit -/

/-- One write of the custody unit. The last three end a lending or a return, or reset the part: only a request of the host or the
platform and a reset make them, and they are moves only where `returns` holds. -/
inductive CustodyMove (returns : Bool) : CustodyUnit → CustodyUnit → Prop
  /-- A condition rouses (R51, R52). -/
  | rouse {u : CustodyUnit} (h : u.state = .proxy) : CustodyMove returns u { u with state := .roused, wake := true }
  /-- A LEND enters CHECKING (R45). -/
  | lend {u : CustodyUnit} (h : u.state = .home) :
      CustodyMove returns u { u with state := .checking, cursor := some .station }
  /-- The check goes on (R46). -/
  | checkGoesOn {u : CustodyUnit} (h : u.state = .checking) (c : CheckCursor) :
      CustodyMove returns u { u with cursor := some c }
  /-- The check fails or is cancelled (R48, R54). -/
  | checkEnds {u : CustodyUnit} (h : u.state = .checking) :
      CustodyMove returns u { u with state := .home, cursor := none }
  /-- LEND success (R49). -/
  | lendSucceeds {u : CustodyUnit} (h : u.state = .checking) :
      CustodyMove returns u { u with state := .proxy, cursor := none, discard := false }
  /-- QUIESCE ends (R57). -/
  | quiesceEnds {u : CustodyUnit} (h : u.state = .quiesce) : CustodyMove returns u { u with state := .drain }
  /-- DRAIN ends (R58, R59). -/
  | drainEnds {u : CustodyUnit} (h : u.state = .drain) :
      CustodyMove returns u { state := .home, cursor := none, discard := false, wake := false }
  /-- A reclaim (R55). -/
  | reclaim {u : CustodyUnit} (hr : returns = true) (h : u.state.lent = true) :
      CustodyMove returns u { u with state := .quiesce }
  /-- Discard mode (R56). -/
  | discard {u : CustodyUnit} (hr : returns = true) (h : u.state = .quiesce ∨ u.state = .drain) :
      CustodyMove returns u { u with discard := true }
  /-- A reset (R62, R63). -/
  | reset {u : CustodyUnit} (hr : returns = true) :
      CustodyMove returns u { state := .home, cursor := none, discard := false, wake := false }

/-- A run of moves. -/
def CustodyMoves (returns : Bool) : CustodyUnit → CustodyUnit → Prop := Relation.ReflTransGen (CustodyMove returns)

theorem CustodyMoves.refl {b : Bool} (u : CustodyUnit) : CustodyMoves b u u := Relation.ReflTransGen.refl

theorem CustodyMoves.andThen {b : Bool} {u v w : CustodyUnit} (h : CustodyMoves b u v) (m : CustodyMove b v w) :
    CustodyMoves b u w := Relation.ReflTransGen.tail h m

/-- ROUSED is left by a returning move alone (R51). -/
theorem CustodyMoves.eq_of_roused {u v : CustodyUnit} (h : CustodyMoves false u v) (hu : u.state = .roused) : v = u := by
  induction h with
  | refl => rfl
  | tail _ m ih =>
    subst ih
    cases m <;> simp_all

/-- A lending is ended by a returning move alone (R51). -/
theorem CustodyMoves.lent {u v : CustodyUnit} (h : CustodyMoves false u v) (hu : u.state.lent = true) :
    v.state.lent = true := by
  induction h with
  | refl => exact hu
  | tail _ m ih => cases m <;> simp_all [Custody.lent]

/-! ## Engines (R51, R52): a condition they raise may rouse -/

section Engines
variable {b : Bool} {u : CustodyUnit} {s : State}

@[simp] theorem State.rouseFor_moves (h : CustodyMoves b u s.custody) (c : ConditionClass) (i : Option SlotIx) :
    CustodyMoves b u (s.rouseFor c i).custody := by
  unfold State.rouseFor
  split
  · next hp => exact h.andThen (.rouse hp)
  · exact h

@[simp] theorem State.raise_moves (h : CustodyMoves b u s.custody) (c : ConditionClass) (i : Option SlotIx) :
    CustodyMoves b u (s.raise c i).custody := by
  unfold State.raise
  dsimp only
  split <;> split <;> split <;> simp [h]

@[simp] theorem State.offerHeld_moves (h : CustodyMoves b u s.custody) (f : Frame)
    (c : Option (ConditionClass × SlotIx)) : CustodyMoves b u (s.offerHeld f c).custody := by
  unfold State.offerHeld
  dsimp only
  split
  · exact h
  · split <;> simp [h]

@[simp] theorem State.holdFor_moves (h : CustodyMoves b u s.custody) (f : Frame) (c : ConditionClass) (i : SlotIx) :
    CustodyMoves b u (s.holdFor f c i).custody := by
  simp [State.holdFor, h]

/-- A run over a list moves custody where each of its steps does. -/
theorem custodyMoves_foldl {α : Type} {f : State → α → State}
    (hf : ∀ s a, CustodyMoves b u s.custody → CustodyMoves b u (f s a).custody) (l : List α)
    (h : CustodyMoves b u s.custody) : CustodyMoves b u (l.foldl f s).custody := by
  induction l generalizing s with
  | nil => exact h
  | cons a l ih => exact ih (hf s a h)

/-- A command's effect moves custody whether or not it is taken. -/
theorem custodyMoves_takeIf {c : Bool} {effect : State → State} (h : CustodyMoves b u s.custody)
    (he : CustodyMoves b u (effect s).custody) : CustodyMoves b u (s.takeIf c effect).custody := by
  unfold State.takeIf
  split
  · exact he
  · exact h

/-- What comes is taken with custody moved, or waits (R184). -/
theorem custodyMoves_takeOrDefer {w : Waiting} {take : State → State} (h : CustodyMoves b u s.custody)
    (ht : CustodyMoves b u (take s).custody) : CustodyMoves b u (s.takeOrDefer w take).custody := by
  unfold State.takeOrDefer
  split
  · exact ht
  · exact h

/-! ### Claims, streams and exchanges -/

theorem State.endLinkedStream_moves (claim : SlotIx) (s : State) (j : SlotIx) (h : CustodyMoves b u s.custody) :
    CustodyMoves b u (s.endLinkedStream claim j).custody := by
  unfold State.endLinkedStream
  split
  · exact h
  · split <;> simp [h]

@[simp] theorem State.loseClaim_moves (h : CustodyMoves b u s.custody) (i : SlotIx) (old c : Claim) :
    CustodyMoves b u (s.loseClaim i old c).custody :=
  custodyMoves_foldl (State.endLinkedStream_moves i) _ (by simp [h])

theorem State.loseLinkedClaim_moves (x : SlotIx) (s : State) (j : SlotIx) (h : CustodyMoves b u s.custody) :
    CustodyMoves b u (s.loseLinkedClaim x j).custody := by
  unfold State.loseLinkedClaim
  split
  · exact h
  · split <;> simp [h]

theorem State.conflictFor_moves (h : CustodyMoves b u s.custody) (i : SlotIx) (c : Claim) :
    CustodyMoves b u (s.conflictFor i c).custody := by
  unfold State.conflictFor
  cases c.state with
  | held => dsimp only; split <;> simp [h]
  | contested | probing => simp [h]
  | lost => exact h

theorem State.streamFrame_moves (h : CustodyMoves b u s.custody) (i : SlotIx) (t : Stream) (f : Frame) :
    CustodyMoves b u (s.streamFrame i t f).custody := by
  unfold State.streamFrame
  split
  · exact h
  · split
    · simp [h]
    · split
      · simp [h]
      · split
        case h_2 => unfold State.streamAck; dsimp only; split <;> simp [h]
        all_goals simp [State.streamStale, h]

@[simp] theorem State.haltExchange_moves (h : CustodyMoves b u s.custody) (i : SlotIx) (old x : Exchange) (r : HaltReason) :
    CustodyMoves b u (s.haltExchange i old x r).custody :=
  custodyMoves_foldl (State.loseLinkedClaim_moves i) _ (by simp [h])

theorem State.exchangeFrame_moves (h : CustodyMoves b u s.custody) (i : SlotIx) (x : Exchange) (f : Frame)
    (v : ReplyVerdict) : CustodyMoves b u (s.exchangeFrame i x f v).custody := by
  cases v <;> simp [State.exchangeFrame, State.acceptReply, h]

/-! ### Timers -/

theorem State.takeProbeSpacing_custody (s : State) (i : SlotIx) : (s.takeProbeSpacing i).custody = s.custody := by
  unfold State.takeProbeSpacing State.takeIf
  split
  · rfl
  · split
    · split
      · dsimp only; split <;> simp
      · rfl
    · rfl

theorem State.takeDefenceWindow_custody (s : State) (i : SlotIx) : (s.takeDefenceWindow i).custody = s.custody := by
  unfold State.takeDefenceWindow State.takeIf
  split
  · rfl
  · split
    · split <;> simp
    · rfl

theorem State.takePeriod_custody (s : State) (i : SlotIx) : (s.takePeriod i).custody = s.custody := by
  unfold State.takePeriod State.takeIf
  split
  · rfl
  · split <;> simp

theorem State.takeRetry_moves (h : CustodyMoves b u s.custody) (i : SlotIx) :
    CustodyMoves b u (s.takeRetry i).custody := by
  unfold State.takeRetry
  split
  · exact h
  · refine custodyMoves_takeIf h ?_
    dsimp only
    split <;> simp [h]

theorem State.takeNextDue_custody (s : State) (i : SlotIx) : (s.takeNextDue i).custody = s.custody := by
  unfold State.takeNextDue State.takeIf
  split
  · rfl
  · split <;> simp

theorem State.takeReplyWait_moves (h : CustodyMoves b u s.custody) (i : SlotIx) :
    CustodyMoves b u (s.takeReplyWait i).custody := by
  unfold State.takeReplyWait
  split
  · exact h
  · refine custodyMoves_takeIf h ?_
    dsimp only
    split <;> simp [h]

theorem State.judgeWindow_moves (h : CustodyMoves b u s.custody) : CustodyMoves b u s.judgeWindow.custody := by
  unfold State.judgeWindow
  dsimp only
  split
  · split
    · split
      · exact State.raise_moves (by exact h) _ _
      · exact h
    · exact h
  · split <;> exact h

/-! ### Responders and filters -/

@[simp] theorem State.respondWith_custody (s : State) (i : SlotIx) (r : Responder) (f : Frame) :
    (s.respondWith i r f).custody = s.custody := by
  unfold State.respondWith
  dsimp only
  split
  · simp
  · split <;> simp

theorem State.filterFrame_moves (h : CustodyMoves b u s.custody) (i : SlotIx) (t : Filter) (f : Frame) :
    CustodyMoves b u (s.filterFrame i t f).custody := by
  unfold State.filterFrame
  dsimp only
  split <;> simp [h]

end Engines

/-! ## Classification (R67 to R75) -/

section Classification
variable {b : Bool} {u : CustodyUnit} {s t : State} {f : Frame}

theorem State.claimedBy_moves (h : CustodyMoves b u s.custody) (hc : s.claimedBy f = some t) :
    CustodyMoves b u t.custody := by
  unfold State.claimedBy at hc
  simp only [Option.orElse_eq_orElse, Option.orElse_eq_or, Option.or_eq_some_iff] at hc
  rcases hc with hc | ⟨-, hc | ⟨-, hc | ⟨-, hc | ⟨-, hc⟩⟩⟩⟩
  · unfold State.conflictTest at hc
    split at hc
    · obtain ⟨i, -, hi⟩ := List.exists_of_findSome?_eq_some hc
      obtain ⟨c, -, rfl⟩ := Option.map_eq_some_iff.1 hi
      exact State.conflictFor_moves h i c
    · cases hc
  · obtain ⟨i, -, hi⟩ := List.exists_of_findSome?_eq_some hc
    obtain ⟨x, -, rfl⟩ := Option.map_eq_some_iff.1 hi
    exact State.streamFrame_moves h i x f
  · obtain ⟨i, -, hi⟩ := List.exists_of_findSome?_eq_some hc
    split at hi
    · cases hi
    · obtain ⟨v, -, rfl⟩ := Option.map_eq_some_iff.1 hi
      exact State.exchangeFrame_moves h i _ f v
  · obtain ⟨i, -, hi⟩ := List.exists_of_findSome?_eq_some hc
    split at hi
    · cases hi
    · split at hi
      · cases hi; simpa using h
      · cases hi
  · obtain ⟨i, -, hi⟩ := List.exists_of_findSome?_eq_some hc
    split at hi
    · cases hi
    · split at hi
      · cases hi; exact State.filterFrame_moves h i _ f
      · cases hi

theorem State.defaultDisposition_moves (h : CustodyMoves b u s.custody) (f : Frame) :
    CustodyMoves b u (s.defaultDisposition f).custody := by
  unfold State.defaultDisposition
  split
  · exact h
  · simp [h]
  · split
    · exact State.raise_moves (by exact h) _ _
    · exact h

theorem State.classify_moves (h : CustodyMoves b u s.custody) (f : Frame) : CustodyMoves b u (s.classify f).custody := by
  unfold State.classify
  dsimp only
  split
  · exact h
  · split
    · next hc => exact State.claimedBy_moves (s := s.count Counters.seen) h hc
    · exact State.defaultDisposition_moves (s := s.count Counters.seen) h f

theorem State.takeFrame_moves (h : CustodyMoves b u s.custody) (f : Frame) : CustodyMoves b u (s.takeFrame f).custody := by
  unfold State.takeFrame
  split
  case h_1 => dsimp only; split <;> simp [h]
  case h_2 => simp [h]
  case h_3 | h_4 => exact State.classify_moves h f
  case h_5 | h_6 => split <;> simp [h]

end Classification

/-! ## The transmitter, the link and the station path -/

section Transmission
variable {b : Bool} {u : CustodyUnit} {s : State}

@[simp] theorem State.drainOn_moves (h : CustodyMoves b u s.custody) (hs : s.custody.state = .drain) :
    CustodyMoves b u s.drainOn.custody := by
  unfold State.drainOn
  split
  · exact h.andThen (.drainEnds hs)
  · simp [h]

theorem State.endQuiesce_moves (h : CustodyMoves b u s.custody) : CustodyMoves b u s.endQuiesce.custody := by
  unfold State.endQuiesce
  split
  · next hq => exact State.drainOn_moves (h.andThen (.quiesceEnds hq.1)) rfl
  · exact h

@[simp] theorem State.abortCarried_custody (s : State) : s.abortCarried.custody = s.custody := by
  unfold State.abortCarried
  split
  · rfl
  · dsimp only
    split
    · rfl
    · rfl
    · unfold State.requeueOwn
      split
      · rfl
      · dsimp only
        split
        · split
          · split <;> simp
          · rfl
        · split
          · split <;> simp
          · rfl
        · split
          · split <;> simp
          · rfl

theorem State.takeLinkDrop_moves (h : CustodyMoves b u s.custody) : CustodyMoves b u s.takeLinkDrop.custody := by
  unfold State.takeLinkDrop
  split
  · refine State.endQuiesce_moves ?_
    dsimp only
    split <;> split <;> simp [sameLending_foldl State.dropClaimOne_lending, h]
  · exact h

@[simp] theorem State.returnOne_custody (s : State) (i : SlotIx) : (s.returnOne i).custody = s.custody := by
  unfold State.returnOne
  split
  · unfold State.returnClaim
    split
    · split
      · dsimp only; split <;> simp
      · simp
    · simp
  · unfold State.returnStream; split <;> simp
  · unfold State.returnExchange; split <;> simp
  all_goals rfl

/-- A run over a list leaves custody where each of its steps does. -/
theorem custody_foldl {α : Type} {f : State → α → State} (hf : ∀ s a, (f s a).custody = s.custody) (l : List α)
    (s : State) : (l.foldl f s).custody = s.custody := by
  induction l generalizing s with
  | nil => rfl
  | cons a l ih => exact (ih (f s a)).trans (hf s a)

@[simp] theorem State.takeLinkReturn_custody (s : State) : s.takeLinkReturn.custody = s.custody := by
  unfold State.takeLinkReturn
  split
  · rfl
  · dsimp only
    split <;> simp [custody_foldl State.returnOne_custody]

@[simp] theorem State.takeover_custody (s : State) (bytes : List Byte) : (s.takeover bytes).custody = s.custody := by
  refine custody_foldl (fun s i => ?_) _ _
  unfold State.takeoverOne
  split
  · rfl
  · split <;> simp

@[simp] theorem State.takeStationFrame_custody (s : State) (f : Frame) :
    (s.takeStationFrame f).custody = s.custody := by
  have htests : (s.stationTests f).custody = s.custody := by unfold State.stationTests; split <;> simp
  simp [State.takeStationFrame, htests]

@[simp] theorem State.takeUntaken_custody (s : State) : s.takeUntaken.custody = s.custody := by
  unfold State.takeUntaken; split <;> simp

theorem State.stationFrameEnds_custody (s : State) (f : Frame) : (s.stationFrameEnds f).custody = s.custody := by
  unfold State.stationFrameEnds
  split
  · rfl
  · dsimp only
    split
    · split <;> simp [State.deferStationFrame, State.defer]
    · rfl

theorem State.takeDeliveryEnd_moves (h : CustodyMoves b u s.custody) :
    CustodyMoves b u s.takeDeliveryEnd.custody := by
  unfold State.takeDeliveryEnd
  split
  · exact h
  · simp [h]
  · dsimp only
    split
    · next hd => exact State.drainOn_moves (by simpa using h) hd
    · simp [h]

end Transmission

/-! ## The custody unit itself -/

section CustodyUnit
variable {b : Bool} {u : CustodyUnit} {s : State}

/-- A first probe leaves custody (R83). -/
theorem State.firstProbe_custody (s : State) (i : SlotIx) : (s.firstProbe i).custody = s.custody := by
  unfold State.firstProbe
  split
  · split <;> simp
  · rfl

theorem State.lendSuccess_custody (s : State) :
    s.lendSuccess.custody = { s.custody with state := .proxy, cursor := none, discard := false } := by
  simp [State.lendSuccess, State.restartGuard, custody_foldl State.firstProbe_custody, State.startRecords]

theorem State.checkStep_moves (h : CustodyMoves b u s.custody) (hs : s.custody.state = .checking) :
    CustodyMoves b u s.checkStep.custody := by
  have hfailed : ∀ slotByte reason, CustodyMoves b u (s.checkFailed slotByte reason).custody := fun _ _ => by
    rw [State.checkFailed, (State.respond_frame _ _ _).2.2.2.2.2.1]
    exact h.andThen (.checkEnds hs)
  unfold State.checkStep
  split
  · exact h
  · split
    · exact hfailed _ _
    · exact h.andThen (.checkGoesOn hs _)
  · split
    · exact hfailed _ _
    · split
      · exact h.andThen (.checkGoesOn hs _)
      · rw [State.lendSuccess_custody]
        exact h.andThen (.lendSucceeds hs)

@[simp] theorem State.takeReclaim_custody (s : State) :
    s.takeReclaim.custody = { s.custody with state := .quiesce } := by
  simp [State.takeReclaim, sameLending_foldl State.reclaimOne_lending]

theorem State.takeReclaim_moves (h : CustodyMoves true u s.custody) (hl : s.custody.state.lent = true) :
    CustodyMoves true u s.takeReclaim.custody := by
  rw [State.takeReclaim_custody]
  exact h.andThen (.reclaim rfl hl)

@[simp] theorem State.takeDiscard_custody (s : State) : s.takeDiscard.custody = { s.custody with discard := true } := by
  simp [State.takeDiscard]

theorem State.serveLend_moves (h : CustodyMoves b u s.custody) (p : Port) (payload : List Byte) :
    CustodyMoves b u (s.serveLend p payload).1.custody := by
  unfold State.serveLend
  split
  · exact h
  · split
    · exact h
    · next hs =>
      split
      · exact h
      · exact h.andThen (.lend (not_not.1 hs))

theorem State.serveReclaim_moves (h : CustodyMoves true u s.custody) (p : Port) (payload : List Byte) :
    CustodyMoves true u (s.serveReclaim p payload).1.custody := by
  unfold State.serveReclaim
  split
  · exact h
  · split
    case h_5 hs | h_6 hs =>
      split
      · exact h
      · dsimp only
        exact State.endQuiesce_moves (State.takeReclaim_moves h (by rw [hs]; rfl))
    all_goals exact h

theorem State.takeRecall_moves (h : CustodyMoves true u s.custody) (discard : Bool) :
    CustodyMoves true u (s.takeRecall discard).1.custody := by
  unfold State.takeRecall
  split
  case h_1 => exact h
  case h_2 hs => simpa using h.andThen (.checkEnds hs)
  case h_3 hs | h_4 hs =>
    have hreclaimed := State.takeReclaim_moves h (by rw [hs]; rfl)
    refine State.endQuiesce_moves ?_
    cases discard with
    | false => exact hreclaimed
    | true =>
      rw [if_pos rfl, State.takeDiscard_custody]
      exact hreclaimed.andThen (.discard rfl (by simp))
  case h_5 hs =>
    cases discard with
    | false => exact h
    | true =>
      rw [if_pos rfl, State.takeDiscard_custody]
      exact h.andThen (.discard rfl (.inl hs))
  case h_6 hs =>
    cases discard with
    | false => exact h
    | true =>
      refine State.drainOn_moves ?_ (by simp [hs])
      rw [State.takeDiscard_custody]
      exact h.andThen (.discard rfl (.inr hs))

theorem State.serveRecall_moves (h : CustodyMoves true u s.custody) (p : Port) (payload : List Byte) :
    CustodyMoves true u (s.serveRecall p payload).1.custody := by
  unfold State.serveRecall
  split
  · exact h
  · split
    · exact h
    · split
      · split
        · exact State.takeRecall_moves h false
        · split
          · exact State.takeRecall_moves h true
          · exact h
      · exact h

/-- The custody unit after a reset (R44). -/
theorem State.resetBlocks_custody (s : State) (clk : ClockUnit) :
    (s.resetBlocks clk).custody = { state := .home, cursor := none, discard := false, wake := false } := rfl

theorem State.serveSoftReset_moves (h : CustodyMoves true u s.custody) (p : Port) (payload : List Byte) :
    CustodyMoves true u (s.serveSoftReset p payload).1.custody := by
  unfold State.serveSoftReset
  split
  · exact h
  · split
    · exact h
    · split
      · exact h
      · split
        · exact h
        · simpa [State.softReset, State.resetBlocks_custody] using h.andThen (.reset rfl)

end CustodyUnit

/-! ## Requests and commands -/

/-- The requests that may end a lending or a return, or reset the part. -/
def requestReturns : RequestKind → Bool
  | .reclaim | .recall | .softReset => true
  | .putSlot | .getSlot | .clearSlot | .poolWrite | .poolRead | .lend | .setPolicy | .getPolicy | .readStatus | .readChanges
  | .readReport | .takeSample | .releaseSample | .storeRead | .storeErase | .storeProgram => false

section Requests
variable {b : Bool} {u : CustodyUnit} {s : State} (p : Port) (payload : List Byte)

theorem State.serve_moves {kind : RequestKind} (hb : requestReturns kind = true → b = true)
    (h : CustodyMoves b u s.custody) : CustodyMoves b u (s.serve p kind payload).1.custody := by
  cases hk : requestOfCustody kind with
  | false => rw [(s.serve_lending p payload hk).1]; exact h
  | true =>
    cases kind
    case lend => exact State.serveLend_moves h p payload
    case reclaim => obtain rfl := hb rfl; exact State.serveReclaim_moves h p payload
    case softReset => obtain rfl := hb rfl; exact State.serveSoftReset_moves h p payload
    case putSlot | getSlot | clearSlot | poolWrite | poolRead | setPolicy | getPolicy | readStatus | readChanges
        | readReport | takeSample | releaseSample | storeRead | storeErase | storeProgram => cases hk
    -- RECALL is the one left: its constructor's name is a word of Lean's.
    obtain rfl := hb rfl
    exact State.serveRecall_moves h p payload

theorem State.takeRequest_moves {kind : RequestKind} (hb : requestReturns kind = true → b = true)
    (h : CustodyMoves b u s.custody) : CustodyMoves b u (s.takeRequest p kind payload).custody := by
  rcases s.takeRequest_lending_cases p payload kind with ht | ht
  · rw [ht.1]; exact h
  · rw [ht.1]; exact State.serve_moves p payload hb h

theorem State.receive_moves {kind : RequestKind} (hb : requestReturns kind = true → b = true)
    (h : CustodyMoves b u s.custody) : CustodyMoves b u (s.receive p kind payload).custody := by
  rcases s.receive_lending_cases p payload kind with hr | ⟨v, hv, hr⟩
  · rw [hr.1]; exact h
  · rw [hr]
    exact State.takeRequest_moves p payload hb (by rw [hv.1]; exact h)

/-- A message that is no request leaves custody (R180). -/
theorem State.receiveMessage_moves (message : List Byte)
    (hb : ∀ kind body, frameMessage p message = .request kind body → requestReturns kind = true → b = true)
    (h : CustodyMoves b u s.custody) : CustodyMoves b u (s.receiveMessage p message).custody := by
  rcases s.receiveMessage_lending_cases p message with hm | ⟨kind, body, hf, hm⟩
  · rw [hm.1]; exact h
  · rw [hm]; exact State.receive_moves p body (hb kind body hf) h

end Requests

/-- What waited for the end of warm-up moves custody as it would have by itself. -/
theorem State.takeWaiting_moves {u : CustodyUnit} {s : State} (w : Waiting) (h : CustodyMoves true u s.custody) :
    CustodyMoves true u (s.takeWaiting w).custody := by
  cases w with
  | request p kind payload => exact State.takeRequest_moves p payload (fun _ => rfl) h
  | linkDrop => exact State.takeLinkDrop_moves h
  | linkReturn => simpa [State.takeWaiting] using h
  | stationFrame => simpa [State.takeWaiting] using h
  | stnRdy high => simpa [State.takeWaiting] using h
  | deliveryEnd => exact State.takeDeliveryEnd_moves h

/-- The commands that may end a lending or a return, or reset the part. -/
def commandReturns : Instr → Bool
  | .reclaim _ _ | .recall _ _ | .softReset _ _ | .unknownRequest _ _ | .warmUpEnd | .powerOn | .rstN | .resetRelease
  | .powerLoss => true
  | .putSlot _ _ | .getSlot _ _ | .clearSlot _ _ | .poolWrite _ _ | .poolRead _ _ | .lend _ _ | .setPolicy _ _
  | .getPolicy _ _ | .readStatus _ _ | .readChanges _ _ | .readReport _ _ | .takeSample _ _ | .releaseSample _ _
  | .storeRead _ _ | .storeErase _ _ | .storeProgram _ _ | .poll _ | .responseRead _ _ | .lendCheckStep
  | .profileRecord | .storeEraseDone | .storeProgramDone | .lineFrameStart | .lineFrameArrival _ _ | .frameTaking
  | .stationFrameStart | .stationFrameTaking _ _ | .grant | .transmitComplete | .lineLinkDrop | .lineLinkReturn
  | .stnRdyChange _ | .deliveryEnd | .tick | .dueItemPlacement | .probeSpacingExpiry _ | .defenceWindowExpiry _
  | .streamPeriodExpiry _ | .retrySpacingExpiry _ | .exchangeNextDue _ | .replyWaitExpiry _ | .floodWindowEnd
  | .dozeEntry | .warmUpStart _ => false

/-- Every command moves custody, and by a returning move only where it may. -/
theorem exec_moves {b : Bool} {c : Instr} {s t : State} (hb : commandReturns c = true → b = true)
    (h : exec c s = .next t) : CustodyMoves b s.custody t.custody := by
  have hs : CustodyMoves b s.custody s.custody := .refl _
  have hreset : ∀ (v : State) (clk : ClockUnit), b = true → CustodyMoves b s.custody (v.resetBlocks clk).custody :=
    fun _ _ hr => hs.andThen (.reset hr)
  have hsame : ∀ {v : State}, v.custody = s.custody → CustodyMoves b s.custody v.custody := fun hv => hv ▸ hs
  cases c
  case putSlot | getSlot | clearSlot | poolWrite | poolRead | lend | setPolicy | getPolicy | readStatus | readChanges
      | readReport | takeSample | releaseSample | storeRead | storeErase | storeProgram =>
    cases h; exact State.receive_moves _ _ (fun hk => by cases hk) hs
  case reclaim | softReset => cases h; exact State.receive_moves _ _ (fun _ => hb rfl) hs
  case unknownRequest p m => cases h; exact State.receiveMessage_moves p m (fun _ _ _ _ => hb rfl) hs
  case poll | responseRead => cases h; exact custodyMoves_takeIf hs (hsame (by simp))
  case lendCheckStep =>
    cases h
    unfold State.takeIf
    split
    · next hcond => exact State.checkStep_moves hs (by simp_all)
    · exact hs
  case powerOn | powerLoss => cases h; exact hreset _ _ (hb rfl)
  case rstN => cases h; exact custodyMoves_takeIf hs (hreset _ _ (hb rfl))
  case resetRelease =>
    cases h
    refine custodyMoves_takeIf hs ?_
    rw [(State.startLoad_lending _ _).1]
    exact hreset _ _ (hb rfl)
  case profileRecord =>
    cases h
    refine custodyMoves_takeIf hs ?_
    split
    · exact hs
    · exact hsame (s.loadRecord_lending _).1
  case storeEraseDone | storeProgramDone =>
    cases h
    refine custodyMoves_takeIf hs (hsame ?_)
    split <;> simp [State.storeIdle, State.writePage]
  case lineFrameStart =>
    cases h; exact custodyMoves_takeIf hs (hsame (by simp [s.wake.startLineFrame_lending]))
  case lineFrameArrival => cases h; exact custodyMoves_takeIf hs (hsame (s.lineFrameArrives_lending _).1)
  case frameTaking =>
    cases h
    refine custodyMoves_takeIf hs ?_
    split
    · exact hs
    · exact State.takeFrame_moves (by exact hs) _
  case stationFrameStart => cases h; exact custodyMoves_takeIf hs (hsame (by simp))
  case stationFrameTaking => cases h; exact custodyMoves_takeIf hs (hsame (s.stationFrameEnds_custody _))
  case grant => cases h; exact custodyMoves_takeIf hs (hsame (by simp))
  case transmitComplete =>
    cases h
    refine custodyMoves_takeIf hs ?_
    split
    · exact hs
    · exact State.endQuiesce_moves (hsame (by simp))
  case lineLinkDrop =>
    cases h
    refine custodyMoves_takeIf hs (custodyMoves_takeIf hs ?_)
    have hwoken : (s.setPins { s.pins with link := false }).cutArriving.wake.custody = s.custody := by
      simp [State.cutArriving]
    exact custodyMoves_takeOrDefer (hsame hwoken) (State.takeLinkDrop_moves (hsame hwoken))
  case lineLinkReturn =>
    cases h
    refine custodyMoves_takeIf hs (custodyMoves_takeIf hs ?_)
    exact custodyMoves_takeOrDefer (hsame (by simp)) (hsame (by simp))
  case stnRdyChange =>
    cases h
    refine custodyMoves_takeIf hs (custodyMoves_takeIf hs ?_)
    exact custodyMoves_takeOrDefer hs (hsame (by simp))
  case deliveryEnd =>
    cases h; exact custodyMoves_takeIf hs (custodyMoves_takeOrDefer hs (State.takeDeliveryEnd_moves hs))
  case tick => cases h; exact custodyMoves_takeIf hs (hsame s.takeTick_lending.1)
  case dueItemPlacement => cases h; exact custodyMoves_takeIf hs (hsame (custody_foldl (by simp) _ _))
  case probeSpacingExpiry i => cases h; exact hsame (s.takeProbeSpacing_custody i)
  case defenceWindowExpiry i => cases h; exact hsame (s.takeDefenceWindow_custody i)
  case streamPeriodExpiry i => cases h; exact hsame (s.takePeriod_custody i)
  case retrySpacingExpiry i => cases h; exact State.takeRetry_moves hs i
  case exchangeNextDue i => cases h; exact hsame (s.takeNextDue_custody i)
  case replyWaitExpiry i => cases h; exact State.takeReplyWait_moves hs i
  case floodWindowEnd => cases h; exact custodyMoves_takeIf hs (State.judgeWindow_moves hs)
  case dozeEntry => cases h; exact custodyMoves_takeIf hs hs
  case warmUpStart => cases h; exact custodyMoves_takeIf hs (hsame (by simp))
  case warmUpEnd =>
    cases h
    obtain rfl := hb rfl
    refine custodyMoves_takeIf hs ?_
    exact custodyMoves_foldl (fun _ w hw => State.takeWaiting_moves w hw) _ hs
  -- RECALL is the one left: its constructor's name is a word of Lean's.
  cases h
  exact State.receive_moves _ _ (fun _ => hb rfl) hs

/-! ## The sound custody units (R44, R52, R56) -/

/-- What `State.custodySound` says of the custody unit. -/
def CustodyUnit.Sound (u : CustodyUnit) : Prop :=
  (u.state = .roused → u.wake = true) ∧
    (u.wake = true → u.state = .roused ∨ u.state = .quiesce ∨ u.state = .drain) ∧
    (u.cursor.isSome = true ↔ u.state = .checking) ∧
    (u.discard = true → u.state = .quiesce ∨ u.state = .drain)

theorem State.custodySound_iff (s : State) : s.custodySound ↔ s.custody.Sound := Iff.rfl

theorem CustodyMove.sound {b : Bool} {u v : CustodyUnit} (m : CustodyMove b u v) (hu : u.Sound) : v.Sound := by
  obtain ⟨hroused, hwake, hcursor, hdiscard⟩ := hu
  cases m with
  | reclaim hr h =>
    have hc : u.state ≠ .checking := fun hc => by rw [hc] at h; cases h
    simp_all [CustodyUnit.Sound]
  | _ => simp_all [CustodyUnit.Sound]

theorem CustodyMoves.sound {b : Bool} {u v : CustodyUnit} (h : CustodyMoves b u v) (hu : u.Sound) : v.Sound := by
  induction h with
  | refl => exact hu
  | tail _ m ih => exact m.sound ih

end Sys2Proof.Machine

open Sys2Proof Sys2Proof.Machine

/-- Settles O24: every write of the custody unit keeps it sound, and a step makes no other change to it. -/
theorem wakeAgreesWithCustody : Obligations.WakeAgreesWithCustody := by
  intro s t hs h
  unfold step at h
  split at h
  · cases h; exact hs
  · next c rest _ =>
    have hmoves : CustodyMoves true s.custody t.custody := exec_moves (s := { s with pending := rest }) (fun _ => rfl) h
    exact t.custodySound_iff.2 (hmoves.sound (s.custodySound_iff.1 hs))

/-- Settles O26: a command that is no reclaim makes no returning move, and ROUSED is left by no other. A well-formed message is no
request, and the end of warm-up with nothing waiting changes the clock alone. -/
theorem rousedEndsOnlyByReclaim : Obligations.RousedEndsOnlyByReclaim := by
  intro c s t hwf hs hw hr h
  have hkept : CustodyMoves false s.custody t.custody → t.custody = s.custody := fun hm => hm.eq_of_roused hs
  cases hc : commandReturns c with
  | false => exact .inl (hkept (exec_moves (fun hc' => by rw [hc] at hc'; cases hc') h))
  | true =>
    cases c
    case reclaim p b => exact .inr ⟨p, b, .inl rfl⟩
    case softReset | powerOn | rstN | resetRelease | powerLoss => cases hr
    case unknownRequest p m =>
      have hm : frameMessage p m = .malformed := by simpa [Instr.wellFormed] using hwf
      cases h
      refine .inl (hkept (State.receiveMessage_moves p m (fun kind body hf => ?_) (.refl _)))
      rw [hm] at hf; cases hf
    case warmUpEnd =>
      cases h
      left
      unfold State.takeIf
      split
      · simp [State.endWarmUp, hw]
      · rfl
    case putSlot | getSlot | clearSlot | poolWrite | poolRead | lend | setPolicy | getPolicy | readStatus | readChanges
        | readReport | takeSample | releaseSample | storeRead | storeErase | storeProgram | poll | responseRead
        | lendCheckStep | profileRecord | storeEraseDone | storeProgramDone | lineFrameStart | lineFrameArrival
        | frameTaking | stationFrameStart | stationFrameTaking | grant | transmitComplete | lineLinkDrop | lineLinkReturn
        | stnRdyChange | deliveryEnd | tick | dueItemPlacement | probeSpacingExpiry | defenceWindowExpiry
        | streamPeriodExpiry | retrySpacingExpiry | exchangeNextDue | replyWaitExpiry | floodWindowEnd | dozeEntry
        | warmUpStart => cases hc
    -- RECALL is the one left: its constructor's name is a word of Lean's.
    exact .inr ⟨_, _, .inr rfl⟩

end

section
/-! SUPPORT. What each phase of custody has left: the takings that are made outside a lending keep it, and within one any custody that
still is lent has nothing to keep (R55, R57, R58, R151, R161). -/

namespace Sys2Proof.Machine

/-! ## Phases -/

section Phases
variable {s t : State}

/-- PROXY and ROUSED promise nothing. -/
theorem phaseSound_of_lent (h : s.custody.state.lent = true) : s.phaseSound := by
  refine ⟨?_, ?_, ?_⟩
  · rintro (hc | hc) <;> rw [hc] at h <;> cases h
  · intro hc; rw [hc] at h; cases h
  · intro hc; rw [hc] at h; cases h

theorem phaseSound_of_same (ht : SameLending t s) (h : s.phaseSound) : t.phaseSound := by
  obtain ⟨hcustody, htx, hheld⟩ := ht
  unfold State.phaseSound State.nothingOwn at h ⊢
  rw [hcustody, htx, hheld]
  exact h

/-- A command's effect keeps the phases whether or not it is taken. -/
theorem phaseSound_takeIf {b : Bool} {effect : State → State} (h : s.phaseSound) (he : (effect s).phaseSound) :
    (s.takeIf b effect).phaseSound := by
  unfold State.takeIf
  split
  · exact he
  · exact h

/-- What comes is taken with the phases kept, or waits (R184). -/
theorem phaseSound_takeOrDefer {w : Waiting} {take : State → State} (h : s.phaseSound) (ht : (take s).phaseSound) :
    (s.takeOrDefer w take).phaseSound := by
  unfold State.takeOrDefer
  split
  · exact ht
  · exact phaseSound_of_same ⟨rfl, rfl, rfl⟩ h

/-- Outside a lending the own-traffic queue is empty. -/
theorem State.own_nil_of_phaseSound (h : s.phaseSound) (hl : s.custody.state.lent = false) : s.tx.own = [] := by
  obtain ⟨hhome, hquiesce, hdrain⟩ := h
  cases hc : s.custody.state with
  | home => exact (hhome (.inl hc)).1.2.1
  | checking => exact (hhome (.inr hc)).1.2.1
  | quiesce => exact (hquiesce hc).1
  | drain => exact (hdrain hc).1.2.1
  | proxy | roused => rw [hc] at hl; cases hl

/-- What the phases have left, but for QUIESCE, which may be over (R57). -/
def State.phaseOpen (s : State) : Prop :=
  (s.custody.state = .home ∨ s.custody.state = .checking → s.nothingOwn ∧ s.held.entries = []) ∧
    (s.custody.state = .quiesce → s.tx.own = []) ∧
    (s.custody.state = .drain → s.nothingOwn ∧ s.held.entries ≠ [])

/-- Less to send, with custody and the held queue as they were, leaves the phases open. -/
theorem phaseOpen_of_less (h : s.phaseSound) (hcustody : t.custody = s.custody) (hheld : t.held = s.held)
    (hown : t.tx.own = s.tx.own) (hanswers : s.tx.answers = [] → t.tx.answers = [])
    (hcarried : s.tx.carriesOwn = false → t.tx.carriesOwn = false) : t.phaseOpen := by
  obtain ⟨hhome, hquiesce, hdrain⟩ := h
  have hnothing : s.nothingOwn → t.nothingOwn := fun ⟨ha, ho, hc⟩ => ⟨hanswers ha, hown.trans ho, hcarried hc⟩
  unfold State.phaseOpen
  rw [hcustody, hheld, hown]
  exact ⟨fun hc => ⟨hnothing (hhome hc).1, (hhome hc).2⟩, fun hc => (hquiesce hc).1,
    fun hc => ⟨hnothing (hdrain hc).1, (hdrain hc).2⟩⟩

/-- DRAIN with nothing of the part's own left to send goes on while a frame is held (R58). -/
theorem phaseSound_drainOn (hs : s.custody.state = .drain) (hn : s.nothingOwn) : s.drainOn.phaseSound := by
  unfold State.drainOn
  split
  · next hheld => exact ⟨fun _ => ⟨hn, hheld⟩, nofun, nofun⟩
  · next e rest hheld =>
    refine phaseSound_of_same (by simp) ⟨fun hh => ?_, fun hq => ?_, fun _ => ⟨hn, by rw [hheld]; simp⟩⟩
    · rw [hs] at hh; simp at hh
    · rw [hs] at hq; cases hq

/-- The test of QUIESCE's end closes the phases (R57). -/
theorem phaseSound_endQuiesce (h : s.phaseOpen) : s.endQuiesce.phaseSound := by
  obtain ⟨hhome, hquiesce, hdrain⟩ := h
  unfold State.endQuiesce
  split
  · next hend =>
    obtain ⟨hq, hanswers, hcarried⟩ := hend
    exact phaseSound_drainOn rfl ⟨hanswers, hquiesce hq, hcarried⟩
  · next hend =>
    refine ⟨hhome, fun hq => ⟨hquiesce hq, ?_⟩, hdrain⟩
    by_cases hanswers : s.tx.answers = []
    · exact .inr (by simpa [hq, hanswers] using hend)
    · exact .inl hanswers

end Phases

/-! ## The arbiter (R153, R154) -/

/-- Outside a lending a grant serves a station frame, or an answer. -/
theorem State.arbitrate_tx_of_own_nil {s : State} (hown : s.tx.own = []) :
    s.arbitrate.tx.own = [] ∧
      ((s.arbitrate.tx.answers = s.tx.answers ∧ s.arbitrate.tx.carriesOwn = s.tx.carriesOwn) ∨
        (s.tx.answers ≠ [] ∧ s.arbitrate.tx.carriesOwn = true)) := by
  unfold State.arbitrate State.takeIf
  split
  · next hidle =>
    dsimp only
    have hcarried : s.tx.carriesOwn = false := by
      simp only [Bool.and_eq_true, Option.isNone_iff_eq_none] at hidle
      simp [Transmitter.carriesOwn, hidle.2]
    split
    · next c hc =>
      cases c with
      | station =>
        unfold State.grantTo State.grantStation
        dsimp only
        split
        · exact ⟨hown, .inl ⟨rfl, hcarried.symm⟩⟩
        · exact ⟨hown, .inl ⟨rfl, rfl⟩⟩
      | part =>
        unfold State.grantTo State.grantPart State.grantOwn
        dsimp only
        split
        · next a rest ha =>
          refine ⟨hown, .inr ⟨?_, rfl⟩⟩
          have ha' : s.tx.answers = a :: rest := ha
          simp [ha']
        · split
          · exact ⟨hown, .inl ⟨rfl, rfl⟩⟩
          · next item rest hitem =>
            have hitem' : s.tx.own = item :: rest := hitem
            rw [hown] at hitem'; cases hitem'
    · exact ⟨hown, .inl ⟨rfl, rfl⟩⟩
  · exact ⟨hown, .inl ⟨rfl, rfl⟩⟩

theorem phaseSound_arbitrate {s : State} (h : s.phaseSound) : s.arbitrate.phaseSound := by
  have hcustody : s.arbitrate.custody = s.custody := by simp
  have hheld : s.arbitrate.held = s.held := by simp
  cases hl : s.custody.state.lent with
  | true => exact phaseSound_of_lent (by rw [hcustody, hl])
  | false =>
    obtain ⟨hown, htx⟩ := State.arbitrate_tx_of_own_nil (State.own_nil_of_phaseSound h hl)
    obtain ⟨hhome, hquiesce, hdrain⟩ := h
    unfold State.phaseSound State.nothingOwn
    rw [hcustody, hheld, hown]
    rcases htx with ⟨hanswers, hcarried⟩ | ⟨hanswers, hcarried⟩
    · rw [hanswers, hcarried]
      exact ⟨fun hc => ⟨⟨(hhome hc).1.1, rfl, (hhome hc).1.2.2⟩, (hhome hc).2⟩, fun hc => ⟨rfl, (hquiesce hc).2⟩,
        fun hc => ⟨⟨(hdrain hc).1.1, rfl, (hdrain hc).1.2.2⟩, (hdrain hc).2⟩⟩
    · exact ⟨fun hc => absurd (hhome hc).1.1 hanswers, fun _ => ⟨rfl, .inr hcarried⟩,
        fun hc => absurd (hdrain hc).1.1 hanswers⟩

/-! ## The line link (R158 to R160) -/

/-- Outside a lending an aborted frame leaves the transmitter idle and is not queued again (R159). -/
theorem State.abortCarried_of_not_lent {s : State} (hl : s.custody.state.lent = false) :
    s.abortCarried.tx = { s.tx with carried := none } ∧ s.abortCarried.held = s.held := by
  unfold State.abortCarried
  split
  · next hc => exact ⟨by rw [← hc], rfl⟩
  · dsimp only
    split
    · exact ⟨rfl, rfl⟩
    · exact ⟨rfl, rfl⟩
    · simp [State.requeueOwn, hl]

theorem phaseSound_takeLinkDrop {s : State} (h : s.phaseSound) : s.takeLinkDrop.phaseSound := by
  cases hl : s.custody.state.lent with
  | true => exact phaseSound_of_lent ((State.takeLinkDrop_moves (.refl _)).lent hl)
  | false =>
    unfold State.takeLinkDrop
    split
    · have hl1 : (s.setTx { s.tx with linkUp := false }).custody.state.lent = false := hl
      obtain ⟨htx, hheld⟩ := State.abortCarried_of_not_lent hl1
      refine phaseSound_endQuiesce (phaseOpen_of_less h ?_ ?_ ?_ ?_ ?_) <;>
        simp [hl, htx, hheld, Transmitter.carriesOwn]
    · exact h

theorem phaseSound_takeLinkReturn {s : State} (h : s.phaseSound) : s.takeLinkReturn.phaseSound := by
  cases hl : s.custody.state.lent with
  | true => exact phaseSound_of_lent (by rw [State.takeLinkReturn_custody, hl])
  | false =>
    unfold State.takeLinkReturn
    split
    · exact h
    · have hup : (s.setTx { s.tx with linkUp := true }).phaseSound := h
      simpa [hl] using phaseSound_arbitrate hup

/-! ## Frames (R66, R155, R157, R163) -/

/-- Outside PROXY a condition does not rouse (R51). -/
theorem State.raise_custody_of_ne_proxy {s : State} (h : s.custody.state ≠ .proxy) (c : ConditionClass)
    (i : Option SlotIx) : (s.raise c i).custody = s.custody := by
  unfold State.raise
  dsimp only
  split <;> split <;> split <;> simp [State.rouseFor, h]

/-- An offer to the held queue outside PROXY leaves custody, and a frame that was held (R162). -/
theorem State.offerHeld_of_ne_proxy {s : State} (h : s.custody.state ≠ .proxy) (f : Frame)
    (c : Option (ConditionClass × SlotIx)) :
    (s.offerHeld f c).custody = s.custody ∧ (s.held.entries ≠ [] → (s.offerHeld f c).held.entries ≠ []) := by
  unfold State.offerHeld
  dsimp only
  split
  · simp
  · split
    · simp
    · exact ⟨State.raise_custody_of_ne_proxy (by exact h) _ _, fun hheld => by simpa using hheld⟩

theorem phaseSound_takeFrame {s : State} (f : Frame) (h : s.phaseSound) : (s.takeFrame f).phaseSound := by
  cases hl : s.custody.state.lent with
  | true => exact phaseSound_of_lent ((State.takeFrame_moves (.refl _) f).lent hl)
  | false =>
    have hoffered : s.custody.state ≠ .home → s.custody.state ≠ .checking → (s.offerHeld f none).phaseSound := by
      intro hh hk
      have hp : s.custody.state ≠ .proxy := fun hp => by rw [hp] at hl; cases hl
      obtain ⟨hcustody, hheld⟩ := s.offerHeld_of_ne_proxy hp f none
      have htx : (s.offerHeld f none).tx = s.tx := by simp
      obtain ⟨-, hquiesce, hdrain⟩ := h
      unfold State.phaseSound State.nothingOwn
      rw [hcustody, htx]
      exact ⟨fun hc => absurd hc (by simp [hh, hk]), hquiesce, fun hc => ⟨(hdrain hc).1, hheld (hdrain hc).2⟩⟩
    unfold State.takeFrame
    split
    case h_1 => exact phaseSound_of_same (by dsimp only; split <;> simp) h
    case h_2 => exact phaseSound_of_same (by simp) h
    case h_3 hc | h_4 hc => rw [hc] at hl; cases hl
    case h_5 hc | h_6 hc =>
      split
      · exact phaseSound_of_same (by simp) h
      · exact hoffered (by rw [hc]; simp) (by rw [hc]; simp)

theorem phaseSound_takeStationFrame {s : State} (f : Frame) (h : s.phaseSound) : (s.takeStationFrame f).phaseSound := by
  cases hl : s.custody.state.lent with
  | true => exact phaseSound_of_lent (by rw [State.takeStationFrame_custody, hl])
  | false =>
    have htests : (s.stationTests f).phaseSound := by
      unfold State.stationTests
      split
      case h_1 => exact phaseSound_of_same (by simp) h
      case h_5 hc | h_6 hc => rw [hc] at hl; cases hl
      all_goals exact h
    exact phaseSound_of_same (by simp [State.takeStationFrame]) htests

theorem phaseSound_takeUntaken {s : State} (h : s.phaseSound) : s.takeUntaken.phaseSound := by
  unfold State.takeUntaken
  split
  · exact h
  · exact phaseSound_takeStationFrame _ h

theorem phaseSound_takeDeliveryEnd {s : State} (h : s.phaseSound) : s.takeDeliveryEnd.phaseSound := by
  unfold State.takeDeliveryEnd
  split
  · exact h
  · exact phaseSound_of_same (by simp) h
  · dsimp only
    split
    · next hd =>
      have hd' : s.custody.state = .drain := by simpa using hd
      have hn := (h.2.2 hd').1
      exact phaseSound_drainOn hd (by simpa [State.nothingOwn] using hn)
    · exact phaseSound_of_same (by simp) h

/-- A completed frame leaves the transmitter idle, and QUIESCE's end is tested (R57, R155). -/
theorem phaseSound_completion {s : State} (c : Carried) (h : s.phaseSound) :
    ((s.setTx { s.tx with carried := none }).frameSent c).endQuiesce.phaseSound := by
  refine phaseSound_endQuiesce (phaseOpen_of_less h ?_ ?_ ?_ ?_ ?_) <;> simp [Transmitter.carriesOwn]

theorem phaseSound_stationFrameEnds {s : State} (f : Frame) (h : s.phaseSound) : (s.stationFrameEnds f).phaseSound := by
  unfold State.stationFrameEnds
  split
  · exact h
  · dsimp only
    split
    · split
      · exact phaseSound_takeStationFrame f h
      · exact h
    · exact h

/-! ## The custody unit (R45 to R62) -/

/-- HOME is taken up with what CHECKING had left, and CHECKING with what HOME had. -/
theorem phaseSound_of_home_or_checking {s t : State} (h : s.phaseSound)
    (hs : s.custody.state = .home ∨ s.custody.state = .checking)
    (ht : t.custody.state = .home ∨ t.custody.state = .checking) (htx : t.tx = s.tx) (hheld : t.held = s.held) :
    t.phaseSound := by
  have hleft := h.1 hs
  unfold State.nothingOwn at hleft
  rw [← htx, ← hheld] at hleft
  refine ⟨fun _ => hleft, fun hq => ?_, fun hd => ?_⟩
  · rw [hq] at ht; simp at ht
  · rw [hd] at ht; simp at ht

theorem phaseSound_checkStep {s : State} (h : s.phaseSound) (hs : s.custody.state = .checking) : s.checkStep.phaseSound := by
  have hfailed : ∀ slotByte reason, (s.checkFailed slotByte reason).phaseSound := fun _ _ =>
    phaseSound_of_home_or_checking h (.inr hs) (.inl (by simp [State.checkFailed])) (by simp [State.checkFailed])
      (by simp [State.checkFailed])
  have hgoes : ∀ c, (s.setCustody { s.custody with cursor := c }).phaseSound := fun _ =>
    phaseSound_of_home_or_checking h (.inr hs) (.inr hs) rfl rfl
  unfold State.checkStep
  split
  · exact h
  · split
    · exact hfailed _ _
    · exact hgoes _
  · split
    · exact hfailed _ _
    · split
      · exact hgoes _
      · exact phaseSound_of_lent (by rw [State.lendSuccess_custody]; rfl)

/-- What a reclaim leaves before the test of QUIESCE's end (R55). -/
theorem State.takeReclaim_tx (s : State) : s.takeReclaim.tx = { s.tx with own := [] } ∧ s.takeReclaim.held = s.held := by
  simp [State.takeReclaim, sameLending_foldl State.reclaimOne_lending]

/-- QUIESCE with no own-traffic item left is open. -/
theorem phaseOpen_of_quiesce {s : State} (hs : s.custody.state = .quiesce) (hown : s.tx.own = []) : s.phaseOpen := by
  refine ⟨fun hc => ?_, fun _ => hown, fun hc => ?_⟩
  · rw [hs] at hc; simp at hc
  · rw [hs] at hc; cases hc

theorem phaseOpen_takeReclaim (s : State) : s.takeReclaim.phaseOpen :=
  phaseOpen_of_quiesce (by simp) (by simp [s.takeReclaim_tx])

/-- Discard mode leaves the transmitter, and no frame held (R56). -/
theorem State.takeDiscard_tx (s : State) : s.takeDiscard.tx = s.tx ∧ s.takeDiscard.held.entries = [] := by
  constructor
  · simp [State.takeDiscard]
  · unfold State.takeDiscard State.discardHeld
    dsimp only
    split
    · next he => exact he
    · rfl

theorem phaseSound_serveReclaim {s : State} (p : Port) (payload : List Byte) (h : s.phaseSound) :
    (s.serveReclaim p payload).1.phaseSound := by
  unfold State.serveReclaim
  split
  · exact h
  · split
    case h_5 | h_6 =>
      split
      · exact h
      · dsimp only
        exact phaseSound_endQuiesce (phaseOpen_takeReclaim s)
    all_goals exact h

theorem phaseSound_takeRecall {s : State} (discard : Bool) (h : s.phaseSound) : (s.takeRecall discard).1.phaseSound := by
  unfold State.takeRecall
  split
  case h_1 => exact h
  case h_2 hs =>
    exact phaseSound_of_home_or_checking h (.inr hs) (.inl (by simp)) (by simp) (by simp)
  case h_3 | h_4 =>
    refine phaseSound_endQuiesce ?_
    cases discard with
    | false => exact phaseOpen_takeReclaim s
    | true => exact phaseOpen_of_quiesce (by simp) (by simp [State.takeDiscard_tx, State.takeReclaim_tx])
  case h_5 hs =>
    cases discard with
    | false => exact h
    | true =>
      have hleft := h.2.1 hs
      refine ⟨fun hc => ?_, fun _ => ?_, fun hc => ?_⟩
      · simp [hs] at hc
      · simpa [s.takeDiscard_tx] using hleft
      · simp [hs] at hc
  case h_6 hs =>
    cases discard with
    | false => exact h
    | true =>
      have hn := (h.2.2 hs).1
      exact phaseSound_drainOn (by simp [hs]) (by simpa [State.nothingOwn, s.takeDiscard_tx] using hn)

theorem phaseSound_serveRecall {s : State} (p : Port) (payload : List Byte) (h : s.phaseSound) :
    (s.serveRecall p payload).1.phaseSound := by
  unfold State.serveRecall
  split
  · exact h
  · split
    · exact h
    · split
      · split
        · exact phaseSound_takeRecall false h
        · split
          · exact phaseSound_takeRecall true h
          · exact h
      · exact h

theorem phaseSound_serveLend {s : State} (p : Port) (payload : List Byte) (h : s.phaseSound) :
    (s.serveLend p payload).1.phaseSound := by
  unfold State.serveLend
  split
  · exact h
  · split
    · exact h
    · next hs =>
      split
      · exact h
      · exact phaseSound_of_home_or_checking h (.inl (not_not.1 hs)) (.inr rfl) rfl rfl

/-- A reset leaves nothing (R62, R63). -/
theorem phaseSound_resetBlocks (s : State) (clk : ClockUnit) : (s.resetBlocks clk).phaseSound :=
  ⟨fun _ => ⟨⟨rfl, rfl, rfl⟩, rfl⟩, nofun, nofun⟩

theorem phaseSound_serveSoftReset {s : State} (p : Port) (payload : List Byte) (h : s.phaseSound) :
    (s.serveSoftReset p payload).1.phaseSound := by
  unfold State.serveSoftReset
  split
  · exact h
  · split
    · exact h
    · split
      · exact h
      · split
        · exact h
        · exact phaseSound_of_same (by simp [State.softReset]) 
            (phaseSound_resetBlocks s (ClockUnit.at s.clk.power s.clk.partTime))

/-! ## Requests and commands -/

section Requests
variable {s : State} (p : Port) (payload : List Byte)

theorem phaseSound_serve (kind : RequestKind) (h : s.phaseSound) : (s.serve p kind payload).1.phaseSound := by
  cases hk : requestOfCustody kind with
  | false => exact phaseSound_of_same (s.serve_lending p payload hk) h
  | true =>
    cases kind
    case lend => exact phaseSound_serveLend p payload h
    case reclaim => exact phaseSound_serveReclaim p payload h
    case softReset => exact phaseSound_serveSoftReset p payload h
    case putSlot | getSlot | clearSlot | poolWrite | poolRead | setPolicy | getPolicy | readStatus | readChanges
        | readReport | takeSample | releaseSample | storeRead | storeErase | storeProgram => cases hk
    -- RECALL is the one left: its constructor's name is a word of Lean's.
    exact phaseSound_serveRecall p payload h

theorem phaseSound_takeRequest (kind : RequestKind) (h : s.phaseSound) : (s.takeRequest p kind payload).phaseSound := by
  rcases s.takeRequest_lending_cases p payload kind with ht | ht
  · exact phaseSound_of_same ht h
  · exact phaseSound_of_same ht (phaseSound_serve p payload kind h)

theorem phaseSound_receive (kind : RequestKind) (h : s.phaseSound) : (s.receive p kind payload).phaseSound := by
  rcases s.receive_lending_cases p payload kind with hr | ⟨v, hv, hr⟩
  · exact phaseSound_of_same hr h
  · rw [hr]
    exact phaseSound_takeRequest p payload kind (phaseSound_of_same hv h)

theorem phaseSound_receiveMessage (message : List Byte) (h : s.phaseSound) : (s.receiveMessage p message).phaseSound := by
  rcases s.receiveMessage_lending_cases p message with hm | ⟨kind, body, -, hm⟩
  · exact phaseSound_of_same hm h
  · rw [hm]; exact phaseSound_receive p body kind h

end Requests

theorem phaseSound_takeWaiting {s : State} (w : Waiting) (h : s.phaseSound) : (s.takeWaiting w).phaseSound := by
  cases w with
  | request p kind payload => exact phaseSound_takeRequest p payload kind h
  | linkDrop => exact phaseSound_takeLinkDrop h
  | linkReturn => exact phaseSound_takeLinkReturn h
  | stationFrame => exact phaseSound_takeUntaken h
  | stnRdy high => exact phaseSound_of_same (s.takeStnRdy_lending high) h
  | deliveryEnd => exact phaseSound_takeDeliveryEnd h

/-- What waited for the end of warm-up keeps the phases. -/
theorem phaseSound_foldl_takeWaiting (l : List Waiting) {s : State} (h : s.phaseSound) :
    (l.foldl State.takeWaiting s).phaseSound := by
  induction l generalizing s with
  | nil => exact h
  | cons w l ih => exact ih (phaseSound_takeWaiting w h)

/-- The commands of the engines' own timers and queues (R51). -/
def commandOfEngines : Instr → Bool
  | .dueItemPlacement | .probeSpacingExpiry _ | .defenceWindowExpiry _ | .streamPeriodExpiry _ | .retrySpacingExpiry _
  | .exchangeNextDue _ | .replyWaitExpiry _ | .floodWindowEnd => true
  | _ => false

/-- Outside a lending no command of the engines has an effect (R51). -/
theorem exec_of_commandOfEngines {c : Instr} {s t : State} (hc : commandOfEngines c = true)
    (hl : s.custody.state.lent = false) (h : exec c s = .next t) : t = s := by
  have hstopped : s.enginesRun = false := by simp [State.enginesRun, hl]
  cases c
  case dueItemPlacement | floodWindowEnd => cases h; simp [State.takeIf, hstopped]
  case probeSpacingExpiry i =>
    cases h
    unfold State.takeProbeSpacing
    split
    · rfl
    · split <;> simp [State.takeIf, hstopped]
  case defenceWindowExpiry i =>
    cases h
    unfold State.takeDefenceWindow
    split
    · rfl
    · split <;> simp [State.takeIf, hstopped]
  case streamPeriodExpiry i => cases h; unfold State.takePeriod; split <;> simp [State.takeIf, hstopped]
  case retrySpacingExpiry i => cases h; unfold State.takeRetry; split <;> simp [State.takeIf, hstopped]
  case exchangeNextDue i => cases h; unfold State.takeNextDue; split <;> simp [State.takeIf, hstopped]
  case replyWaitExpiry i => cases h; unfold State.takeReplyWait; split <;> simp [State.takeIf, hstopped]
  all_goals cases hc

/-- Every command keeps what each phase has left: an engine's command needs a lending, where nothing is promised, and stays in
it. -/
theorem exec_phaseSound {c : Instr} {s t : State} (hs : s.phaseSound) (h : exec c s = .next t) : t.phaseSound := by
  cases hc : commandOfEngines c with
  | true =>
    cases hl : s.custody.state.lent with
    | true =>
      have hb : commandReturns c = false := by cases c <;> simp_all [commandOfEngines, commandReturns]
      exact phaseSound_of_lent ((exec_moves (b := false) (fun hb' => by rw [hb] at hb'; cases hb') h).lent hl)
    | false => rw [exec_of_commandOfEngines hc hl h]; exact hs
  | false =>
    cases c
    case putSlot | getSlot | clearSlot | poolWrite | poolRead | lend | reclaim | setPolicy | getPolicy | readStatus
        | readChanges | readReport | takeSample | releaseSample | storeRead | storeErase | storeProgram | softReset =>
      cases h; exact phaseSound_receive _ _ _ hs
    case unknownRequest p m => cases h; exact phaseSound_receiveMessage p m hs
    case poll | responseRead => cases h; exact phaseSound_takeIf hs (phaseSound_of_same (by simp) hs)
    case lendCheckStep =>
      cases h
      unfold State.takeIf
      split
      · next hcond => exact phaseSound_checkStep hs (by simp_all)
      · exact hs
    case powerOn | powerLoss => cases h; exact phaseSound_resetBlocks _ _
    case rstN => cases h; exact phaseSound_takeIf hs (phaseSound_resetBlocks _ _)
    case resetRelease =>
      cases h
      exact phaseSound_takeIf hs (phaseSound_of_same (State.startLoad_lending _ _) (phaseSound_resetBlocks _ _))
    case profileRecord =>
      cases h
      refine phaseSound_takeIf hs ?_
      split
      · exact hs
      · exact phaseSound_of_same (s.loadRecord_lending _) hs
    case storeEraseDone | storeProgramDone =>
      cases h
      refine phaseSound_takeIf hs (phaseSound_of_same ?_ hs)
      split <;> simp [State.storeIdle, State.writePage]
    case lineFrameStart =>
      cases h; exact phaseSound_takeIf hs (phaseSound_of_same (s.wake.startLineFrame_lending.trans s.wake_lending) hs)
    case lineFrameArrival => cases h; exact phaseSound_takeIf hs (phaseSound_of_same (s.lineFrameArrives_lending _) hs)
    case frameTaking =>
      cases h
      refine phaseSound_takeIf hs ?_
      split
      · exact hs
      · exact phaseSound_takeFrame _ hs
    case stationFrameStart => cases h; exact phaseSound_takeIf hs (phaseSound_of_same (by simp) hs)
    case stationFrameTaking => cases h; exact phaseSound_takeIf hs (phaseSound_stationFrameEnds _ hs)
    case grant => cases h; exact phaseSound_takeIf hs (phaseSound_arbitrate hs)
    case transmitComplete =>
      cases h
      refine phaseSound_takeIf hs ?_
      split
      · exact hs
      · exact phaseSound_completion _ hs
    case lineLinkDrop =>
      cases h
      refine phaseSound_takeIf hs (phaseSound_takeIf hs ?_)
      have hwoken : (s.setPins { s.pins with link := false }).cutArriving.wake.phaseSound :=
        phaseSound_of_same (by simp [State.cutArriving]) hs
      exact phaseSound_takeOrDefer hwoken (phaseSound_takeLinkDrop hwoken)
    case lineLinkReturn =>
      cases h
      refine phaseSound_takeIf hs (phaseSound_takeIf hs ?_)
      have hwoken : (s.setPins { s.pins with link := true }).wake.phaseSound := phaseSound_of_same (by simp) hs
      exact phaseSound_takeOrDefer hwoken (phaseSound_takeLinkReturn hwoken)
    case stnRdyChange =>
      cases h
      refine phaseSound_takeIf hs (phaseSound_takeIf hs (phaseSound_takeOrDefer hs ?_))
      exact phaseSound_of_same (State.takeStnRdy_lending _ _) hs
    case deliveryEnd => cases h; exact phaseSound_takeIf hs (phaseSound_takeOrDefer hs (phaseSound_takeDeliveryEnd hs))
    case tick => cases h; exact phaseSound_takeIf hs (phaseSound_of_same s.takeTick_lending hs)
    case dozeEntry => cases h; exact phaseSound_takeIf hs hs
    case warmUpStart => cases h; exact phaseSound_takeIf hs (phaseSound_of_same s.wake_lending hs)
    case warmUpEnd => cases h; exact phaseSound_takeIf hs (phaseSound_foldl_takeWaiting _ hs)
    case dueItemPlacement | probeSpacingExpiry | defenceWindowExpiry | streamPeriodExpiry | retrySpacingExpiry
        | exchangeNextDue | replyWaitExpiry | floodWindowEnd => cases hc
    -- RECALL is the one left: its constructor's name is a word of Lean's.
    cases h
    exact phaseSound_receive _ _ _ hs

end Sys2Proof.Machine

open Sys2Proof Sys2Proof.Machine

/-- Settles O25: each taking leaves what the phase it ends in promises; QUIESCE and DRAIN are tested where they may be over. -/
theorem phasesOfTheReturn : Obligations.PhasesOfTheReturn := by
  intro s t hs h
  unfold step at h
  split at h
  · cases h; exact hs
  · next c rest _ => exact exec_phaseSound (s := { s with pending := rest }) hs h

end

section
/-! SUPPORT. The requests of custody check by check, and what a SOFT_RESET leaves (R45, R53, R54, R62, R189). -/

namespace Sys2Proof.Machine

section Refusals
variable {s : State} {payload : List Byte}

/-! ## LEND (R45) -/

theorem State.serveLend_platform : s.serveLend .platform payload = (s, some (.bare .notPermitted)) := by
  simp [State.serveLend]

theorem State.serveLend_wrongState (h : s.custody.state ≠ .home) :
    s.serveLend .system payload = (s, some (.bare .wrongState)) := by
  simp [State.serveLend, h]

theorem State.serveLend_malformed (h : s.custody.state = .home) (hp : payload ≠ []) :
    s.serveLend .system payload = (s, some (.bare .malformed)) := by
  simp [State.serveLend, h, hp]

theorem State.serveLend_checking (h : s.custody.state = .home) :
    s.serveLend .system [] = (s.setCustody { s.custody with state := .checking, cursor := some .station }, none) := by
  simp [State.serveLend, h]

/-! ## RECLAIM (R53) -/

theorem State.serveReclaim_platform : s.serveReclaim .platform payload = (s, .bare .notPermitted) := by
  simp [State.serveReclaim]

theorem State.serveReclaim_home (h : s.custody.state = .home) :
    s.serveReclaim .system payload = (s, .bare .wrongState) := by
  simp [State.serveReclaim, h]

theorem State.serveReclaim_returning (h : s.custody.state = .quiesce ∨ s.custody.state = .drain) :
    s.serveReclaim .system payload = (s, .bare .busy) := by
  rcases h with h | h <;> simp [State.serveReclaim, h]

theorem Custody.lent_iff (c : Custody) : c.lent = true ↔ c = .proxy ∨ c = .roused := by cases c <;> simp [Custody.lent]

theorem State.serveReclaim_malformed (h : s.custody.state.lent = true) (hp : payload ≠ []) :
    s.serveReclaim .system payload = (s, .bare .malformed) := by
  rcases (Custody.lent_iff _).1 h with h | h <;> simp [State.serveReclaim, h, hp]

theorem State.serveReclaim_accepted (h : s.custody.state.lent = true) :
    s.serveReclaim .system [] = (s.takeReclaim.endQuiesce, .bare .accepted) := by
  rcases (Custody.lent_iff _).1 h with h | h <;> simp [State.serveReclaim, h]

/-! ## RECALL (R54) -/

theorem State.serveRecall_system : s.serveRecall .system payload = (s, .bare .notPermitted) := by
  simp [State.serveRecall]

theorem State.serveRecall_home (h : s.custody.state = .home) :
    s.serveRecall .platform payload = (s, .bare .wrongState) := by
  simp [State.serveRecall, h]

theorem State.serveRecall_malformed (h : s.custody.state ≠ .home) (h0 : payload ≠ [0]) (h1 : payload ≠ [1]) :
    s.serveRecall .platform payload = (s, .bare .malformed) := by
  unfold State.serveRecall
  rw [if_neg (by decide), if_neg h]
  split
  · next option =>
    have hoption : option ≠ 0 ∧ option ≠ 1 := ⟨fun e => h0 (by rw [e]), fun e => h1 (by rw [e])⟩
    rw [if_neg hoption.1, if_neg hoption.2]
  · rfl

theorem State.serveRecall_keep (h : s.custody.state ≠ .home) : s.serveRecall .platform [0] = s.takeRecall false := by
  simp [State.serveRecall, h]

theorem State.serveRecall_discard (h : s.custody.state ≠ .home) : s.serveRecall .platform [1] = s.takeRecall true := by
  simp [State.serveRecall, h]

/-! ## SOFT_RESET (R62) -/

theorem State.serveSoftReset_platform : s.serveSoftReset .platform payload = (s, some (.bare .notPermitted)) := by
  simp [State.serveSoftReset]

theorem State.serveSoftReset_wrongState (h : s.custody.state ≠ .home) :
    s.serveSoftReset .system payload = (s, some (.bare .wrongState)) := by
  simp [State.serveSoftReset, h]

theorem State.serveSoftReset_busy (h : s.custody.state = .home) (ho : s.store.op ≠ none) :
    s.serveSoftReset .system payload = (s, some (.bare .busy)) := by
  simp [State.serveSoftReset, h, Option.isSome_iff_ne_none.2 ho]

theorem State.serveSoftReset_malformed (h : s.custody.state = .home) (ho : s.store.op = none) (hp : payload ≠ []) :
    s.serveSoftReset .system payload = (s, some (.bare .malformed)) := by
  simp [State.serveSoftReset, h, ho, hp]

theorem State.serveSoftReset_taken (h : s.custody.state = .home) (ho : s.store.op = none) :
    s.serveSoftReset .system [] = (s.softReset, none) := by
  simp [State.serveSoftReset, h, ho]

end Refusals

/-- A request its owner answers later. -/
theorem State.takeRequest_unanswered {s s1 : State} {p : Port} {kind : RequestKind} {payload : List Byte}
    (hload : s.store.load = none ∨ handledDuringLoad kind = true) (hs : s.serve p kind payload = (s1, none)) :
    s.takeRequest p kind payload = s1 := by
  have hload' : ¬ (s.store.load.isSome ∧ handledDuringLoad kind = false) := by
    rcases hload with hload | hload <;> simp [hload]
  unfold State.takeRequest
  rw [if_neg hload', hs]

/-- A ready request that its owner answers later leaves what its owner leaves. -/
theorem State.receive_unanswered {s s1 : State} {p : Port} {kind : RequestKind} {payload : List Byte}
    (h : s.readyFor p kind) (hl : payload.length ≤ 1024) (hs : (s.working p).serve p kind payload = (s1, none)) :
    s.receive p kind payload = s1 := by
  have hload : (s.working p).store.load = none ∨ handledDuringLoad kind = true := by
    rw [(State.working_frame s p).1]; exact h.2.2.2
  rw [State.receive_of_readyFor h hl, State.takeRequest_unanswered hload hs]

/-- The validity word stands in the store's cells (R188). -/
theorem State.profileValid_congr {s t : State} (h : t.store.cells = s.store.cells) : t.profileValid = s.profileValid := by
  unfold State.profileValid State.storeByte; rw [h]

/-- What a SOFT_RESET taken in ACTIVE leaves: the reset values, and the load begun or at its end (R62, R189). -/
theorem State.working_softReset {s : State} (hrun : s.clk.power = .running) :
    (s.working .system).softReset = { State.reset with
      clk := { State.reset.clk with partTime := s.clk.partTime }
      pins := s.pins
      tx := { State.reset.tx with linkUp := s.pins.link }
      store := { cells := s.store.cells, op := none, fault := false
                 load := if s.profileValid then some { position := 0, answers := true } else none }
      ports := { sys := { slot := if s.profileValid then .working else .ready { result := .done, payload := [] }
                          note := false, out := s.ports.sys.view }
                 plat := State.reset.ports.plat }
      draws := s.draws
      pending := s.pending } := by
  have hclk : ClockUnit.at (s.working .system).clk.power (s.working .system).clk.partTime =
      { State.reset.clk with partTime := s.clk.partTime } := by
    simp only [ClockUnit.at, State.working, State.setPort_frame, hrun]; rfl
  unfold State.softReset
  dsimp only
  rw [hclk]
  have hload : ∀ u : State, u.store.cells = s.store.cells → u.startLoad true =
      if s.profileValid then u.setStore { u.store with fault := false, load := some { position := 0, answers := true } }
      else u.endLoad false true := fun u hu => by rw [State.startLoad, State.profileValid_congr hu]
  refine (hload _ (by rfl)).trans ?_
  cases s.profileValid <;> rfl

end Sys2Proof.Machine

open Sys2Proof Sys2Proof.Machine

/-- Settles O17: each check of the four requests is one answer of its owner, and a ready request is answered with it. -/
theorem custodyRequestsAreChecked : Obligations.CustodyRequestsAreChecked := by
  intro p payload s hl
  have hcus : (s.working p).custody.state = s.custody.state := by simp
  have hop : (s.working p).store.op = s.store.op := by simp
  refine ⟨fun hr => ?_, fun hr => ?_, fun hr => ?_, fun hr => ?_⟩
  · have refused : ∀ x, (s.working p).serveLend p payload = (s.working p, some x) →
        exec (.lend p payload) s = .next (s.answered p x) := fun x hx =>
      congrArg Host.Outcome.next (State.receive_refused hr hl hx)
    refine ⟨?_, ?_, ?_, ?_⟩
    · rintro rfl; exact refused _ State.serveLend_platform
    · rintro rfl hc; exact refused _ (State.serveLend_wrongState (hcus.trans_ne hc))
    · rintro rfl hc hp; exact refused _ (State.serveLend_malformed (hcus.trans hc) hp)
    · rintro rfl hc rfl
      exact congrArg Host.Outcome.next (State.receive_unanswered hr hl (State.serveLend_checking (hcus.trans hc)))
  · have refused : ∀ x, (s.working p).serveReclaim p payload = (s.working p, x) →
        exec (.reclaim p payload) s = .next (s.answered p x) := fun x hx =>
      congrArg Host.Outcome.next (State.receive_refused hr hl (congrArg answered hx))
    refine ⟨?_, ?_, ?_, ?_⟩
    · rintro rfl; exact refused _ State.serveReclaim_platform
    · rintro rfl hc; exact refused _ (State.serveReclaim_home (hcus.trans hc))
    · rintro rfl hc; exact refused _ (State.serveReclaim_returning (by rw [hcus]; exact hc))
    · rintro rfl hc hp; exact refused _ (State.serveReclaim_malformed (by rw [hcus]; exact hc) hp)
  · have refused : ∀ x, (s.working p).serveRecall p payload = (s.working p, x) →
        exec (.recall p payload) s = .next (s.answered p x) := fun x hx =>
      congrArg Host.Outcome.next (State.receive_refused hr hl (congrArg answered hx))
    refine ⟨?_, ?_, ?_⟩
    · rintro rfl; exact refused _ State.serveRecall_system
    · rintro rfl hc; exact refused _ (State.serveRecall_home (hcus.trans hc))
    · rintro rfl hc h0 h1; exact refused _ (State.serveRecall_malformed (hcus.trans_ne hc) h0 h1)
  · have refused : ∀ x, (s.working p).serveSoftReset p payload = (s.working p, some x) →
        exec (.softReset p payload) s = .next (s.answered p x) := fun x hx =>
      congrArg Host.Outcome.next (State.receive_refused hr hl hx)
    refine ⟨?_, ?_, ?_, ?_⟩
    · rintro rfl; exact refused _ State.serveSoftReset_platform
    · rintro rfl hc; exact refused _ (State.serveSoftReset_wrongState (hcus.trans_ne hc))
    · rintro rfl hc ho; exact refused _ (State.serveSoftReset_busy (hcus.trans hc) (hop.trans_ne ho))
    · rintro rfl hc ho hp; exact refused _ (State.serveSoftReset_malformed (hcus.trans hc) (hop.trans ho) hp)

/-- Settles O29: the request passes its checks and its owner leaves the reset state with the load begun or at its end. -/
theorem softResetKeepsPartTime : Obligations.SoftResetKeepsPartTime := by
  intro s hr hc ho
  have htaken : (s.working .system).serveSoftReset .system [] = ((s.working .system).softReset, none) :=
    State.serveSoftReset_taken (by simpa using hc) (by simpa using ho)
  refine congrArg Host.Outcome.next ((State.receive_unanswered hr (by simp) htaken).trans ?_)
  exact State.working_softReset hr.1

end

section
/-! SUPPORT. The LEND check: its tests one by one, a slot's step, one step of the cursor and a whole check (R31 to R33, R46 to R48). -/

namespace Sys2Proof.Machine

/-! ## The four tests of a template (R31 to R33) -/

theorem Template.failsPoolRange_iff (t : Template) :
    t.failsPoolRange = true ↔ ∃ g ∈ t.segments, 16383 < 64 * g.startBlock + g.len - 1 := by
  have hsegment : ∀ g : Segment, g.leavesPool = true ↔ 16383 < 64 * g.startBlock + g.len - 1 := fun g => by
    simp only [Segment.leavesPool, Config.poolBytes, Config.blockBytes, decide_eq_true_eq]; omega
  simp [Template.failsPoolRange, hsegment]

/-- The end flags are sound exactly where they are clear but for the last, which is set (R31). -/
theorem endFlagsSound_iff (l : List Segment) :
    endFlagsSound l = true ↔ l.map Segment.endFlag = List.replicate (l.length - 1) false ++ [true] := by
  induction l with
  | nil => simp [endFlagsSound]
  | cons g rest ih =>
    cases rest with
    | nil => simp [endFlagsSound]
    | cons g' rest =>
      simp only [endFlagsSound, Bool.and_eq_true, Bool.not_eq_true', ih]
      simp [List.replicate_succ]

theorem Template.failsChainLength_iff (t : Template) :
    t.failsChainLength = true ↔
      t.segments.map Segment.endFlag ≠ List.replicate (t.segments.length - 1) false ++ [true] ∨
        (t.segments.map Segment.len).sum ≠ t.totalLen := by
  rw [ne_eq, ← endFlagsSound_iff]
  simp [Template.failsChainLength]

theorem ChecksumSpec.fails_iff (n : Nat) (c : ChecksumSpec) :
    c.fails n = true ↔ n ≤ c.spanStart ∨ (∃ e, c.spanEnd = some e ∧ (n < e ∨ e ≤ c.spanStart)) ∨
      c.fieldOffset < c.spanStart ∨ c.spanEnd.getD n < c.fieldOffset + 2 ∨ (c.fieldOffset - c.spanStart) % 2 = 1 := by
  unfold ChecksumSpec.fails
  cases c.spanEnd with
  | none => simp [or_assoc]
  | some e => simp [or_assoc]

/-- The spans of a pair of checksum specs (R32). -/
theorem checksumsOverlap_iff (n : Nat) (l : List ChecksumSpec) :
    checksumsOverlap n l = true ↔ ∃ a b, l = [a, b] ∧
      ((a.spanStart ≤ b.fieldOffset ∧ b.fieldOffset < a.spanEnd.getD n) ∨
        (a.spanStart ≤ b.fieldOffset + 1 ∧ b.fieldOffset + 1 < a.spanEnd.getD n)) := by
  unfold checksumsOverlap
  split
  · next a b => simp [ChecksumSpec.covers]
  · next hpair =>
    refine ⟨nofun, ?_⟩
    rintro ⟨a, b, rfl, -⟩
    exact absurd rfl (hpair a b)

theorem Template.failsFieldRange_iff (t : Template) :
    t.failsFieldRange = true ↔ (∃ u ∈ t.substs, t.totalLen < u.offset + u.len) ∨
      (∃ c ∈ t.checksums, c.fails t.totalLen = true) ∨ checksumsOverlap t.totalLen t.checksums = true := by
  simp [Template.failsFieldRange, or_assoc]

/-- The sources a record does not supply (R33). -/
theorem sourceSupplied_eq_false_iff (owner : Record) (source : Source) :
    sourceSupplied owner source = false ↔
      (source = .claimAddr ∧ (¬ ∃ c, owner = .claim c) ∧ owner.claimLink = none) ∨
        ((source = .seqOut ∨ source = .seqOutLess1 ∨ source = .seqIn) ∧ ¬ ∃ x, owner = .stream x) ∨
        (((∃ k, source = .capture k) ∨ source = .counter) ∧ ¬ ∃ x, owner = .exchange x) := by
  cases source with
  | rx _ | stationAddr | time => simp [sourceSupplied]
  | claimAddr | seqOut | seqOutLess1 | seqIn | capture _ | counter =>
    cases owner <;> simp [sourceSupplied, Record.claimLink]

theorem Template.failsNoSource_iff (owner : Record) (t : Template) :
    t.failsNoSource owner = true ↔ ∃ u ∈ t.substs, sourceSupplied owner u.source = false := by
  simp [Template.failsNoSource]

/-! ## A template's reason (R33) -/

section Reason
variable {t : Template} {owner : Record}

theorem Template.reason_poolRange (h : t.failsPoolRange = true) : t.reason owner = some .poolRange := by
  simp [Template.reason, h]

theorem Template.reason_chainLength (h1 : t.failsPoolRange = false) (h : t.failsChainLength = true) :
    t.reason owner = some .chainLength := by
  simp [Template.reason, h1, h]

theorem Template.reason_fieldRange (h1 : t.failsPoolRange = false) (h2 : t.failsChainLength = false)
    (h : t.failsFieldRange = true) : t.reason owner = some .fieldRange := by
  simp [Template.reason, h1, h2, h]

theorem Template.reason_noSource (h1 : t.failsPoolRange = false) (h2 : t.failsChainLength = false)
    (h3 : t.failsFieldRange = false) (h : t.failsNoSource owner = true) : t.reason owner = some .noSource := by
  simp [Template.reason, h1, h2, h3, h]

end Reason

/-! ## A slot's step (R46, R47) -/

section Slot
variable {s : State} {i : SlotIx} {r : Record}

theorem State.slotReason_of_empty (h : s.slot i = none) : s.slotReason i = none := by simp [State.slotReason, h]

/-- The first template with a reason gives the slot's (R47). -/
theorem State.slotReason_of_template {before after : List Template} {t : Template} {reason : CheckReason}
    (h : s.slot i = some r) (ht : r.templates = before ++ t :: after) (hbefore : ∀ u ∈ before, u.reason r = none)
    (hreason : t.reason r = some reason) : s.slotReason i = some reason := by
  have hfirst : r.templates.findSome? (Template.reason r) = some reason := by
    rw [ht, List.findSome?_append, List.findSome?_eq_none_iff.2 hbefore, List.findSome?_cons, hreason]
    rfl
  simp [State.slotReason, h, hfirst]

/-- With no template at fault the links decide, then the duplicates (R47). -/
theorem State.slotReason_of_templates_pass (h : s.slot i = some r) (ht : ∀ t ∈ r.templates, t.reason r = none) :
    s.slotReason i =
      if s.linksSound r = false then some .linkKind else if s.duplicated i r then some .duplicateClaim else none := by
  have hfirst : r.templates.findSome? (Template.reason r) = none := List.findSome?_eq_none_iff.2 ht
  simp [State.slotReason, h, hfirst]

theorem State.claimLinkSound_eq_false_iff (s : State) (link : Link) :
    s.claimLinkSound link = false ↔ ∃ j, link = some j ∧ s.claimAt j = none := by
  cases link <;> simp [State.claimLinkSound]

theorem State.exchangeLinkSound_eq_false_iff (s : State) (link : Link) :
    s.exchangeLinkSound link = false ↔ ∃ j, link = some j ∧ s.exchangeAt j = none := by
  cases link <;> simp [State.exchangeLinkSound]

/-- A record's links fail by a claim link that names no CLAIM, or a claim's exchange link that names no EXCHANGE (R47). -/
theorem State.linksSound_eq_false_iff (s : State) (r : Record) :
    s.linksSound r = false ↔ (∃ j, r.claimLink = some j ∧ s.claimAt j = none) ∨
      ∃ c j, r = .claim c ∧ c.cfg.exchangeLink = some j ∧ s.exchangeAt j = none := by
  cases r with
  | claim c => simp [State.linksSound, State.exchangeLinkSound_eq_false_iff, Record.claimLink]
  | filter f => simp [State.linksSound, Record.claimLink]
  | responder _ | stream _ | exchange _ => simp [State.linksSound, State.claimLinkSound_eq_false_iff, Record.claimLink]

/-- A claim's links are sound where its exchange link names an EXCHANGE. -/
theorem State.linksSound_claim (s : State) {c : Claim} (h : ∀ j, c.cfg.exchangeLink = some j → s.exchangeAt j ≠ none) :
    s.linksSound (.claim c) ≠ false := by
  rw [ne_eq, s.linksSound_eq_false_iff]
  rintro (⟨j, hlink, -⟩ | ⟨_, j, hc, hlink, hnone⟩)
  · cases hlink
  · cases hc; exact h j hlink hnone

/-- Only claims are duplicated (R47). -/
theorem State.duplicated_of_not_claim (s : State) (i : SlotIx) {r : Record} (h : ∀ c, r ≠ .claim c) :
    ¬ s.duplicated i r = true := by
  cases r with
  | claim c => exact absurd rfl (h c)
  | _ => simp [State.duplicated]

theorem State.duplicateAbove_iff (s : State) (i : SlotIx) (c : Claim) :
    s.duplicateAbove i c = true ↔ ∃ j d, i < j ∧ s.claimAt j = some d ∧ d.cfg.address = c.cfg.address := by
  simp only [State.duplicateAbove, slotIndices, List.any_eq_true, List.mem_finRange, true_and, Bool.and_eq_true,
    decide_eq_true_eq]
  refine exists_congr fun j => ?_
  cases s.claimAt j <;> simp

/-- A slot's step gives the reasons of R48 but for the station address, which has a step of its own. -/
theorem State.slotReason_ne_noStationAddress (s : State) (i : SlotIx) : s.slotReason i ≠ some .noStationAddress := by
  intro h
  unfold State.slotReason at h
  split at h
  · cases h
  · next r _ =>
    split at h
    · next reason hreason =>
      obtain ⟨t, -, ht⟩ := List.exists_of_findSome?_eq_some hreason
      cases h
      unfold Template.reason at ht
      split_ifs at ht <;> cases ht
    · split_ifs at h <;> cases h

end Slot

/-! ## One step of the check (R46, R48) -/

section Step
variable {s : State}

theorem exec_lendCheckStep_takeIf (s : State) : exec .lendCheckStep s =
    .next (s.takeIf (s.canTake && decide (s.custody.state = .checking)) State.checkStep) := rfl

/-- In CHECKING a step of the check is taken. -/
theorem exec_lendCheckStep (ht : s.canTake = true) (hs : s.custody.state = .checking) :
    exec .lendCheckStep s = .next s.checkStep := by
  rw [exec_lendCheckStep_takeIf, State.takeIf, ht, hs]
  rfl

theorem State.checkStep_station_unset (hc : s.custody.cursor = some .station) (ha : s.table.stationAddr = 0) :
    s.checkStep = s.checkFailed 0xFF .noStationAddress := by
  simp [State.checkStep, hc, ha]

theorem State.checkStep_station_set (hc : s.custody.cursor = some .station) (ha : s.table.stationAddr ≠ 0) :
    s.checkStep = s.setCustody { s.custody with cursor := some (.slot 0) } := by
  simp only [State.checkStep, hc]; exact if_neg ha

theorem State.checkStep_slot_fails {i : SlotIx} {reason : CheckReason} (hc : s.custody.cursor = some (.slot i))
    (hr : s.slotReason i = some reason) : s.checkStep = s.checkFailed (BitVec.ofNat 8 i.val) reason := by
  simp [State.checkStep, hc, hr]

theorem State.checkStep_slot_passes {i j : SlotIx} (hc : s.custody.cursor = some (.slot i)) (hr : s.slotReason i = none)
    (hj : j.val = i.val + 1) : s.checkStep = s.setCustody { s.custody with cursor := some (.slot j) } := by
  have hi : i.val + 1 < 128 := hj ▸ j.isLt
  have hix : (⟨i.val + 1, hi⟩ : SlotIx) = j := Fin.ext hj.symm
  simp [State.checkStep, hc, hr, hi, hix]

theorem State.checkStep_last_passes (hc : s.custody.cursor = some (.slot 127)) (hr : s.slotReason 127 = none) :
    s.checkStep = s.lendSuccess := by
  simp [State.checkStep, hc, hr]

end Step

/-! ## Steps one after the other (R46) -/

theorem checkSteps_succ (n : Nat) {s t : State} (h : exec .lendCheckStep s = .next t) :
    checkSteps (n + 1) s = checkSteps n t := by
  rw [checkSteps, h]

theorem checkSteps_one {s : State} (ht : s.canTake = true) (hs : s.custody.state = .checking) :
    checkSteps 1 s = s.checkStep := checkSteps_succ 0 (exec_lendCheckStep ht hs)

theorem checkSteps_add (m n : Nat) (s : State) : checkSteps (m + n) s = checkSteps n (checkSteps m s) := by
  induction m generalizing s with
  | zero => simp [checkSteps]
  | succ m ih =>
    rw [Nat.add_right_comm, checkSteps_succ _ (exec_lendCheckStep_takeIf s),
      checkSteps_succ _ (exec_lendCheckStep_takeIf s), ih]

/-- Steps over slots that pass move the cursor alone, by one slot each (R46). -/
theorem checkSteps_over_passing (n : Nat) {s : State} {i k : SlotIx} (ht : s.canTake = true)
    (hs : s.custody.state = .checking) (hc : s.custody.cursor = some (.slot i)) (hk : k.val = i.val + n)
    (hpass : ∀ j, j < k → s.slotReason j = none) :
    checkSteps n s = s.setCustody { s.custody with cursor := some (.slot k) } := by
  induction n generalizing s i with
  | zero =>
    obtain rfl : k = i := Fin.ext hk
    rw [checkSteps, ← hc]; rfl
  | succ n ih =>
    have hi : i.val + 1 < 128 := by have := k.isLt; omega
    have hstep := State.checkStep_slot_passes hc (hpass i (Fin.lt_def.2 (by omega))) (j := ⟨i.val + 1, hi⟩) rfl
    rw [checkSteps_succ n ((exec_lendCheckStep ht hs).trans (congrArg _ hstep))]
    have hk' : k.val = i.val + 1 + n := by omega
    exact ih (s := s.setCustody { s.custody with cursor := some (.slot ⟨i.val + 1, hi⟩) }) ht hs rfl hk' hpass

/-- With a station address set, the check comes to a slot whose lower slots all pass (R46). -/
theorem checkSteps_to_slot {s : State} (k : SlotIx) (ht : s.canTake = true) (hs : s.custody.state = .checking)
    (hc : s.custody.cursor = some .station) (ha : s.table.stationAddr ≠ 0) (hpass : ∀ j, j < k → s.slotReason j = none) :
    checkSteps (k.val + 1) s = s.setCustody { s.custody with cursor := some (.slot k) } := by
  rw [checkSteps_succ _ ((exec_lendCheckStep ht hs).trans (congrArg _ (State.checkStep_station_set hc ha)))]
  exact checkSteps_over_passing k.val (s := s.setCustody { s.custody with cursor := some (.slot 0) }) (i := 0) ht hs rfl
    (by simp) hpass

end Sys2Proof.Machine

open Sys2Proof Sys2Proof.Machine

/-- Settles O18: each row is one equation of the step at its cursor. -/
theorem checkStepFollowsTheCursor : Obligations.CheckStepFollowsTheCursor := by
  unfold Obligations.CheckStepFollowsTheCursor
  intro codes s ht hs failed
  have htaken : ∀ {t : State}, s.checkStep = t → exec .lendCheckStep s = .next t := fun h =>
    (exec_lendCheckStep ht hs).trans (congrArg _ h)
  refine ⟨fun hc ha => htaken (State.checkStep_station_unset hc ha),
    fun hc ha => htaken (State.checkStep_station_set hc ha), fun i r hr => ?_, fun row hrow i hc hr => ?_,
    fun i j hc hr hj => htaken (State.checkStep_slot_passes hc hr hj)⟩
  · cases r with
    | noStationAddress => exact absurd hr (s.slotReason_ne_noStationAddress i)
    | _ => simp [codes]
  · have hcode : row.2 = row.1.code := by
      simp only [codes, List.mem_cons, List.not_mem_nil, or_false] at hrow
      rcases hrow with rfl | rfl | rfl | rfl | rfl | rfl <;> rfl
    rw [hcode]
    exact htaken (State.checkStep_slot_fails hc hr)

/-- Settles O19: each test of a template is an equivalence, and its reason is the first that fails; a slot's step tests the templates,
then the links, then the duplicates. -/
theorem slotTestsRunInOrder : Obligations.SlotTestsRunInOrder := by
  refine ⟨fun t owner => ?_, fun _ => rfl, fun _ => rfl, fun _ => rfl, fun _ => rfl, fun _ => rfl,
    fun s i => ⟨State.slotReason_of_empty, fun r hr => ⟨fun before t after reason ht hb hreason =>
      State.slotReason_of_template hr ht hb hreason, fun hpass => ?_⟩⟩⟩
  · intro n stop leavesPool chainFails fieldFails isClaim isStream isExchange lacksSource
    have hpool : t.failsPoolRange = true ↔ leavesPool := t.failsPoolRange_iff
    have hchain : t.failsChainLength = true ↔ chainFails := t.failsChainLength_iff
    have hfield : t.failsFieldRange = true ↔ fieldFails := by
      simp only [t.failsFieldRange_iff, ChecksumSpec.fails_iff, checksumsOverlap_iff]; rfl
    have hsource : t.failsNoSource owner = true ↔ lacksSource := by
      simp only [t.failsNoSource_iff, sourceSupplied_eq_false_iff]; rfl
    have passes : ∀ {b : Bool} {fails : Prop}, (b = true ↔ fails) → ¬ fails → b = false := fun hb hf =>
      Bool.eq_false_iff.2 (mt hb.1 hf)
    exact ⟨fun h => Template.reason_poolRange (hpool.2 h),
      fun h1 h => Template.reason_chainLength (passes hpool h1) (hchain.2 h),
      fun h1 h2 h => Template.reason_fieldRange (passes hpool h1) (passes hchain h2) (hfield.2 h),
      fun h1 h2 h3 h => Template.reason_noSource (passes hpool h1) (passes hchain h2) (passes hfield h3) (hsource.2 h),
      fun h1 h2 h3 h4 =>
        Template.reason_eq_none.2 ⟨passes hpool h1, passes hchain h2, passes hfield h3, passes hsource h4⟩⟩
  · rw [State.slotReason_of_templates_pass hr hpass]
    have hlinks := s.linksSound_eq_false_iff r
    refine ⟨fun j hj hnone => ?_, fun c j hc hj hnone => ?_, fun c hc hj => ⟨fun hdup => ?_, fun hdup => ?_⟩,
      fun hno hj => ?_⟩
    · rw [if_pos (hlinks.2 (.inl ⟨j, hj, hnone⟩))]
    · rw [if_pos (hlinks.2 (.inr ⟨c, j, hc, hj, hnone⟩))]
    · obtain rfl := hc
      have hsound : s.linksSound (.claim c) ≠ false := s.linksSound_claim hj
      rw [if_neg hsound, if_pos (by exact (s.duplicateAbove_iff i c).2 hdup)]
    · obtain rfl := hc
      have hsound : s.linksSound (.claim c) ≠ false := s.linksSound_claim hj
      have hunique : ¬ s.duplicated i (.claim c) = true := fun h => by
        obtain ⟨j, d, hij, hd, haddr⟩ := (s.duplicateAbove_iff i c).1 h
        exact hdup j d hij hd haddr
      rw [if_neg hsound, if_neg hunique]
    · have hsound : s.linksSound r ≠ false := by
        rw [ne_eq, hlinks]
        rintro (⟨j, hlink, hnone⟩ | ⟨c, _, hc, -⟩)
        · exact hj j hlink hnone
        · exact hno c hc
      rw [if_neg hsound, if_neg (s.duplicated_of_not_claim i hno)]

/-- Settles O20: steps over passing slots move the cursor alone, and the step at the lowest failing slot reports it. -/
theorem checkReportsTheLowestFault : Obligations.CheckReportsTheLowestFault := by
  intro s ht hs hc failed
  refine ⟨fun ha => ?_, fun ha => ⟨fun i r hr hlow => ?_, fun hpass => ?_⟩⟩
  · exact (checkSteps_one ht hs).trans (State.checkStep_station_unset hc ha)
  · have hcome := checkSteps_to_slot i ht hs hc ha hlow
    have hfails := State.checkStep_slot_fails (s := s.setCustody { s.custody with cursor := some (.slot i) }) rfl hr
    rw [checkSteps_add (i.val + 1) 1, hcome]
    exact (checkSteps_one (by exact ht) (by exact hs)).trans hfails
  · exact checkSteps_to_slot 127 ht hs hc ha fun j _ => hpass j

end

section
/-! SUPPORT. LEND success: the records started afresh and the first probes queued (R49, R50, R83). -/

namespace Sys2Proof.Machine

/-! ## The first probes (R83) -/

/-- The item LEND success queues for a slot: a probe for a PROBING claim (R83). -/
def State.firstProbeOf (s : State) (i : SlotIx) : Option OwnItem :=
  if (s.claimAt i).map Claim.state = some .probing then some (.claim i .probe) else none

theorem State.slot_of_firstProbeOf {s : State} {i : SlotIx} {item : OwnItem} (h : s.firstProbeOf i = some item) :
    item.slot = i := by
  unfold State.firstProbeOf at h
  split at h
  · cases h; rfl
  · cases h

theorem State.setTx_append_nil (s : State) : s.setTx { s.tx with own := s.tx.own ++ [] } = s := by
  rw [List.append_nil]; rfl

/-- One first probe is queued where the slot has no item and the queue has room. -/
theorem State.firstProbe_eq {s : State} {i : SlotIx} (hdue : ∀ c, s.claimAt i = some c → c.dueItem = none)
    (hfree : s.hasItem i = false) (hroom : (s.firstProbeOf i).isSome = true → s.ownRoom = true) :
    s.firstProbe i = s.setTx { s.tx with own := s.tx.own ++ (s.firstProbeOf i).toList } := by
  unfold State.firstProbe
  unfold State.firstProbeOf at hroom ⊢
  cases hc : s.claimAt i with
  | none => exact s.setTx_append_nil.symm
  | some c =>
    rw [hc] at hroom
    by_cases hprobing : c.state = .probing
    · have hroom' : s.ownRoom = true := hroom (by simp [hprobing])
      have hfree' : s.hasItem (OwnItem.claim i .probe).slot = false := hfree
      simp [hprobing, State.wantClaimItem, hfree, hdue c hc, hroom', State.pushItem, hfree']
    · simpa [hprobing] using s.setTx_append_nil.symm

theorem slotIndices_nodup : slotIndices.Nodup := List.nodup_finRange 128

/-- The first probes of slots with no item are queued in their order, where all of them find room. -/
theorem State.foldl_firstProbe {l : List SlotIx} (hnodup : l.Nodup) {s : State}
    (hdue : ∀ i c, s.claimAt i = some c → c.dueItem = none) (hfree : ∀ i ∈ l, s.hasItem i = false)
    (hroom : s.tx.own.length + s.tx.keptPlaces + (l.filterMap s.firstProbeOf).length ≤ Config.ownPlaces) :
    l.foldl State.firstProbe s = s.setTx { s.tx with own := s.tx.own ++ l.filterMap s.firstProbeOf } := by
  induction l generalizing s with
  | nil => exact s.setTx_append_nil.symm
  | cons i l ih =>
    obtain ⟨hi, hnodup⟩ := List.nodup_cons.1 hnodup
    have hstep := State.firstProbe_eq (hdue i) (hfree i (by simp)) fun hsome => by
      obtain ⟨item, hitem⟩ := Option.isSome_iff_exists.1 hsome
      simp only [List.filterMap_cons, hitem, List.length_cons] at hroom
      simp only [State.ownRoom, decide_eq_true_eq]
      omega
    have hsplit : (i :: l).filterMap s.firstProbeOf = (s.firstProbeOf i).toList ++ l.filterMap s.firstProbeOf := by
      cases h : s.firstProbeOf i <;> simp [h]
    rw [hsplit, List.length_append] at hroom
    rw [List.foldl_cons, hstep, hsplit]
    have hfree' : ∀ j ∈ l,
        (s.setTx { s.tx with own := s.tx.own ++ (s.firstProbeOf i).toList }).hasItem j = false := fun j hj => by
      have hold : s.tx.own.any (fun it => decide (it.slot = j)) = false := hfree j (List.mem_cons_of_mem i hj)
      have hne : i ≠ j := fun e => hi (e ▸ hj)
      unfold State.hasItem
      rw [State.setTx_tx, List.any_append, hold]
      cases h : s.firstProbeOf i with
      | none => rfl
      | some item => simp [State.slot_of_firstProbeOf h, hne]
    have hrest := ih hnodup (s := s.setTx { s.tx with own := s.tx.own ++ (s.firstProbeOf i).toList }) hdue hfree' (by
      have hkept : (s.setTx { s.tx with own := s.tx.own ++ (s.firstProbeOf i).toList }).tx.keptPlaces = s.tx.keptPlaces := rfl
      have hitems : l.filterMap (s.setTx { s.tx with own := s.tx.own ++ (s.firstProbeOf i).toList }).firstProbeOf =
          l.filterMap s.firstProbeOf := rfl
      rw [hkept, hitems, State.setTx_tx, List.length_append]
      omega)
    rw [hrest]
    simp only [State.setTx_setTx, State.setTx_tx, List.append_assoc]
    rfl

/-- There are no more first probes than claims. -/
theorem State.firstProbes_length_le (s : State) :
    (slotIndices.filterMap s.firstProbeOf).length ≤ s.tally Record.isClaim := by
  rw [State.tally, State.slots_toList, List.length_filterMap_eq_countP, ← List.countP_eq_length_filter, List.countP_map]
  refine List.countP_mono_left fun i _ hi => ?_
  unfold State.firstProbeOf State.claimAt at hi
  cases h : s.slot i with
  | none => simp [h] at hi
  | some r => cases r <;> simp_all [Record.isClaim]

/-! ## The records (R50) -/

/-- A claim as LEND success starts it (R50). -/
def Claim.started (linkUp : Bool) (c : Claim) : Claim :=
  if linkUp = false then { Claim.fresh c.cfg with reprobePending := true }
  else if c.cfg.probeTemplate ≠ none ∧ 0 < c.cfg.probeCount then
    { Claim.fresh c.cfg with state := .probing, probesRemaining := c.cfg.probeCount }
  else Claim.fresh c.cfg

theorem startRecord_claim (now : Time) (up : Bool) (c : Claim) :
    startRecord now up (.claim c) = .claim (c.started up) := by
  have hprobes : c.probes = true ↔ c.cfg.probeTemplate ≠ none ∧ 0 < c.cfg.probeCount := by
    simp [Claim.probes, Option.isSome_iff_ne_none]
  cases up with
  | false => rfl
  | true =>
    by_cases hp : c.probes = true
    · simp [startRecord, Claim.started, hp, hprobes.1 hp]
    · simp [startRecord, Claim.started, hp, mt hprobes.2 hp]

theorem Claim.started_dueItem (up : Bool) (c : Claim) : (c.started up).dueItem = none := by
  unfold Claim.started; split_ifs <;> rfl

theorem State.slot_startRecords (s : State) (i : SlotIx) :
    s.startRecords.slot i = (s.slot i).map (startRecord s.clk.partTime s.tx.linkUp) := by
  simp [State.startRecords, State.slot, State.setTable, Vector.get_eq_getElem]

theorem State.startRecords_table_congr {s u : State} (htable : u.table = s.table)
    (hnow : u.clk.partTime = s.clk.partTime) (hup : u.tx.linkUp = s.tx.linkUp) :
    u.startRecords.table = s.startRecords.table := by
  simp only [State.startRecords, State.setTable_table, htable, hnow, hup]

/-- A record keeps its kind. -/
theorem isClaim_startRecord (now : Time) (up : Bool) (r : Record) : (startRecord now up r).isClaim = r.isClaim := by
  cases r with
  | claim c => rw [startRecord_claim]; rfl
  | _ => rfl

theorem State.tally_startRecords (s : State) : s.startRecords.tally Record.isClaim = s.tally Record.isClaim := by
  unfold State.tally
  rw [State.slots_toList, State.slots_toList, List.filter_map, List.filter_map, List.length_map, List.length_map]
  congr 2
  funext i
  simp only [Function.comp, State.slot_startRecords]
  cases s.slot i <;> simp [isClaim_startRecord]

/-- A claim started afresh has no item due. -/
theorem State.startRecords_dueItem {s : State} {i : SlotIx} {c : Claim} (h : s.startRecords.claimAt i = some c) :
    c.dueItem = none := by
  rw [State.claimAt_eq_some, State.slot_startRecords, Option.map_eq_some_iff] at h
  obtain ⟨r, -, hr⟩ := h
  cases r with
  | claim d =>
    rw [startRecord_claim] at hr
    cases hr
    exact d.started_dueItem _
  | _ => cases hr

/-! ## The state LEND success leaves (R49, R50) -/

/-- The first probes of a table whose records are those of `s` started afresh, put to an empty queue with an idle transmitter: each
has room where the table has at most 16 claims. -/
theorem State.foldl_firstProbe_started {s u : State} (hclaims : s.tally Record.isClaim ≤ 16)
    (htable : u.table = s.startRecords.table) (hcarried : u.tx.carried = none) (hown : u.tx.own = []) :
    slotIndices.foldl State.firstProbe u =
      u.setTx { u.tx with own := slotIndices.filterMap s.startRecords.firstProbeOf } := by
  have hclaimAt : u.claimAt = s.startRecords.claimAt := by
    funext i; unfold State.claimAt State.slot; rw [htable]
  have hprobes : u.firstProbeOf = s.startRecords.firstProbeOf := by
    funext i; unfold State.firstProbeOf; rw [hclaimAt]
  have hlength : (slotIndices.filterMap s.startRecords.firstProbeOf).length ≤ 16 :=
    (State.firstProbes_length_le _).trans (s.tally_startRecords ▸ hclaims)
  rw [State.foldl_firstProbe slotIndices_nodup, hprobes, hown, List.nil_append]
  · intro i c hc
    exact State.startRecords_dueItem (hclaimAt ▸ hc)
  · intro i _
    simp [State.hasItem, hown]
  · simpa [hown, Transmitter.keptPlaces, hcarried, hprobes] using hlength

/-- LEND success, with at most 16 claims in the table (R2, R49, R50, R83). -/
theorem State.lendSuccess_eq {s : State} (hclaims : s.tally Record.isClaim ≤ 16) :
    s.lendSuccess = { s with
      custody := { s.custody with state := .proxy, cursor := none, discard := false }
      cond := { changes := [], notices := 0, lendCount := bump32 s.cond.lendCount
                report := { WakeReport.reset with linkSteady := s.tx.linkUp } }
      counters := Counters.zero
      rx := { s.rx with sample := none }
      held := { entries := [], fullLatch := false }
      guard := { state := .normal, demand := 0, run := 0
                 windowEnd := if s.policy.floodEnable
                   then some (timeAfter s.clk.partTime s.policy.windowLength) else none }
      tx := { s.tx with
        carried := none, answers := [], own := slotIndices.filterMap s.startRecords.firstProbeOf }
      table := s.startRecords.table
      ports := { s.ports with sys := { s.ports.sys with
        slot := .ready { result := .done, payload := [] }, note := false } } } := by
  unfold State.lendSuccess
  dsimp only
  rw [State.foldl_firstProbe_started hclaims]
  case htable => exact State.startRecords_table_congr rfl rfl rfl
  · generalize slotIndices.filterMap s.startRecords.firstProbeOf = probes
    simp only [State.startRecords, State.setTable, State.setTx, State.setHeld, State.setRx, State.setCounters, State.setCond,
      State.setCustody, State.restartGuard, State.setGuard, State.respond, State.setPort, State.port, State.setPorts,
      Response.bare]
    rfl
  · rfl
  · rfl

end Sys2Proof.Machine

open Sys2Proof Sys2Proof.Machine

/-- Settles O21: the records are started afresh, and with at most 16 claims every first probe finds a place in the emptied queue, so
that no record is written after. -/
theorem lendSuccessStartsEverythingAfresh : Obligations.LendSuccessStartsEverythingAfresh := by
  intro s ht hs hc hr hclaims
  refine ⟨_, (exec_lendCheckStep ht hs).trans
    (congrArg _ ((State.checkStep_last_passes hc hr).trans (State.lendSuccess_eq hclaims))), rfl, rfl, fun i => ?_⟩
  have hslot : ∀ r, s.slot i = some r → s.startRecords.slot i = some (startRecord s.clk.partTime s.tx.linkUp r) :=
    fun r h => by rw [State.slot_startRecords, h]; rfl
  refine ⟨fun h => ?_, fun c h => ?_, fun r h => hslot _ h, fun f h => hslot _ h, fun x h => hslot _ h,
    fun x h => hslot _ h⟩
  · exact (s.slot_startRecords i).trans (by rw [h]; rfl)
  · exact (hslot _ h).trans (by rw [startRecord_claim]; rfl)

end

section
/-! SUPPORT. The reclaim and the recall: what each leaves of the records and blocks, and the ends of QUIESCE and DRAIN (R53 to R59). -/

namespace Sys2Proof.Machine

/-! ## The records of a reclaim (R55) -/

/-- A record as a reclaim leaves it (R55). -/
def Record.reclaimed : Record → Record
  | .claim c => .claim { c with timer := none, dueItem := none }
  | .stream x => .stream { x with timer := none, itemDue := false }
  | .exchange x => .exchange
      (if x.state = .queued ∨ x.state = .awaiting then
        { x with timer := none, itemDue := false, resend := false, state := .waiting, openAtReturn := true }
      else { x with timer := none, itemDue := false, resend := false })
  | .responder r => .responder r
  | .filter f => .filter f

/-- A slot holds an exchange that a reclaim stops (R55, R147). -/
def State.stopsExchange (s : State) (i : SlotIx) : Bool :=
  decide (((s.exchangeAt i).map fun x => decide (x.state = .queued ∨ x.state = .awaiting)) = some true)

/-- The change list once the exchanges a reclaim stops among some slots have joined it, in their order (R148, R174). -/
def State.changesOfReclaim (s : State) (l : List SlotIx) : List ChangeRecord :=
  (l.filter s.stopsExchange).foldl (fun changes i => addChange changes i 0x09) s.cond.changes

/-- The marks of an exchange that a reclaim stops: state and open-at-return (R148). -/
theorem exchangeMarks_reclaimed {x : Exchange} (h : x.state = .queued ∨ x.state = .awaiting) :
    exchangeMarks x { x with timer := none, itemDue := false, resend := false, state := .waiting, openAtReturn := true } |||
      markOpenAtReturn = 0x09 := by
  have hne : ExchangeState.waiting ≠ x.state := by rcases h with h | h <;> rw [h] <;> decide
  simp [exchangeMarks, hne, markState, markOpenAtReturn]

/-- A slot's part of a reclaim: its record, and its place on the change list. -/
theorem State.reclaimOne_eq (s : State) (i : SlotIx) :
    s.reclaimOne i = (s.setSlot i ((s.slot i).map Record.reclaimed)).setCond
      { s.cond with changes := s.changesOfReclaim [i] } := by
  have hkept : s.stopsExchange i = false → s.changesOfReclaim [i] = s.cond.changes := fun h => by
    simp [State.changesOfReclaim, h]
  have hsetSlot : ∀ r, s.stopsExchange i = false →
      s.setSlot i r = (s.setSlot i r).setCond { s.cond with changes := s.changesOfReclaim [i] } := fun r h => by
    rw [hkept h]; rfl
  unfold State.reclaimOne
  cases hs : s.slot i with
  | none =>
    exact (s.setSlot_self i none hs).symm.trans (hsetSlot _ (by simp [State.stopsExchange, State.exchangeAt, hs]))
  | some r =>
    cases r with
    | claim _ | stream _ => exact hsetSlot _ (by simp [State.stopsExchange, State.exchangeAt, hs])
    | responder _ | filter _ =>
      exact (s.setSlot_self i _ hs).symm.trans (hsetSlot _ (by simp [State.stopsExchange, State.exchangeAt, hs]))
    | exchange x =>
      by_cases hx : x.state = .queued ∨ x.state = .awaiting
      · have hstops : s.stopsExchange i = true := by simp [State.stopsExchange, State.exchangeAt, hs, hx]
        simp only [hx, if_true, State.putExchange, exchangeMarks_reclaimed hx, Option.map_some, Record.reclaimed,
          State.changesOfReclaim, List.filter_cons, hstops, List.filter_nil, List.foldl_cons, List.foldl_nil]
        rfl
      · simp only [hx, if_false, Option.map_some, Record.reclaimed]
        exact hsetSlot _ (by simp [State.stopsExchange, State.exchangeAt, hs, hx])

/-- The slots once a reclaim has passed over some of them. -/
def State.slotsOfReclaim (s : State) (l : List SlotIx) : Vector (Option Record) 128 :=
  Vector.ofFn fun i => if i ∈ l then (s.slot i).map Record.reclaimed else s.slot i

/-- A reclaim's pass over slots, each taken once. -/
theorem State.foldl_reclaimOne {l : List SlotIx} (hnodup : l.Nodup) (s : State) :
    l.foldl State.reclaimOne s =
      (s.setTable { s.table with slots := s.slotsOfReclaim l }).setCond
        { s.cond with changes := s.changesOfReclaim l } := by
  induction l generalizing s with
  | nil =>
    have hslots : s.slotsOfReclaim [] = s.table.slots := by
      apply Vector.ext; intro k hk; simp [State.slotsOfReclaim, State.slot, Vector.get_eq_getElem]
    rw [hslots]; rfl
  | cons i l ih =>
    obtain ⟨hi, hnodup⟩ := List.nodup_cons.1 hnodup
    rw [List.foldl_cons, s.reclaimOne_eq i, ih hnodup]
    generalize hu : (s.setSlot i ((s.slot i).map Record.reclaimed)).setCond
      { s.cond with changes := s.changesOfReclaim [i] } = u
    have huslot : ∀ j, u.slot j = if i = j then (s.slot i).map Record.reclaimed else s.slot j := fun j => by
      rw [← hu]; exact s.slot_setSlot i j _
    have hother : ∀ j ∈ l, u.slot j = s.slot j := fun j hj => by
      have hij : i ≠ j := fun e => hi (e ▸ hj)
      rw [huslot, if_neg hij]
    have hslots : u.slotsOfReclaim l = s.slotsOfReclaim (i :: l) := by
      unfold State.slotsOfReclaim
      congr 1
      funext j
      by_cases hj : j ∈ l
      · rw [if_pos hj, if_pos (List.mem_cons_of_mem i hj), hother j hj]
      · rw [if_neg hj, huslot]
        by_cases hij : i = j
        · subst hij; simp
        · rw [if_neg hij, if_neg (by simp [hj, Ne.symm hij])]
    have hstops : ∀ j ∈ l, u.stopsExchange j = s.stopsExchange j := fun j hj => by
      unfold State.stopsExchange State.exchangeAt; rw [hother j hj]
    have hchanges : u.changesOfReclaim l = s.changesOfReclaim (i :: l) := by
      have hstart : u.cond.changes = s.changesOfReclaim [i] := by rw [← hu]; rfl
      unfold State.changesOfReclaim at hstart ⊢
      rw [List.filter_congr hstops, hstart, ← List.foldl_append, ← List.filter_append, List.singleton_append]
    rw [hslots, hchanges, ← hu]
    rfl

/-- Over the whole table each record becomes what R55 says. -/
theorem State.slot_slotsOfReclaim (s : State) (i : SlotIx) :
    (s.slotsOfReclaim slotIndices).get i = (s.slot i).map Record.reclaimed := by
  simp [State.slotsOfReclaim, slotIndices, Vector.get_eq_getElem]

/-- The reclaim, but for the test of QUIESCE's end, block by block (R55, R110, R168). -/
theorem State.takeReclaim_eq (s : State) :
    s.takeReclaim = { s with
      custody := { s.custody with state := .quiesce }
      tx := { s.tx with own := [] }
      guard := { s.guard with windowEnd := none }
      cond := { s.cond with
        changes := s.changesOfReclaim slotIndices, report := { s.cond.report with snapshot := s.counters } }
      table := { s.table with slots := s.slotsOfReclaim slotIndices } } := by
  have hpass : ∀ u : State, u.table = s.table → u.cond = s.cond → slotIndices.foldl State.reclaimOne u =
      (u.setTable { s.table with slots := s.slotsOfReclaim slotIndices }).setCond
        { s.cond with changes := s.changesOfReclaim slotIndices } := fun u htable hcond => by
    have hslot : u.slot = s.slot := by funext i; unfold State.slot; rw [htable]
    have hstops : u.stopsExchange = s.stopsExchange := by
      funext i; unfold State.stopsExchange State.exchangeAt; rw [hslot]
    rw [State.foldl_reclaimOne slotIndices_nodup, State.slotsOfReclaim, State.slotsOfReclaim, State.changesOfReclaim,
      State.changesOfReclaim, hslot, hstops, htable, hcond]
  unfold State.takeReclaim
  dsimp only
  rw [hpass]
  · generalize s.slotsOfReclaim slotIndices = slots, s.changesOfReclaim slotIndices = changes
    rfl
  · rfl
  · rfl

/-- What the test of QUIESCE's end reads after a reclaim. -/
theorem State.takeReclaim_reads (s : State) :
    s.takeReclaim.tx.answers = s.tx.answers ∧ s.takeReclaim.tx.carriesOwn = s.tx.carriesOwn ∧
      s.takeReclaim.stn = s.stn ∧ s.takeReclaim.pins = s.pins := by
  rw [State.takeReclaim_eq]; exact ⟨rfl, rfl, rfl, rfl⟩

/-! ## The ends of QUIESCE and DRAIN (R57 to R59, R163) -/

theorem State.drainOn_empty {s : State} (h : s.held.entries = []) :
    s.drainOn = s.setCustody { state := .home, cursor := none, discard := false, wake := false } := by
  simp [State.drainOn, h, State.reachHome]

/-- QUIESCE goes on while an answer waits or a frame of the part is carried (R57). -/
theorem State.endQuiesce_goes_on {s : State} (h : s.tx.answers ≠ [] ∨ s.tx.carriesOwn = true) : s.endQuiesce = s := by
  unfold State.endQuiesce
  refine if_neg ?_
  rintro ⟨-, hanswers, hcarried⟩
  rcases h with h | h
  · exact h hanswers
  · rw [hcarried] at h; cases h

/-- QUIESCE ends with nothing left to send (R57). -/
theorem State.endQuiesce_ends {s : State} (hq : s.custody.state = .quiesce) (ha : s.tx.answers = [])
    (hc : s.tx.carriesOwn = false) : s.endQuiesce = s.quiesceEnds := by
  unfold State.endQuiesce
  rw [if_pos ⟨hq, ha, hc⟩]
  unfold State.drainOn State.quiesceEnds State.feedStation
  cases hheld : s.held.entries <;> simp [hheld, State.reachHome]

theorem State.quiesceEnds_empty {s : State} (h : s.held.entries = []) :
    s.quiesceEnds = s.setCustody { state := .home, cursor := none, discard := false, wake := false } := by
  simp [State.quiesceEnds, h]

theorem State.quiesceEnds_held {s : State} {e : HeldEntry} {rest : List HeldEntry} (h : s.held.entries = e :: rest) :
    s.quiesceEnds = (s.setCustody { s.custody with state := .drain }).setStn
      (if s.pins.stnRdy = true ∧ s.stn.delivering = none ∧ s.stn.waiting = none
        then { s.stn with delivering := some (.heldHead e.frame) } else s.stn) := by
  unfold State.quiesceEnds
  rw [h]
  dsimp only
  split <;> rfl

/-! ## The ports stand apart from custody -/

theorem State.takeReclaim_setPorts (s : State) (x : Ports) :
    (s.setPorts x).takeReclaim = s.takeReclaim.setPorts x := by
  rw [State.takeReclaim_eq, State.takeReclaim_eq]; rfl

theorem State.endQuiesce_setPorts (s : State) (x : Ports) :
    (s.setPorts x).endQuiesce = s.endQuiesce.setPorts x := by
  have hfeed : ∀ u : State, (u.setPorts x).feedStation = u.feedStation.setPorts x := fun u => by
    by_cases h : u.custody.state = .drain ∧ u.pins.stnRdy = true ∧ u.stn.delivering = none ∧ u.stn.waiting = none
    · rw [State.feedStation, if_pos (by exact h), State.feedStation, if_pos h, State.setPorts_held]
      cases u.held.entries <;> rfl
    · rw [State.feedStation, if_neg (by exact h), State.feedStation, if_neg h]
  have hdrain : ∀ u : State, (u.setPorts x).drainOn = u.drainOn.setPorts x := fun u => by
    unfold State.drainOn
    simp only [State.setPorts_held]
    split
    · rfl
    · exact hfeed u
  unfold State.endQuiesce
  by_cases h : s.custody.state = .quiesce ∧ s.tx.answers = [] ∧ s.tx.carriesOwn = false
  · rw [if_pos h, if_pos (by exact h)]; exact hdrain (s.setCustody { s.custody with state := .drain })
  · rw [if_neg h, if_neg (by exact h)]

/-! ## Discard mode (R56, R163) -/

/-- Discard mode taken, block by block (R56, R163). -/
theorem State.takeDiscard_eq (s : State) :
    s.takeDiscard = { s with
      custody := { s.custody with discard := true }
      held := if s.held.entries = [] then s.held else { entries := [], fullLatch := false }
      counters := { s.counters with
        heldDiscards := bump32By s.counters.heldDiscards (s.held.entries.length - s.stn.headsUnderWay) }
      stn := s.stn.detached } := by
  unfold State.takeDiscard State.discardHeld
  dsimp only
  cases hheld : s.held.entries with
  | nil => simp only [State.setCustody_held, hheld, List.length_nil, Nat.zero_sub, bump32By, if_true]; rfl
  | cons e rest => simp only [State.setCustody_held, hheld]; rfl

theorem State.takeDiscard_setPorts (s : State) (x : Ports) : (s.setPorts x).takeDiscard = s.takeDiscard.setPorts x := by
  rw [State.takeDiscard_eq, State.takeDiscard_eq]; rfl

/-! ## The requests that reach a reclaim or a recall -/

section Requests
variable {s : State}

/-- A RECLAIM is answered with what its owner gives (R53). -/
theorem exec_reclaim {payload : List Byte} {t : State} {r : Response} (hr : s.readyFor .system .reclaim)
    (hlen : payload.length ≤ 1024) (ht : (s.working .system).serveReclaim .system payload = (t, r)) :
    exec (.reclaim .system payload) s = .next (t.respond .system r) := by
  have hserve : (s.working .system).serve .system .reclaim payload = (t, some r) := congrArg answered ht
  exact congrArg Host.Outcome.next (State.receive_answered hr hlen hserve)

/-- A RECLAIM of a lent table (R53, R55). -/
theorem exec_reclaim_lent (hr : s.readyFor .system .reclaim) (hl : s.custody.state.lent = true) :
    exec (.reclaim .system []) s =
      .next (s.takeReclaim.endQuiesce.setPorts (s.answered .system { result := .accepted, payload := [] }).ports) := by
  have hl' : (s.working .system).custody.state.lent = true := by simpa using hl
  have hworking : s.working .system = s.setPorts (s.working .system).ports := rfl
  rw [exec_reclaim hr (by simp) (State.serveReclaim_accepted hl'), hworking, State.takeReclaim_setPorts,
    State.endQuiesce_setPorts]
  generalize s.takeReclaim.endQuiesce = u
  rfl

/-- A RECALL that passes its tests is answered with what its custody state gives (R54). -/
theorem exec_recall {payload : List Byte} {discard : Bool} {t : State} {r : Response} (hr : s.readyFor .platform .recall)
    (hp : (s.working .platform).serveRecall .platform payload = (s.working .platform).takeRecall discard)
    (hlen : payload.length ≤ 1024) (ht : (s.working .platform).takeRecall discard = (t, r)) :
    exec (.recall .platform payload) s = .next (t.respond .platform r) := by
  have hserve : (s.working .platform).serve .platform .recall payload = (t, some r) :=
    congrArg answered (hp.trans ht)
  exact congrArg Host.Outcome.next (State.receive_answered hr hlen hserve)

end Requests

/-- The test of QUIESCE's end changes custody and the station path alone. -/
theorem State.endQuiesce_blocks (s : State) :
    s.endQuiesce = (s.setCustody s.endQuiesce.custody).setStn s.endQuiesce.stn := by
  unfold State.endQuiesce
  split
  · unfold State.drainOn
    split
    · rfl
    · unfold State.feedStation
      split
      · split <;> rfl
      · rfl
  · rfl

/-! ## A recall by custody state (R54, R56) -/

section Recall
variable {s : State}

theorem State.takeRecall_checking (h : s.custody.state = .checking) (discard : Bool) :
    s.takeRecall discard =
      ((s.setCustody { s.custody with state := .home, cursor := none }).respond .system (.bare .cancelled), .bare .done) := by
  simp [State.takeRecall, h]

theorem State.takeRecall_keep_lent (h : s.custody.state.lent = true) :
    s.takeRecall false = (s.takeReclaim.endQuiesce, .bare .accepted) := by
  rcases (Custody.lent_iff _).1 h with h | h <;> simp [State.takeRecall, h]

theorem State.takeRecall_discard_lent (h : s.custody.state.lent = true) :
    s.takeRecall true = (s.takeReclaim.takeDiscard.endQuiesce, .bare .accepted) := by
  rcases (Custody.lent_iff _).1 h with h | h <;> simp [State.takeRecall, h]

theorem State.takeRecall_keep_returning (h : s.custody.state = .quiesce ∨ s.custody.state = .drain) :
    s.takeRecall false = (s, .bare .done) := by
  rcases h with h | h <;> simp [State.takeRecall, h]

theorem State.takeRecall_discard_quiesce (h : s.custody.state = .quiesce) :
    s.takeRecall true = (s.takeDiscard, .bare .done) := by
  simp [State.takeRecall, h]

/-- DRAIN ends in the taking that empties the held queue (R56, R58). -/
theorem State.takeRecall_discard_drain (h : s.custody.state = .drain) :
    s.takeRecall true =
      (s.takeDiscard.setCustody { state := .home, cursor := none, discard := false, wake := false }, .bare .done) := by
  simp [State.takeRecall, h, State.drainOn_empty s.takeDiscard_tx.2]

/-- A RECALL with discard of a lent table ends QUIESCE in HOME where nothing is left to send (R56, R57, R59). -/
theorem State.takeReclaim_takeDiscard_endQuiesce (s : State) :
    s.takeReclaim.takeDiscard.endQuiesce = s.takeReclaim.takeDiscard.setCustody
      (if s.tx.answers ≠ [] ∨ s.tx.carriesOwn = true then { s.custody with state := .quiesce, discard := true }
      else { state := .home, cursor := none, discard := false, wake := false }) := by
  have hcustody : s.takeReclaim.takeDiscard.custody = { s.custody with state := .quiesce, discard := true } := by simp
  obtain ⟨hanswers, hcarried, -, -⟩ := s.takeReclaim_reads
  have htx : s.takeReclaim.takeDiscard.tx = s.takeReclaim.tx := s.takeReclaim.takeDiscard_tx.1
  by_cases hsend : s.tx.answers ≠ [] ∨ s.tx.carriesOwn = true
  · rw [if_pos hsend, ← hcustody, State.endQuiesce_goes_on (by rw [htx, hanswers, hcarried]; exact hsend)]
    exact (State.setCustody_self _).symm
  · obtain ⟨ha, hc⟩ : s.tx.answers = [] ∧ s.tx.carriesOwn = false := by simpa using hsend
    rw [if_neg hsend, State.endQuiesce_ends (by rw [hcustody]) (by rw [htx, hanswers, ha]) (by rw [htx, hcarried, hc]),
      State.quiesceEnds_empty s.takeReclaim.takeDiscard_tx.2]

/-- A RECALL without discard of a lent table is a RECLAIM answered on the platform port (R54, R55). -/
theorem exec_recall_keep_lent (hr : s.readyFor .platform .recall) (hl : s.custody.state.lent = true) :
    exec (.recall .platform [0]) s =
      .next (s.takeReclaim.endQuiesce.setPorts (s.answered .platform { result := .accepted, payload := [] }).ports) := by
  have hl' : (s.working .platform).custody.state.lent = true := by simpa using hl
  have hh : (s.working .platform).custody.state ≠ .home := fun h => by rw [h] at hl'; cases hl'
  have hworking : s.working .platform = s.setPorts (s.working .platform).ports := rfl
  rw [exec_recall hr (State.serveRecall_keep hh) (by simp) (State.takeRecall_keep_lent hl'), hworking,
    State.takeReclaim_setPorts, State.endQuiesce_setPorts]
  generalize s.takeReclaim.endQuiesce = u
  rfl

/-- A RECALL with discard of a lent table (R54, R55, R56). -/
theorem exec_recall_discard_lent (hr : s.readyFor .platform .recall) (hl : s.custody.state.lent = true) :
    exec (.recall .platform [1]) s = .next ((s.takeReclaim.takeDiscard.setCustody
      (if s.tx.answers ≠ [] ∨ s.tx.carriesOwn = true then { s.custody with state := .quiesce, discard := true }
      else { state := .home, cursor := none, discard := false, wake := false })).setPorts
        (s.answered .platform { result := .accepted, payload := [] }).ports) := by
  have hl' : (s.working .platform).custody.state.lent = true := by simpa using hl
  have hh : (s.working .platform).custody.state ≠ .home := fun h => by rw [h] at hl'; cases hl'
  have hworking : s.working .platform = s.setPorts (s.working .platform).ports := rfl
  rw [exec_recall hr (State.serveRecall_discard hh) (by simp) (State.takeRecall_discard_lent hl'),
    State.takeReclaim_takeDiscard_endQuiesce, hworking, State.takeReclaim_setPorts, State.takeDiscard_setPorts]
  generalize s.takeReclaim.takeDiscard = u
  rfl

end Recall

end Sys2Proof.Machine

open Sys2Proof Sys2Proof.Machine

/-- Settles O22: the reclaim block by block, then the test of QUIESCE's end, which decides custody and the station path. -/
theorem reclaimStopsTheEngines : Obligations.ReclaimStopsTheEngines := by
  intro s hr hl
  obtain ⟨hanswers, hcarried, hstn, hpins⟩ := s.takeReclaim_reads
  have hheld' : s.takeReclaim.held = s.held := s.takeReclaim_tx.2
  have hcustody : s.takeReclaim.custody = { s.custody with state := .quiesce } := s.takeReclaim_custody
  have hends : s.tx.answers = [] → s.tx.carriesOwn = false → s.takeReclaim.endQuiesce = s.takeReclaim.quiesceEnds :=
    fun ha hc => State.endQuiesce_ends (by rw [hcustody]) (hanswers.trans ha) (hcarried.trans hc)
  refine ⟨_, exec_reclaim_lent hr hl, ?_, fun hsend => ?_, fun ha hc hheld => ?_, fun e rest ha hc hheld => ?_, fun i => ?_⟩
  · obtain ⟨c, p, hblocks⟩ : ∃ c p, s.takeReclaim.endQuiesce = (s.takeReclaim.setCustody c).setStn p :=
      ⟨_, _, s.takeReclaim.endQuiesce_blocks⟩
    rw [hblocks, State.takeReclaim_eq]
    generalize s.slotsOfReclaim slotIndices = slots
    rfl
  · rw [State.endQuiesce_goes_on (by rw [hanswers, hcarried]; exact hsend)]
    exact ⟨(State.setPorts_custody _ _).trans hcustody, (State.setPorts_stn _ _).trans hstn⟩
  · rw [hends ha hc, State.quiesceEnds_empty (by rw [hheld', hheld])]
    simp [hstn]
  · rw [hends ha hc, State.quiesceEnds_held (by rw [hheld', hheld]), hstn, hpins, hcustody]
    simp
  · have hslot : (s.takeReclaim.endQuiesce.setPorts (s.answered .system { result := .accepted, payload := [] }).ports).slot i =
        (s.slot i).map Record.reclaimed := by
      rw [State.endQuiesce_blocks, State.takeReclaim_eq]
      exact s.slot_slotsOfReclaim i
    rw [hslot]
    refine ⟨fun c h => by rw [h]; rfl, fun x h => by rw [h]; rfl, fun x h => by rw [h]; rfl, fun hc hx hy => ?_⟩
    cases h : s.slot i with
    | none => rfl
    | some r =>
      cases r with
      | claim c => exact absurd h (hc c)
      | stream x => exact absurd h (hx x)
      | exchange x => exact absurd h (hy x)
      | responder _ | filter _ => rfl

/-- Settles O23: each custody state has its equation of the recall, and in a lending the reclaim's own next state stands apart from the
ports. -/
theorem recallActsByCustody : Obligations.RecallActsByCustody := by
  intro s hr emptied discarded accepted idlePort
  have hcus : (s.working .platform).custody = s.custody := by simp
  have hstate : (s.working .platform).custody.state = s.custody.state := by rw [hcus]
  have hworking : s.working .platform = s.setPorts (s.working .platform).ports := rfl
  have hkeep : s.custody.state ≠ .home → ∀ {t : State} {r : Response},
      (s.working .platform).takeRecall false = (t, r) → exec (.recall .platform [0]) s = .next (t.respond .platform r) :=
    fun hh => exec_recall hr (State.serveRecall_keep (by rw [hstate]; exact hh)) (by simp)
  have hdiscard : s.custody.state ≠ .home → ∀ {t : State} {r : Response},
      (s.working .platform).takeRecall true = (t, r) → exec (.recall .platform [1]) s = .next (t.respond .platform r) :=
    fun hh => exec_recall hr (State.serveRecall_discard (by rw [hstate]; exact hh)) (by simp)
  have hready : idlePort.readyFor .system .reclaim := by
    obtain ⟨hrun, hact, -, hload⟩ := hr
    have hslot : (idlePort.port .system).slot ≠ .working := by
      rw [State.port_setPort, if_pos rfl]; exact nofun
    exact ⟨hrun, hact, hslot, .inl (hload.resolve_right (by decide))⟩
  have hreclaim : s.custody.state.lent = true → exec (.reclaim .system []) idlePort =
      .next (s.takeReclaim.endQuiesce.setPorts (idlePort.answered .system { result := .accepted, payload := [] }).ports) :=
    fun hl => by
    have hidle : idlePort = s.setPorts idlePort.ports := rfl
    have hmoved : idlePort.takeReclaim.endQuiesce = s.takeReclaim.endQuiesce.setPorts idlePort.ports := by
      rw [hidle, State.takeReclaim_setPorts, State.endQuiesce_setPorts, ← hidle]
    rw [exec_reclaim_lent hready hl, hmoved, State.setPorts_setPorts]
  refine ⟨fun hc option hoption => ?_, fun hc => ?_, fun hl => ⟨hready, _, hreclaim hl, ?_, ?_⟩, fun hc => ?_, fun hc => ?_⟩
  · have hh : s.custody.state ≠ .home := by rw [hc]; decide
    rcases hoption with rfl | rfl
    · rw [hkeep hh (State.takeRecall_checking (hstate.trans hc) false), hcus]; rfl
    · rw [hdiscard hh (State.takeRecall_checking (hstate.trans hc) true), hcus]; rfl
  · have hh : s.custody.state ≠ .home := by rcases hc with hc | hc <;> rw [hc] <;> decide
    rw [hkeep hh (State.takeRecall_keep_returning (by rw [hstate]; exact hc)), State.working_respond]
    rfl
  · rw [exec_recall_keep_lent hr hl]
    generalize s.takeReclaim.endQuiesce = u
    rfl
  · obtain ⟨c, p, hblocks⟩ : ∃ c p, s.takeReclaim.endQuiesce = (s.takeReclaim.setCustody c).setStn p :=
      ⟨_, _, s.takeReclaim.endQuiesce_blocks⟩
    rw [exec_recall_discard_lent hr hl, hblocks, State.takeDiscard_eq, State.takeReclaim_eq]
    generalize s.slotsOfReclaim slotIndices = slots, s.changesOfReclaim slotIndices = changes
    rfl
  · have hh : s.custody.state ≠ .home := by rw [hc]; decide
    rw [hdiscard hh (State.takeRecall_discard_quiesce (hstate.trans hc)), hworking, State.takeDiscard_setPorts,
      State.takeDiscard_eq]
    rfl
  · have hh : s.custody.state ≠ .home := by rw [hc]; decide
    rw [hdiscard hh (State.takeRecall_discard_drain (hstate.trans hc)), hworking, State.takeDiscard_setPorts,
      State.takeDiscard_eq]
    rfl

end

section
/-! SUPPORT. The capacities of the queues, buffers and lists, block by block, and the operations that keep them (R64, R151,
R152, R156, R161, R167, R174). -/

namespace Sys2Proof.Machine

/-! ## The capacities, block by block -/

/-- The answer queue and the own-traffic queue with its kept place lie within their capacities, and no slot has two items
(R151, R152). -/
def Transmitter.Within (x : Transmitter) : Prop :=
  x.answers.length ≤ Config.answerPlaces ∧ x.own.length + x.keptPlaces ≤ Config.ownPlaces ∧
    (x.own.map OwnItem.slot).Nodup

/-- The held queue lies within its frames and its bytes (R161). -/
def HeldQueue.Within (x : HeldQueue) : Prop :=
  x.entries.length ≤ Config.heldFrames ∧ heldTotal x.entries ≤ Config.heldBytes

/-- The cause list lies within its places, and no slot has two change records (R167, R174). -/
def ConditionUnit.Within (x : ConditionUnit) : Prop :=
  x.report.causes.length ≤ Config.causePlaces ∧ (x.changes.map ChangeRecord.slot).Nodup

/-- The staging buffer lies within its bytes (R64). -/
def Classifier.Within (x : Classifier) : Prop := x.used ≤ Config.stagingBytes

/-- The station buffer lies within its places (R156). -/
def StationPath.Within (x : StationPath) : Prop := x.used ≤ Config.stationPlaces

/-- Every queue, buffer and list lies within its capacity, and the lists that name slots name none twice. -/
def State.Within (s : State) : Prop :=
  s.tx.Within ∧ s.held.Within ∧ s.cond.Within ∧ s.rx.Within ∧ s.stn.Within

theorem State.within_iff (s : State) : s.Within ↔ s.queuesWithin ∧ s.changesDistinct := by
  constructor
  · rintro ⟨⟨ha, ho, hn⟩, ⟨hh, hb⟩, ⟨hc, hd⟩, hr, hs⟩
    exact ⟨⟨ha, ho, hn, hh, hb, hc, hr, hs⟩, hd⟩
  · rintro ⟨⟨ha, ho, hn, hh, hb, hc, hr, hs⟩, hd⟩
    exact ⟨⟨ha, ho, hn⟩, ⟨hh, hb⟩, ⟨hc, hd⟩, hr, hs⟩

section Blocks
variable {s : State}

theorem State.Within.tx (h : s.Within) : s.tx.Within := h.1
theorem State.Within.held (h : s.Within) : s.held.Within := h.2.1
theorem State.Within.cond (h : s.Within) : s.cond.Within := h.2.2.1
theorem State.Within.rx (h : s.Within) : s.rx.Within := h.2.2.2.1
theorem State.Within.stn (h : s.Within) : s.stn.Within := h.2.2.2.2

/-! The blocks that hold no queue. -/

@[simp] theorem State.within_setClk {x : ClockUnit} : (s.setClk x).Within ↔ s.Within := Iff.rfl
@[simp] theorem State.within_setPins {x : Pins} : (s.setPins x).Within ↔ s.Within := Iff.rfl
@[simp] theorem State.within_setPorts {x : Ports} : (s.setPorts x).Within ↔ s.Within := Iff.rfl
@[simp] theorem State.within_setStore {x : StoreUnit} : (s.setStore x).Within ↔ s.Within := Iff.rfl
@[simp] theorem State.within_setTable {x : Table} : (s.setTable x).Within ↔ s.Within := Iff.rfl
@[simp] theorem State.within_setPool {x : List Host.Cell} : (s.setPool x).Within ↔ s.Within := Iff.rfl
@[simp] theorem State.within_setCustody {x : CustodyUnit} : (s.setCustody x).Within ↔ s.Within := Iff.rfl
@[simp] theorem State.within_setPolicy {x : Policy} : (s.setPolicy x).Within ↔ s.Within := Iff.rfl
@[simp] theorem State.within_setGuard {x : FloodGuard} : (s.setGuard x).Within ↔ s.Within := Iff.rfl
@[simp] theorem State.within_setCounters {x : Counters} : (s.setCounters x).Within ↔ s.Within := Iff.rfl
@[simp] theorem State.within_setDraws {x : Nat} : (s.setDraws x).Within ↔ s.Within := Iff.rfl
@[simp] theorem State.within_setSlot {i : SlotIx} {r : Option Record} : (s.setSlot i r).Within ↔ s.Within := Iff.rfl
@[simp] theorem State.within_count {f : Counters → Counters} : (s.count f).Within ↔ s.Within := Iff.rfl

@[simp] theorem State.within_setPort {p : Port} {u : PortUnit} : (s.setPort p u).Within ↔ s.Within := by
  cases p <;> rfl

@[simp] theorem State.within_respond {p : Port} {r : Response} : (s.respond p r).Within ↔ s.Within :=
  State.within_setPort

/-! The blocks that hold them. -/

theorem State.within_setTx {x : Transmitter} (h : s.Within) (hx : x.Within) : (s.setTx x).Within := ⟨hx, h.2⟩

theorem State.within_setHeld {x : HeldQueue} (h : s.Within) (hx : x.Within) : (s.setHeld x).Within :=
  ⟨h.tx, hx, h.cond, h.rx, h.stn⟩

theorem State.within_setCond {x : ConditionUnit} (h : s.Within) (hx : x.Within) : (s.setCond x).Within :=
  ⟨h.tx, h.held, hx, h.rx, h.stn⟩

theorem State.within_setRx {x : Classifier} (h : s.Within) (hx : x.Within) : (s.setRx x).Within :=
  ⟨h.tx, h.held, h.cond, hx, h.stn⟩

theorem State.within_setStn {x : StationPath} (h : s.Within) (hx : x.Within) : (s.setStn x).Within :=
  ⟨h.tx, h.held, h.cond, h.rx, hx⟩

theorem within_ite {c : Prop} [Decidable c] {u v : State} (hu : u.Within) (hv : v.Within) :
    (if c then u else v).Within := by
  split
  · exact hu
  · exact hv

/-- A run over a list keeps the capacities where each of its steps does. -/
theorem within_foldl {α : Type} {f : State → α → State} (hf : ∀ s a, s.Within → (f s a).Within) (l : List α)
    (h : s.Within) : (l.foldl f s).Within :=
  List.foldlRecOn l f h fun u hu a _ => hf u a hu

/-- A command's effect keeps the capacities whether or not it is taken. -/
theorem within_takeIf {b : Bool} {effect : State → State} (h : s.Within) (he : (effect s).Within) :
    (s.takeIf b effect).Within := by
  unfold State.takeIf
  split
  · exact he
  · exact h

/-- What comes is taken with the capacities kept, or waits (R184). -/
theorem within_takeOrDefer {w : Waiting} {take : State → State} (h : s.Within) (ht : (take s).Within) :
    (s.takeOrDefer w take).Within := by
  unfold State.takeOrDefer
  split
  · exact ht
  · exact h

end Blocks

/-! ## Shared operations -/

section Ops
variable {s : State}

/-! ### The condition unit (R166 to R169, R174) -/

@[simp] theorem State.within_report (h : s.Within) (i : SlotIx) (m : BitVec 8) : (s.report i m).Within := by
  unfold State.report
  split
  · exact h
  · refine State.within_setCond h ⟨h.cond.1, ?_⟩
    have hdistinct := h.cond.2
    rw [addChange_slots]
    split
    · exact hdistinct
    · next hnew => exact List.nodup_append.2 ⟨hdistinct, by simp, by rintro a ha b hb rfl; exact hnew (by simp_all)⟩

@[simp] theorem State.within_retainCondition (h : s.Within) (c : ConditionClass) (i : Option SlotIx) :
    (s.retainCondition c i).Within := by
  have hcauses : ∀ r : WakeReport, r.causes.length ≤ Config.causePlaces →
      (s.setCond { s.cond with report := r }).Within := fun r hr => State.within_setCond h ⟨hr, h.cond.2⟩
  have hretained : (s.setCond { s.cond with report :=
      if s.cond.report.causes.length < Config.causePlaces then
        { s.cond.report with causes := s.cond.report.causes ++ [⟨c, i, s.clk.partTime⟩] }
      else { s.cond.report with further := bump32 s.cond.report.further } }).Within := by
    split
    · next hroom => exact hcauses _ (by simpa using hroom)
    · exact hcauses _ h.cond.1
  unfold State.retainCondition
  cases i with
  | none => exact hretained
  | some i => exact State.within_report hretained i markState

@[simp] theorem State.within_rouseFor (h : s.Within) (c : ConditionClass) (i : Option SlotIx) :
    (s.rouseFor c i).Within := by
  unfold State.rouseFor
  split
  · exact State.within_setCond h h.cond
  · exact h

@[simp] theorem State.within_notifyOf (h : s.Within) (c : ConditionClass) :
    (s.notifyOf c).Within := State.within_setCond h h.cond

@[simp] theorem State.within_raise (h : s.Within) (c : ConditionClass) (i : Option SlotIx) : (s.raise c i).Within := by
  unfold State.raise
  dsimp only
  have hretained := within_ite (c := flagAt s.policy.retain c.code = true) (State.within_retainCondition h c i) h
  generalize (if flagAt s.policy.retain c.code = true then s.retainCondition c i else s) = s1 at hretained ⊢
  have hroused := within_ite (c := flagAt s1.policy.rouse c.code = true) (State.within_rouseFor hretained c i) hretained
  exact within_ite (State.within_notifyOf hroused c) hroused

/-! ### The held queue (R161, R162) -/

@[simp] theorem State.within_offerHeld (h : s.Within) (f : Frame) (c : Option (ConditionClass × SlotIx)) :
    (s.offerHeld f c).Within := by
  unfold State.offerHeld
  dsimp only
  split
  · next hroom =>
    obtain ⟨hframes, hbytes⟩ : s.held.entries.length < Config.heldFrames ∧
        heldTotal s.held.entries + f.bytes.length ≤ Config.heldBytes := by simpa [heldHasRoom] using hroom
    exact State.within_setHeld h ⟨by simpa using hframes, by simpa [heldTotal] using hbytes⟩
  · split
    · simp [h]
    · refine State.within_raise (State.within_setHeld ?_ ?_) _ _
      · exact State.within_count.2 h
      · exact h.held

@[simp] theorem State.within_holdFor (h : s.Within) (f : Frame) (c : ConditionClass) (i : SlotIx) :
    (s.holdFor f c i).Within := by
  simp [State.holdFor, h]

@[simp] theorem State.within_discardHeld (h : s.Within) : s.discardHeld.Within := by
  unfold State.discardHeld
  split
  · exact h
  · exact State.within_setHeld (State.within_count.2 h) ⟨Nat.zero_le _, Nat.zero_le _⟩

/-! ### The own-traffic queue and the answers (R151, R152) -/

/-- An item finds its slot's item queued and goes, or joins a queue with room. -/
theorem State.within_pushItem (h : s.Within) {item : OwnItem} (hroom : s.hasItem item.slot = true ∨ s.ownRoom = true) :
    (s.pushItem item).Within := by
  obtain ⟨hanswers, -, hnodup⟩ := h.tx
  unfold State.pushItem
  split
  · exact h
  · next hfree =>
    have hplace : s.tx.own.length + s.tx.keptPlaces < Config.ownPlaces := by
      simpa [State.ownRoom, hfree] using hroom
    have hnew : item.slot ∉ s.tx.own.map OwnItem.slot := by simpa [State.hasItem] using hfree
    refine State.within_setTx h ⟨hanswers, ?_, ?_⟩
    · have hkept : Transmitter.keptPlaces { s.tx with own := s.tx.own ++ [item] } = s.tx.keptPlaces := rfl
      rw [List.length_append, hkept]
      simp only [List.length_singleton]
      omega
    · simpa [List.nodup_append, hnodup] using hnew

@[simp] theorem State.within_withdrawItem (h : s.Within) (i : SlotIx) : (s.withdrawItem i).Within := by
  obtain ⟨hanswers, hown, hnodup⟩ := h.tx
  have hless := List.length_filter_le (fun it : OwnItem => decide (it.slot ≠ i)) s.tx.own
  exact State.within_setTx h ⟨hanswers, (Nat.add_le_add_right hless _).trans hown,
    hnodup.sublist (List.filter_sublist.map _)⟩

@[simp] theorem State.within_answerWith (h : s.Within) (i : SlotIx) (g : AnswerOrigin) (r : Record) (t : Template)
    (b : List Byte) : (s.answerWith i g r t b).Within := by
  unfold State.answerWith
  split
  · next hroom =>
    have hplace : s.tx.answers.length < Config.answerPlaces := by
      simp only [State.answerRoom, Bool.and_eq_true, decide_eq_true_eq] at hroom
      exact hroom.2
    exact State.within_setTx h ⟨by simpa using hplace, h.tx.2⟩
  · exact h

@[simp] theorem State.within_purgeAnswers (h : s.Within) (i : SlotIx) : (s.purgeAnswers i).Within :=
  State.within_count.2 (State.within_setTx h ⟨(List.length_filter_le _ _).trans h.tx.1, h.tx.2⟩)

/-! ### The station output and what comes in (R58, R163, R184) -/

@[simp] theorem State.within_feedStation (h : s.Within) : s.feedStation.Within := by
  unfold State.feedStation
  split
  · split
    · exact h
    · exact State.within_setStn h h.stn
  · exact h

@[simp] theorem State.within_wake (h : s.Within) : s.wake.Within := by
  unfold State.wake; split <;> exact h

@[simp] theorem State.within_defer (h : s.Within) (w : Waiting) : (s.defer w).Within := h

/-! ### Records written by their engines -/

@[simp] theorem State.within_putClaim (h : s.Within) (i : SlotIx) (a b : Claim) : (s.putClaim i a b).Within := by
  simp [State.putClaim, h]

@[simp] theorem State.within_putResponder (h : s.Within) (i : SlotIx) (a b : Responder) :
    (s.putResponder i a b).Within := by
  simp [State.putResponder, h]

@[simp] theorem State.within_putFilter (h : s.Within) (i : SlotIx) (a b : Filter) : (s.putFilter i a b).Within := by
  simp [State.putFilter, h]

@[simp] theorem State.within_putStream (h : s.Within) (i : SlotIx) (a b : Stream) (m : BitVec 8) :
    (s.putStream i a b m).Within := by
  simp [State.putStream, h]

@[simp] theorem State.within_putExchange (h : s.Within) (i : SlotIx) (a b : Exchange) (m : BitVec 8) :
    (s.putExchange i a b m).Within := by
  simp [State.putExchange, h]

/-! ### Items placed (R88, R120, R133, R152) -/

@[simp] theorem State.within_wantClaimItem (h : s.Within) (i : SlotIx) (c : Claim) (p : Purpose) :
    (s.wantClaimItem i c p).Within := by
  unfold State.wantClaimItem
  split
  · exact h
  · split
    · next hroom => exact State.within_pushItem h (.inr hroom)
    · exact h

@[simp] theorem State.within_placeStreamItem (h : s.Within) (i : SlotIx) (t : Stream) :
    (s.placeStreamItem i t).Within := by
  unfold State.placeStreamItem
  split
  · next hroom =>
    simp only [Bool.and_eq_true, Bool.or_eq_true] at hroom
    exact State.within_pushItem h hroom.2
  · exact h

@[simp] theorem State.within_placeExchangeItem (h : s.Within) (i : SlotIx) (x : Exchange) :
    (s.placeExchangeItem i x).Within := by
  unfold State.placeExchangeItem
  split
  · next hroom =>
    simp only [Bool.and_eq_true, Bool.or_eq_true] at hroom
    exact State.within_pushItem h hroom.2
  · exact h

/-- An item due is placed where it can be. -/
theorem State.within_setSlot_pushItem (h : s.Within) {i : SlotIx} {r : Option Record} {item : OwnItem}
    (hplace : s.canPlace i = true) : ((s.setSlot i r).pushItem item).Within := by
  simp only [State.canPlace, Bool.and_eq_true] at hplace
  exact State.within_pushItem (State.within_setSlot.2 h) (.inr hplace.2)

@[simp] theorem State.within_placeClaimDue (h : s.Within) (i : SlotIx) (c : Claim) : (s.placeClaimDue i c).Within := by
  unfold State.placeClaimDue
  split
  · exact h
  · split
    · next hplace => exact State.within_setSlot_pushItem h hplace
    · exact h

@[simp] theorem State.within_placeStreamDue (h : s.Within) (i : SlotIx) (t : Stream) :
    (s.placeStreamDue i t).Within := by
  unfold State.placeStreamDue
  split
  · next hdue =>
    simp only [Bool.and_eq_true] at hdue
    exact State.within_setSlot_pushItem h hdue.2
  · exact h

@[simp] theorem State.within_placeExchangeDue (h : s.Within) (i : SlotIx) (x : Exchange) :
    (s.placeExchangeDue i x).Within := by
  unfold State.placeExchangeDue
  split
  · next hdue =>
    simp only [Bool.and_eq_true] at hdue
    exact State.within_setSlot_pushItem h hdue.2
  · exact h

end Ops

theorem State.within_placeDueOne (s : State) (i : SlotIx) (h : s.Within) : (s.placeDueOne i).Within := by
  unfold State.placeDueOne; split <;> simp [h]

end Sys2Proof.Machine
end

section
/-! SUPPORT. The engines, the takings of line frames, the transmitter, the link and the station path keep the capacities of
the queues, buffers and lists (R64, R151, R152, R156, R161, R167, R174). -/

namespace Sys2Proof.Machine

/-! ## Engines -/

section Engines
variable {s : State}

@[simp] theorem State.within_countDemand (h : s.Within) : s.countDemand.Within := by
  unfold State.countDemand; split <;> exact h

/-! ### Claims -/

@[simp] theorem State.within_endStream (h : s.Within) (i : SlotIx) (a b : Stream) (m : BitVec 8) :
    (s.endStream i a b m).Within := by
  simp [State.endStream, h]

theorem State.within_endLinkedStream (claim : SlotIx) (s : State) (j : SlotIx) (h : s.Within) :
    (s.endLinkedStream claim j).Within := by
  unfold State.endLinkedStream
  split
  · exact h
  · exact within_ite (State.within_raise (State.within_endStream h _ _ _ _) _ _) h

@[simp] theorem State.within_loseClaim (h : s.Within) (i : SlotIx) (a c : Claim) : (s.loseClaim i a c).Within :=
  within_foldl (State.within_endLinkedStream i) _
    (State.within_purgeAnswers (State.within_raise (State.within_withdrawItem (State.within_putClaim h _ _ _) _) _ _) _)

theorem State.within_loseLinkedClaim (x : SlotIx) (s : State) (j : SlotIx) (h : s.Within) :
    (s.loseLinkedClaim x j).Within := by
  unfold State.loseLinkedClaim
  split
  · exact h
  · split <;> simp [h]

theorem State.within_conflictFor (h : s.Within) (i : SlotIx) (c : Claim) : (s.conflictFor i c).Within := by
  unfold State.conflictFor
  cases c.state with
  | held =>
    have hdefended := State.within_putClaim h i c
    exact State.within_raise (within_ite (State.within_wantClaimItem (hdefended _) _ _ _) (hdefended _)) _ _
  | contested | probing => exact State.within_loseClaim h _ _ _
  | lost => exact h

@[simp] theorem State.within_claimProbeSent (h : s.Within) (i : SlotIx) : (s.claimProbeSent i).Within := by
  unfold State.claimProbeSent
  split
  · exact h
  · split
    · dsimp only; split <;> simp [h]
    · exact h

theorem State.within_takeProbeSpacing (h : s.Within) (i : SlotIx) : (s.takeProbeSpacing i).Within := by
  unfold State.takeProbeSpacing
  split
  · exact h
  · split
    · refine within_takeIf h ?_
      dsimp only
      split <;> simp [h]
    · exact h

theorem State.within_takeDefenceWindow (h : s.Within) (i : SlotIx) : (s.takeDefenceWindow i).Within := by
  unfold State.takeDefenceWindow
  split
  · exact h
  · split
    · exact within_takeIf h (by simp [h])
    · exact h

theorem State.within_dropClaimOne (s : State) (i : SlotIx) (h : s.Within) : (s.dropClaimOne i).Within := by
  unfold State.dropClaimOne
  split
  · exact h
  · split <;> simp [h]

@[simp] theorem asProbe_slot (i : SlotIx) (item : OwnItem) : (asProbe i item).slot = item.slot := by
  cases item with
  | claim j p => by_cases hj : j = i <;> simp [asProbe, hj, OwnItem.slot]
  | stream j | exchange j => rfl

/-- A queued item that becomes a probe keeps its place and its slot (R92). -/
theorem State.within_asProbe (h : s.Within) (i : SlotIx) :
    (s.setTx { s.tx with own := s.tx.own.map (asProbe i) }).Within := by
  obtain ⟨hanswers, hown, hnodup⟩ := h.tx
  have hslots : (s.tx.own.map (asProbe i)).map OwnItem.slot = s.tx.own.map OwnItem.slot := by
    rw [List.map_map]
    exact List.map_congr_left fun item _ => asProbe_slot i item
  exact State.within_setTx h ⟨hanswers, by rw [List.length_map]; exact hown, hslots ▸ hnodup⟩

theorem State.within_returnClaim (h : s.Within) (i : SlotIx) (c : Claim) : (s.returnClaim i c).Within := by
  unfold State.returnClaim
  split
  · split
    · dsimp only
      split
      · exact State.within_asProbe (State.within_putClaim h i _ _) i
      · simp [h]
    · simp [h]
  · simp [h]

/-! ### Streams -/

theorem State.within_streamFrame (h : s.Within) (i : SlotIx) (t : Stream) (f : Frame) :
    (s.streamFrame i t f).Within := by
  unfold State.streamFrame
  split
  · exact h
  · split
    · exact State.within_raise (State.within_endStream (State.within_offerHeld h _ _) _ _ _ _) _ _
    · split
      · exact State.within_holdFor h _ _ _
      · split
        case h_2 => unfold State.streamAck; dsimp only; split <;> simp [h]
        all_goals simp [State.streamStale, h]

theorem State.within_takePeriod (h : s.Within) (i : SlotIx) : (s.takePeriod i).Within := by
  unfold State.takePeriod
  split
  · exact h
  · exact within_takeIf h (by simp [h])

theorem State.within_takeRetry (h : s.Within) (i : SlotIx) : (s.takeRetry i).Within := by
  unfold State.takeRetry
  split
  · exact h
  · refine within_takeIf h ?_
    dsimp only
    split <;> simp [h]

@[simp] theorem State.within_streamProbeSent (h : s.Within) (i : SlotIx) : (s.streamProbeSent i).Within := by
  unfold State.streamProbeSent
  split
  · exact h
  · dsimp only; split <;> simp [h]

@[simp] theorem State.within_streamReplySent (h : s.Within) (i : SlotIx) : (s.streamReplySent i).Within := by
  unfold State.streamReplySent
  split
  · exact h
  · simp [h]

theorem State.within_returnStream (h : s.Within) (i : SlotIx) (t : Stream) : (s.returnStream i t).Within := by
  unfold State.returnStream; split <;> simp [h]

theorem State.within_takeoverOne (bytes : List Byte) (s : State) (i : SlotIx) (h : s.Within) :
    (s.takeoverOne bytes i).Within := by
  unfold State.takeoverOne
  split
  · exact h
  · split <;> simp [h]

theorem State.within_trackInboundOne (bytes : List Byte) (s : State) (i : SlotIx) (h : s.Within) :
    (s.trackInboundOne bytes i).Within := by
  unfold State.trackInboundOne
  split
  · exact h
  · split <;> exact h

theorem State.within_trackOutboundOne (bytes : List Byte) (s : State) (i : SlotIx) (h : s.Within) :
    (s.trackOutboundOne bytes i).Within := by
  unfold State.trackOutboundOne
  split
  · exact h
  · split <;> exact h

/-! ### Exchanges -/

@[simp] theorem State.within_haltExchange (h : s.Within) (i : SlotIx) (a x : Exchange) (r : HaltReason) :
    (s.haltExchange i a x r).Within :=
  within_foldl (State.within_loseLinkedClaim i) _
    (State.within_raise (State.within_withdrawItem (State.within_putExchange h _ _ _ _) _) _ _)

theorem State.within_exchangeFrame (h : s.Within) (i : SlotIx) (x : Exchange) (f : Frame) (v : ReplyVerdict) :
    (s.exchangeFrame i x f v).Within := by
  cases v <;> simp [State.exchangeFrame, State.acceptReply, h]

theorem State.within_takeNextDue (h : s.Within) (i : SlotIx) : (s.takeNextDue i).Within := by
  unfold State.takeNextDue
  split
  · exact h
  · exact within_takeIf h (by simp [h])

theorem State.within_takeReplyWait (h : s.Within) (i : SlotIx) : (s.takeReplyWait i).Within := by
  unfold State.takeReplyWait
  split
  · exact h
  · refine within_takeIf h ?_
    dsimp only
    split <;> simp [h]

@[simp] theorem State.within_requestSent (h : s.Within) (i : SlotIx) : (s.requestSent i).Within := by
  unfold State.requestSent
  split
  · exact h
  · dsimp only; split <;> simp [h]

theorem State.within_returnExchange (h : s.Within) (i : SlotIx) (x : Exchange) : (s.returnExchange i x).Within := by
  unfold State.returnExchange; split <;> simp [h]

/-! ### Responders, filters and the flood guard -/

theorem State.within_respondWith (h : s.Within) (i : SlotIx) (r : Responder) (f : Frame) :
    (s.respondWith i r f).Within := by
  unfold State.respondWith
  dsimp only
  split
  · simp [h]
  · split <;> simp [h]

@[simp] theorem State.within_responderSent (h : s.Within) (i : SlotIx) : (s.responderSent i).Within := by
  unfold State.responderSent
  split
  · exact h
  · simp [h]

theorem State.within_filterFrame (h : s.Within) (i : SlotIx) (t : Filter) (f : Frame) :
    (s.filterFrame i t f).Within := by
  unfold State.filterFrame
  dsimp only
  split <;> simp [h]

theorem State.within_judgeWindow (h : s.Within) : s.judgeWindow.Within := by
  unfold State.judgeWindow
  dsimp only
  split
  · split
    · split
      · refine State.within_raise (State.within_setCond ?_ ?_) _ _
        · exact h
        · exact h.cond
      · exact h
    · exact h
  · split <;> exact h

end Engines

/-! ## Line frames (R64 to R75) -/

section Classification
variable {s t : State} {f : Frame}

/-- A test that asks the slots in turn keeps the capacities where each slot that claims the frame does. -/
theorem within_findSome {g : SlotIx → Option State} (hg : ∀ i t, g i = some t → t.Within)
    (ht : slotIndices.findSome? g = some t) : t.Within := by
  obtain ⟨i, -, hi⟩ := List.exists_of_findSome?_eq_some ht
  exact hg i t hi

/-- A record that claims the frame is acted on. -/
theorem within_map {α : Type} {x : Option α} {act : α → State} (ha : ∀ a, (act a).Within) (ht : x.map act = some t) :
    t.Within := by
  obtain ⟨a, -, rfl⟩ := Option.map_eq_some_iff.1 ht
  exact ha a

theorem State.within_conflictTest (h : s.Within) (ht : s.conflictTest f = some t) : t.Within := by
  unfold State.conflictTest at ht
  split at ht
  · exact within_findSome (fun i _ => within_map (State.within_conflictFor h i)) ht
  · cases ht

theorem State.within_streamTest (h : s.Within) (ht : s.streamTest f = some t) : t.Within :=
  within_findSome (fun i _ => within_map fun x => State.within_streamFrame h i x f) ht

theorem State.within_exchangeTest (h : s.Within) (ht : s.exchangeTest f = some t) : t.Within := by
  refine within_findSome (fun i u hu => ?_) ht
  split at hu
  · cases hu
  · next x _ => exact within_map (State.within_exchangeFrame h i x f) hu

theorem State.within_responderTest (h : s.Within) (ht : s.responderTest f = some t) : t.Within := by
  refine within_findSome (fun i u hu => ?_) ht
  split at hu
  · cases hu
  · next r _ =>
    split at hu
    · cases hu; exact State.within_respondWith h i r f
    · cases hu

theorem State.within_filterTest (h : s.Within) (ht : s.filterTest f = some t) : t.Within := by
  refine within_findSome (fun i u hu => ?_) ht
  split at hu
  · cases hu
  · next r _ =>
    split at hu
    · cases hu; exact State.within_filterFrame h i r f
    · cases hu

theorem State.within_claimedBy (h : s.Within) (ht : s.claimedBy f = some t) : t.Within := by
  unfold State.claimedBy at ht
  simp only [Option.orElse_eq_orElse, Option.orElse_eq_or, Option.or_eq_some_iff] at ht
  rcases ht with ht | ⟨-, ht | ⟨-, ht | ⟨-, ht | ⟨-, ht⟩⟩⟩⟩
  · exact State.within_conflictTest h ht
  · exact State.within_streamTest h ht
  · exact State.within_exchangeTest h ht
  · exact State.within_responderTest h ht
  · exact State.within_filterTest h ht

theorem State.within_defaultDisposition (h : s.Within) (f : Frame) : (s.defaultDisposition f).Within := by
  unfold State.defaultDisposition
  split
  · exact h
  · simp [h]
  · split
    · refine State.within_raise (State.within_setRx h ?_) _ _
      exact h.rx
    · exact h

theorem State.within_classify (h : s.Within) (f : Frame) : (s.classify f).Within := by
  unfold State.classify
  dsimp only
  split
  · exact h
  · split
    · next hc => exact State.within_claimedBy (s := s.count Counters.seen) h hc
    · exact State.within_defaultDisposition (s := s.count Counters.seen) h f

@[simp] theorem State.within_passToStation (h : s.Within) (f : Frame) : (s.passToStation f).1.Within := by
  unfold State.passToStation
  split
  · exact h
  · split
    · exact State.within_setStn h h.stn
    · exact State.within_setStn h h.stn
    · exact h

theorem State.within_takeFrame (h : s.Within) (f : Frame) : (s.takeFrame f).Within := by
  have hpassed : (s.passToStation f).1.Within := State.within_passToStation h f
  unfold State.takeFrame
  split
  case h_1 =>
    dsimp only
    split
    · exact within_foldl (State.within_trackInboundOne f.bytes) _ hpassed
    · exact hpassed
  case h_2 => exact hpassed
  case h_3 | h_4 => exact State.within_classify h f
  case h_5 | h_6 => split <;> simp [h]

/-- The staging buffer's capacity in numbers: whole frames by their lengths, each frame on its way by 1,518 (R64). -/
theorem Classifier.within_iff (x : Classifier) : x.Within ↔ (x.staged.map fun f => f.bytes.length).sum +
    1518 * (x.arriving.filter fun a => decide (a = .staged)).length ≤ 4096 := Iff.rfl

/-- A frame that is taken frees its bytes (R64). -/
theorem Classifier.Within.of_staged {x : Classifier} {f : Frame} {rest : List Frame} (hx : x.Within)
    (hf : x.staged = f :: rest) : Classifier.Within { x with staged := rest } := by
  have hused := x.within_iff.1 hx
  rw [hf, List.map_cons, List.sum_cons] at hused
  exact (Classifier.within_iff _).2 (by dsimp only; omega)

/-- A starting frame is given a place where its 1,518 bytes are free (R64). -/
theorem State.within_startLineFrame (h : s.Within) : s.startLineFrame.Within := by
  have hrx := s.rx.within_iff.1 h.rx
  unfold State.startLineFrame
  split
  · next hroom =>
    have hfree : (s.rx.staged.map fun f => f.bytes.length).sum +
        1518 * (s.rx.arriving.filter fun a => decide (a = .staged)).length + 1518 ≤ 4096 := of_decide_eq_true hroom
    have hplaces : ((s.rx.arriving ++ [Arriving.staged]).filter fun a => decide (a = Arriving.staged)).length =
        (s.rx.arriving.filter fun a => decide (a = .staged)).length + 1 := by simp
    refine State.within_setRx h ((Classifier.within_iff _).2 ?_)
    rw [hplaces, Nat.mul_succ, ← Nat.add_assoc]
    exact hfree
  · have hplaces : ((s.rx.arriving ++ [Arriving.refused]).filter fun a => decide (a = Arriving.staged)).length =
        (s.rx.arriving.filter fun a => decide (a = .staged)).length := by simp
    refine State.within_setRx (State.within_count.2 h) ((Classifier.within_iff _).2 ?_)
    rw [hplaces]
    exact hrx

/-- A frame that arrives takes no more than the 1,518 bytes kept for it (R64, R65). -/
theorem State.within_lineFrameArrives (h : s.Within) (f : Frame) : (s.lineFrameArrives f).Within := by
  have hrx := s.rx.within_iff.1 h.rx
  unfold State.lineFrameArrives
  split
  · exact h
  · next rest ha =>
    have hplaces : (s.rx.arriving.filter fun a => decide (a = .staged)).length =
        (rest.filter fun a => decide (a = .staged)).length := by simp [ha]
    exact State.within_setRx h ((Classifier.within_iff _).2 (hplaces ▸ hrx))
  · next rest ha =>
    have hplaces : (s.rx.arriving.filter fun a => decide (a = .staged)).length =
        (rest.filter fun a => decide (a = .staged)).length + 1 := by simp [ha]
    rw [hplaces] at hrx
    split
    · next hgood =>
      have hlen : f.bytes.length ≤ 1518 := by
        simp only [Frame.good, Bool.and_eq_true, decide_eq_true_eq] at hgood
        exact hgood.2
      refine State.within_setRx h ((Classifier.within_iff _).2 ?_)
      rw [List.map_append, List.sum_append, List.map_singleton, List.sum_singleton]
      dsimp only
      omega
    · refine State.within_setRx (State.within_count.2 h) ((Classifier.within_iff _).2 ?_)
      dsimp only
      omega

theorem State.within_cutArriving (h : s.Within) : s.cutArriving.Within := by
  refine State.within_setRx (State.within_count.2 h) ?_
  exact (Nat.le_add_right _ _).trans h.rx

end Classification

/-! ## The transmitter, the link and the station path -/

/-- A transmitter with the same queues that keeps no place it did not keep. -/
theorem Transmitter.within_of_queues {x y : Transmitter} (hx : x.Within) (ha : y.answers = x.answers)
    (ho : y.own = x.own) (hk : y.keptPlaces ≤ x.keptPlaces) : y.Within := by
  obtain ⟨hanswers, hown, hnodup⟩ := hx
  exact ⟨ha ▸ hanswers, by rw [ho]; omega, ho ▸ hnodup⟩

section Transmission
variable {s : State}

/-- The frame carried leaves the transmitter (R155, R159). -/
theorem State.within_setIdle (h : s.Within) : (s.setTx { s.tx with carried := none }).Within :=
  State.within_setTx h (Transmitter.within_of_queues h.tx rfl rfl (Nat.zero_le _))

theorem State.within_grantWork (h : s.Within) (item : OwnItem) : (s.grantWork item).1.Within := by
  unfold State.grantWork
  split <;> split <;> simp [State.grantStream, State.grantExchange, h]

/-- A granted item leaves the queue, and the transmitter keeps its place (R152, R154). -/
theorem State.within_grantOwn (h : s.Within) : s.grantOwn.Within := by
  unfold State.grantOwn
  split
  · exact h
  · next item rest hown =>
    obtain ⟨hanswers, hplaces, hnodup⟩ := h.tx
    rw [hown] at hplaces hnodup
    have hleft : (s.setTx { s.tx with own := rest }).Within := by
      refine State.within_setTx h ⟨hanswers, ?_, (List.nodup_cons.1 hnodup).2⟩
      exact (Nat.add_le_add_right (Nat.le_succ _) _).trans hplaces
    have hwork := State.within_grantWork hleft item
    have htx : ((s.setTx { s.tx with own := rest }).grantWork item).1.tx = { s.tx with own := rest } := by simp
    dsimp only
    split
    · refine State.within_setTx hwork ?_
      rw [htx]
      refine ⟨hanswers, ?_, (List.nodup_cons.1 hnodup).2⟩
      simp only [Transmitter.keptPlaces, List.length_cons] at hplaces ⊢
      omega
    · exact hwork

/-- A frame that is no own-traffic item's keeps no place. -/
theorem State.within_carry (h : s.Within) {c : Carried}
    (hc : Transmitter.keptPlaces { s.tx with carried := some c } = 0) : (s.carry c).Within :=
  State.within_setTx h (Transmitter.within_of_queues h.tx rfl rfl (hc ▸ Nat.zero_le _))

theorem State.within_grantPart (h : s.Within) : s.grantPart.Within := by
  unfold State.grantPart
  split
  · next a rest hanswers =>
    obtain ⟨hless, hown⟩ := h.tx
    rw [hanswers] at hless
    have hleft : (s.setTx { s.tx with answers := rest }).Within :=
      State.within_setTx h ⟨(Nat.le_succ _).trans hless, hown⟩
    exact State.within_carry hleft rfl
  · exact State.within_grantOwn h

theorem State.within_grantStation (h : s.Within) : s.grantStation.Within := by
  unfold State.grantStation
  split
  · next f rest hbuffer =>
    have hstn := h.stn
    simp only [StationPath.Within, StationPath.used, hbuffer, List.length_cons] at hstn
    have hleft : (s.setStn { s.stn with buffer := rest }).Within := by
      refine State.within_setStn h ?_
      simp only [StationPath.Within, StationPath.used]
      omega
    exact State.within_carry hleft rfl
  · exact h

theorem State.within_arbitrate (h : s.Within) : s.arbitrate.Within := by
  refine within_takeIf h ?_
  split
  · next c _ =>
    have hnext : (s.setTx { s.tx with nextClass := c.other }).Within :=
      State.within_setTx h (Transmitter.within_of_queues h.tx rfl rfl le_rfl)
    cases c with
    | station => exact State.within_grantStation hnext
    | part => exact State.within_grantPart hnext
  · exact h

theorem State.within_frameSent (h : s.Within) (c : Carried) : (s.frameSent c).Within := by
  unfold State.frameSent; split <;> simp [h]

theorem State.within_drainOn (h : s.Within) : s.drainOn.Within := by
  unfold State.drainOn
  split
  · exact h
  · simp [h]

theorem State.within_endQuiesce (h : s.Within) : s.endQuiesce.Within := by
  unfold State.endQuiesce
  split
  · exact State.within_drainOn (State.within_setCustody.2 h)
  · exact h

/-- An item goes back to the head of a queue in which a place was kept for it and its slot has no other (R152, R159). -/
theorem State.within_setHead (h : s.Within) {item : OwnItem} (hfree : s.hasItem item.slot = false)
    (hroom : s.ownRoom = true) : (s.setTx { s.tx with own := item :: s.tx.own }).Within := by
  obtain ⟨hanswers, -, hnodup⟩ := h.tx
  have hplace : s.tx.own.length + s.tx.keptPlaces < Config.ownPlaces := by simpa [State.ownRoom] using hroom
  refine State.within_setTx h ⟨hanswers, ?_, ?_⟩
  · have hkept : Transmitter.keptPlaces { s.tx with own := item :: s.tx.own } = s.tx.keptPlaces := rfl
    rw [hkept, List.length_cons]
    omega
  · simpa [State.hasItem, hnodup] using hfree

theorem State.within_requeueOwn (h : s.Within) {item : OwnItem} (hroom : s.ownRoom = true) :
    (s.requeueOwn item).Within := by
  unfold State.requeueOwn
  split
  · exact h
  · next hlent =>
    have hfree : s.hasItem item.slot = false := by simpa using (not_or.1 hlent).2
    have hhead := State.within_setHead h hfree hroom
    dsimp only
    split
    · split
      · split
        · exact hhead
        · exact h
      · exact h
    · split
      · split
        · exact hhead
        · exact h
      · exact h
    · split
      · split
        · refine State.within_setHead (State.within_putExchange h _ _ _ _) ?_ ?_
          · simpa [State.hasItem] using hfree
          · simpa [State.ownRoom] using hroom
        · exact h
      · exact h

theorem State.within_abortCarried (h : s.Within) : s.abortCarried.Within := by
  have hidle := State.within_setIdle h
  unfold State.abortCarried
  split
  · exact h
  · next c hc =>
    dsimp only
    split
    · exact hidle
    · exact hidle
    · next item f =>
      refine State.within_requeueOwn hidle ?_
      have hplaces := h.tx.2.1
      simp only [Transmitter.keptPlaces, hc] at hplaces
      exact decide_eq_true hplaces

theorem State.within_takeLinkDrop (h : s.Within) : s.takeLinkDrop.Within := by
  unfold State.takeLinkDrop
  split
  · have hdown : (s.setTx { s.tx with linkUp := false }).Within :=
      State.within_setTx h (Transmitter.within_of_queues h.tx rfl rfl le_rfl)
    have haborted := State.within_abortCarried hdown
    dsimp only
    generalize (s.setTx { s.tx with linkUp := false }).abortCarried = s1 at haborted ⊢
    have hpurged : ((s1.count (Counters.dropped s1.tx.answers.length)).setTx { s1.tx with answers := [] }).Within :=
      State.within_setTx (State.within_count.2 haborted) ⟨Nat.zero_le _, haborted.tx.2⟩
    generalize (s1.count (Counters.dropped s1.tx.answers.length)).setTx { s1.tx with answers := [] } = s2 at hpurged ⊢
    have hcleared : (s2.setStn { s2.stn with arriving := [], untaken := [], buffer := [] }).Within :=
      State.within_setStn hpurged (Nat.zero_le _)
    generalize s2.setStn { s2.stn with arriving := [], untaken := [], buffer := [] } = s3 at hcleared ⊢
    have hmarked := within_ite (c := s3.custody.state.lent = true)
      (within_foldl State.within_dropClaimOne slotIndices hcleared) hcleared
    generalize (if s3.custody.state.lent = true then slotIndices.foldl State.dropClaimOne s3 else s3) = s4 at hmarked ⊢
    have hsteady := State.within_setCond hmarked (x :=
      { s4.cond with report := { s4.cond.report with linkSteady := false } }) hmarked.cond
    exact State.within_endQuiesce (within_ite (State.within_raise hsteady _ _) hsteady)
  · exact h

theorem State.within_returnOne (s : State) (i : SlotIx) (h : s.Within) : (s.returnOne i).Within := by
  unfold State.returnOne
  split
  · exact State.within_returnClaim h i _
  · exact State.within_returnStream h i _
  · exact State.within_returnExchange h i _
  all_goals exact h

theorem State.within_takeLinkReturn (h : s.Within) : s.takeLinkReturn.Within := by
  unfold State.takeLinkReturn
  split
  · exact h
  · have hup : (s.setTx { s.tx with linkUp := true }).Within :=
      State.within_setTx h (Transmitter.within_of_queues h.tx rfl rfl le_rfl)
    exact State.within_arbitrate (within_ite (within_foldl State.within_returnOne _ hup) hup)

theorem State.within_takeStnRdy (h : s.Within) (high : Bool) : (s.takeStnRdy high).Within := by
  unfold State.takeStnRdy
  split
  · simp [h]
  · exact State.within_setStn h h.stn

theorem State.within_nextPassing (h : s.Within) : s.nextPassing.Within := by
  unfold State.nextPassing
  split <;> exact State.within_setStn h h.stn

theorem State.within_takeDeliveryEnd (h : s.Within) : s.takeDeliveryEnd.Within := by
  have hnext := State.within_nextPassing h
  unfold State.takeDeliveryEnd
  split
  · exact h
  · simp [hnext]
  · dsimp only
    split
    · obtain ⟨hframes, hbytes⟩ := hnext.held
      refine State.within_drainOn (State.within_setHeld hnext ⟨?_, ?_⟩)
      · exact (List.tail_sublist _).length_le.trans hframes
      · exact (List.Sublist.sum_le_sum ((List.tail_sublist _).map _) (by simp)).trans hbytes
    · exact hnext

/-- A starting station frame is given a free place (R156). -/
theorem State.within_stationFrameStart (h : s.Within) : (s.setStn { s.stn with arriving := s.stn.arriving ++
    [if s.tx.linkUp && decide (s.stn.used < Config.stationPlaces) then .staged else .refused] }).Within := by
  have hstn := h.stn
  refine State.within_setStn h ?_
  unfold StationPath.Within StationPath.used at hstn ⊢
  rw [List.filter_append, List.length_append]
  split
  · next hroom =>
    simp only [Bool.and_eq_true, decide_eq_true_eq] at hroom
    simp only [List.filter_cons, decide_true, if_true, List.filter_nil, List.length_singleton]
    omega
  · simpa using hstn

theorem State.within_stationTests (h : s.Within) (f : Frame) : (s.stationTests f).Within := by
  unfold State.stationTests
  split
  case h_1 => exact within_foldl (State.within_trackOutboundOne f.bytes) _ h
  case h_5 | h_6 => exact within_foldl (State.within_takeoverOne f.bytes) _ h
  all_goals exact h

end Transmission

end Sys2Proof.Machine
end

section
/-! SUPPORT. Station frames, custody, the requests and the commands keep the capacities of the queues, buffers and lists
(R64, R151, R152, R156, R161, R167, R174). -/

namespace Sys2Proof.Machine

/-! ## Station frames (R156, R184) -/

section Station
variable {s : State}

/-- A run over a list leaves the station path where each of its steps does. -/
theorem stn_foldl {α : Type} {f : State → α → State} (hf : ∀ s a, (f s a).stn = s.stn) (l : List α) (s : State) :
    (l.foldl f s).stn = s.stn := by
  induction l generalizing s with
  | nil => rfl
  | cons a l ih => exact (ih (f s a)).trans (hf s a)

/-- What custody does with a station frame leaves the station path (R124, R128). -/
theorem State.stationTests_stn (s : State) (f : Frame) : (s.stationTests f).stn = s.stn := by
  have htrack : ∀ (s : State) (i : SlotIx), (s.trackOutboundOne f.bytes i).stn = s.stn := fun s i => by
    unfold State.trackOutboundOne
    split
    · rfl
    · split <;> simp
  have htakeover : ∀ (s : State) (i : SlotIx), (s.takeoverOne f.bytes i).stn = s.stn := fun s i => by
    unfold State.takeoverOne
    split
    · rfl
    · split <;> simp
  unfold State.stationTests
  split
  case h_1 => exact stn_foldl htrack _ _
  case h_5 | h_6 => exact stn_foldl htakeover _ _
  all_goals rfl

/-- A good frame joins the station class where a place was its own (R156). -/
theorem State.within_takeStationFrame (h : s.Within) (f : Frame) (hplace : s.stn.used < Config.stationPlaces) :
    (s.takeStationFrame f).Within := by
  refine State.within_setStn (State.within_stationTests h f) ?_
  rw [State.stationTests_stn]
  simp only [StationPath.Within, StationPath.used, List.length_append, List.length_singleton] at hplace ⊢
  omega

/-- The place of a frame that waited is its own (R184). -/
theorem State.within_takeUntaken (h : s.Within) : s.takeUntaken.Within := by
  unfold State.takeUntaken
  split
  · exact h
  · next f rest hu =>
    have hplace : StationPath.used { s.stn with untaken := rest } < Config.stationPlaces := by
      have hstn := h.stn
      simp only [StationPath.Within, StationPath.used, hu, List.length_cons] at hstn ⊢
      omega
    exact State.within_takeStationFrame (State.within_setStn h hplace.le) f hplace

theorem State.within_deferStationFrame (h : s.Within) (f : Frame) (hplace : s.stn.used < Config.stationPlaces) :
    (s.deferStationFrame f).Within := by
  refine State.within_defer (State.within_setStn h ?_) _
  simp only [StationPath.Within, StationPath.used, List.length_append, List.length_singleton] at hplace ⊢
  omega

/-- The place kept for a frame on its way is its own when it ends (R156). -/
theorem State.within_stationFrameEnds (h : s.Within) (f : Frame) : (s.stationFrameEnds f).Within := by
  unfold State.stationFrameEnds
  split
  · exact h
  · next a rest ha =>
    have hstn := h.stn
    have hless : StationPath.used { s.stn with arriving := rest } ≤ s.stn.used := by
      have hsub := (List.sublist_cons_self a rest).filter fun a => decide (a = .staged)
      simpa [StationPath.used, ha] using hsub.length_le
    have hended : (s.setStn { s.stn with arriving := rest }).Within := State.within_setStn h (hless.trans hstn)
    dsimp only
    split
    · next hgood =>
      have hplace : StationPath.used { s.stn with arriving := rest } < Config.stationPlaces := by
        simp only [StationPath.Within, StationPath.used, ha, hgood.1, List.filter_cons, decide_true, if_true,
          List.length_cons] at hstn ⊢
        omega
      exact within_ite (State.within_takeStationFrame hended f hplace) (State.within_deferStationFrame hended f hplace)
    · exact hended

end Station

/-! ## Custody (R46 to R59) -/

section CustodyUnit
variable {s : State}

theorem State.within_firstProbe (s : State) (i : SlotIx) (h : s.Within) : (s.firstProbe i).Within := by
  unfold State.firstProbe
  split
  · split <;> simp [h]
  · exact h

/-- LEND success empties the queues and lists but for what is on its way in (R50). -/
theorem State.within_lendSuccess (h : s.Within) : s.lendSuccess.Within := by
  have hcond : ∀ (report : WakeReport) (lendCount : Count32), report.causes = [] →
      ConditionUnit.Within { changes := [], report, notices := 0, lendCount } := fun _ _ hr =>
    ⟨by rw [hr]; exact Nat.zero_le _, List.nodup_nil⟩
  have hheld : HeldQueue.Within { entries := [], fullLatch := false } := ⟨Nat.zero_le _, Nat.zero_le _⟩
  have htx : Transmitter.Within { s.tx with carried := none, answers := [], own := [] } :=
    ⟨Nat.zero_le _, Nat.zero_le _, List.nodup_nil⟩
  unfold State.lendSuccess
  refine State.within_respond.2 (State.within_setGuard.2 (within_foldl State.within_firstProbe _ ?_))
  refine State.within_setTable.2 (State.within_setTx (State.within_setHeld (State.within_setRx ?_ ?_) hheld) htx)
  · exact State.within_setCounters.2 (State.within_setCond (State.within_setCustody.2 h) (hcond _ _ rfl))
  · exact h.rx

theorem State.within_checkFailed (h : s.Within) (b : Byte) (r : CheckReason) : (s.checkFailed b r).Within :=
  State.within_respond.2 h

theorem State.within_checkStep (h : s.Within) : s.checkStep.Within := by
  unfold State.checkStep
  split
  · exact h
  · exact within_ite (State.within_checkFailed h _ _) h
  · split
    · exact State.within_checkFailed h _ _
    · split
      · exact h
      · exact State.within_lendSuccess h

theorem State.within_reclaimOne (s : State) (i : SlotIx) (h : s.Within) : (s.reclaimOne i).Within := by
  unfold State.reclaimOne
  split
  case h_3 => exact within_ite (State.within_putExchange h _ _ _ _) h
  all_goals exact h

theorem State.within_takeReclaim (h : s.Within) : s.takeReclaim.Within := by
  have hemptied : ((s.setCustody { s.custody with state := .quiesce }).setTx { s.tx with own := [] }).Within :=
    State.within_setTx h ⟨h.tx.1, (Nat.add_le_add_right (Nat.zero_le _) _).trans h.tx.2.1, List.nodup_nil⟩
  have hstopped := within_foldl State.within_reclaimOne slotIndices hemptied
  unfold State.takeReclaim
  dsimp only
  generalize slotIndices.foldl State.reclaimOne _ = s2 at hstopped ⊢
  exact State.within_setCond (State.within_setGuard.2 hstopped) hstopped.cond

theorem StationPath.detached_used (p : StationPath) : p.detached.used = p.used := by
  unfold StationPath.detached; split <;> rfl

theorem State.within_takeDiscard (h : s.Within) : s.takeDiscard.Within := by
  have hdiscarded := State.within_discardHeld (s := s.setCustody { s.custody with discard := true }) h
  refine State.within_setStn hdiscarded ?_
  have hstn := hdiscarded.stn
  unfold StationPath.Within at hstn ⊢
  rwa [StationPath.detached_used]

theorem State.within_serveLend (h : s.Within) (p : Port) (payload : List Byte) : (s.serveLend p payload).1.Within := by
  unfold State.serveLend
  split
  · exact h
  · split
    · exact h
    · split <;> exact h

theorem State.within_serveReclaim (h : s.Within) (p : Port) (payload : List Byte) :
    (s.serveReclaim p payload).1.Within := by
  unfold State.serveReclaim
  split
  · exact h
  · split
    case h_5 | h_6 =>
      split
      · exact h
      · dsimp only; exact State.within_endQuiesce (State.within_takeReclaim h)
    all_goals exact h

theorem State.within_takeRecall (h : s.Within) (discard : Bool) : (s.takeRecall discard).1.Within := by
  have hreclaimed := State.within_takeReclaim h
  unfold State.takeRecall
  split
  case h_1 => exact h
  case h_2 => exact State.within_respond.2 h
  case h_3 | h_4 =>
    dsimp only
    exact State.within_endQuiesce (within_ite (State.within_takeDiscard hreclaimed) hreclaimed)
  case h_5 => dsimp only; exact within_ite (State.within_takeDiscard h) h
  case h_6 => dsimp only; exact within_ite (State.within_drainOn (State.within_takeDiscard h)) h

theorem State.within_serveRecall (h : s.Within) (p : Port) (payload : List Byte) :
    (s.serveRecall p payload).1.Within := by
  unfold State.serveRecall
  split
  · exact h
  · split
    · exact h
    · split
      · split
        · exact State.within_takeRecall h false
        · split
          · exact State.within_takeRecall h true
          · exact h
      · exact h

end CustodyUnit

/-! ## Resets and the profile load (R62, R63, R189) -/

section Resets
variable {s : State}

theorem State.within_resetBlocks (s : State) (clk : ClockUnit) : (s.resetBlocks clk).Within :=
  ⟨⟨Nat.zero_le _, Nat.zero_le _, List.nodup_nil⟩, ⟨Nat.zero_le _, Nat.zero_le _⟩, ⟨Nat.zero_le _, List.nodup_nil⟩,
    Nat.zero_le _, Nat.zero_le _⟩

theorem State.within_endLoad (h : s.Within) (fault answers : Bool) : (s.endLoad fault answers).Within :=
  within_ite (State.within_respond.2 h) h

theorem State.within_startLoad (h : s.Within) (answers : Bool) : (s.startLoad answers).Within :=
  within_ite h (State.within_endLoad h _ _)

theorem State.within_serveSoftReset (h : s.Within) (p : Port) (payload : List Byte) :
    (s.serveSoftReset p payload).1.Within := by
  unfold State.serveSoftReset
  split
  · exact h
  · split
    · exact h
    · split
      · exact h
      · split
        · exact h
        · exact State.within_startLoad (State.within_setPort.2 (State.within_resetBlocks s _)) true

end Resets

/-! ## Requests -/

section Requests
variable {s : State}

theorem State.within_servePutSlot (h : s.Within) (p : Port) (payload : List Byte) :
    (s.servePutSlot p payload).1.Within := by
  unfold State.servePutSlot
  split
  · exact h
  · split
    · exact h
    · split
      · exact h
      · dsimp only; split <;> exact h

theorem State.within_serveClearSlot (h : s.Within) (p : Port) (payload : List Byte) :
    (s.serveClearSlot p payload).1.Within := by
  unfold State.serveClearSlot
  split
  · exact h
  · split
    · exact h
    · split <;> exact h

theorem State.within_servePoolWrite (h : s.Within) (p : Port) (payload : List Byte) :
    (s.servePoolWrite p payload).1.Within := by
  unfold State.servePoolWrite
  split
  · exact h
  · split
    · exact h
    · split
      · exact h
      · dsimp only; split <;> exact h

theorem State.within_storePolicy (h : s.Within) (item : PolicyItem) (index v : Nat) :
    (s.storePolicy item index v).Within := by
  unfold State.storePolicy; split <;> exact h

theorem State.within_serveSetPolicy (h : s.Within) (p : Port) (payload : List Byte) :
    (s.serveSetPolicy p payload).1.Within := by
  unfold State.serveSetPolicy
  split
  · exact h
  · split
    · exact h
    · split
      · exact h
      · split
        · exact h
        · exact State.within_storePolicy h _ _ _

theorem State.within_serveReadReport (h : s.Within) (p : Port) (payload : List Byte) :
    (s.serveReadReport p payload).1.Within := by
  unfold State.serveReadReport
  split
  · exact h
  · cases p with
    | system => exact h
    | platform => exact State.within_setCond h h.cond

theorem State.within_serveReleaseSample (h : s.Within) (p : Port) (payload : List Byte) :
    (s.serveReleaseSample p payload).1.Within := by
  unfold State.serveReleaseSample
  split
  · exact h
  · split
    · exact h
    · split
      · exact h
      · split
        · exact State.within_setRx h h.rx
        · exact h

theorem State.within_serveStoreErase (h : s.Within) (p : Port) (payload : List Byte) :
    (s.serveStoreErase p payload).1.Within := by
  unfold State.serveStoreErase
  split
  · exact h
  · split
    · split
      · exact h
      · split
        · exact h
        · split <;> exact h
    · exact h

theorem State.within_serveStoreProgram (h : s.Within) (p : Port) (payload : List Byte) :
    (s.serveStoreProgram p payload).1.Within := by
  unfold State.serveStoreProgram
  split
  · exact h
  · split
    · split
      · exact h
      · split
        · exact h
        · split
          · exact h
          · split
            · exact h
            · split <;> exact h
    · exact h

/-- Every request's owner keeps the capacities. -/
theorem State.within_serve (h : s.Within) (p : Port) (payload : List Byte) (kind : RequestKind) :
    (s.serve p kind payload).1.Within := by
  cases kind
  case putSlot => exact State.within_servePutSlot h p payload
  case getSlot => exact (s.serveGetSlot_fst p payload).symm ▸ h
  case clearSlot => exact State.within_serveClearSlot h p payload
  case poolWrite => exact State.within_servePoolWrite h p payload
  case poolRead => exact (s.servePoolRead_fst p payload).symm ▸ h
  case lend => exact State.within_serveLend h p payload
  case reclaim => exact State.within_serveReclaim h p payload
  case setPolicy => exact State.within_serveSetPolicy h p payload
  case getPolicy => exact (s.serveGetPolicy_fst p payload).symm ▸ h
  case readStatus => exact (s.serveReadStatus_fst p payload).symm ▸ h
  case readChanges => exact (s.serveReadChanges_fst p payload).symm ▸ h
  case readReport => exact State.within_serveReadReport h p payload
  case takeSample => exact (s.serveTakeSample_fst p payload).symm ▸ h
  case releaseSample => exact State.within_serveReleaseSample h p payload
  case storeRead => exact (s.serveStoreRead_fst p payload).symm ▸ h
  case storeErase => exact State.within_serveStoreErase h p payload
  case storeProgram => exact State.within_serveStoreProgram h p payload
  case softReset => exact State.within_serveSoftReset h p payload
  -- RECALL is the one left: its constructor's name is a word of Lean's.
  exact State.within_serveRecall h p payload

theorem State.within_takeRequest (h : s.Within) (p : Port) (payload : List Byte) (kind : RequestKind) :
    (s.takeRequest p kind payload).Within := by
  have hserve := State.within_serve h p payload kind
  unfold State.takeRequest
  split
  · exact State.within_respond.2 h
  · split
    · next hs => rw [hs] at hserve; exact State.within_respond.2 hserve
    · next hs => rw [hs] at hserve; exact hserve

theorem State.within_shiftHeldOut (h : s.Within) (p : Port) : (s.shiftHeldOut p).Within := by
  cases p <;> exact h

theorem State.within_receiveMalformed (h : s.Within) (p : Port) : (s.receiveMalformed p).Within :=
  within_ite (State.within_setPort.2 h) (State.within_respond.2 (State.within_wake h))

theorem State.within_receiveFramed (h : s.Within) (p : Port) (payload : List Byte) (kind : RequestKind) :
    (s.receiveFramed p kind payload).Within := by
  have hworking : (s.setPort p { s.port p with slot := .working }).Within := State.within_setPort.2 h
  have hwoken := State.within_wake hworking
  exact within_ite (State.within_setPort.2 h) (within_takeOrDefer hwoken (State.within_takeRequest hwoken p payload kind))

theorem State.within_receive (h : s.Within) (p : Port) (payload : List Byte) (kind : RequestKind) :
    (s.receive p kind payload).Within := by
  have hout := State.within_shiftHeldOut h p
  exact within_takeIf h
    (within_ite (State.within_receiveMalformed hout p) (State.within_receiveFramed hout p payload kind))

theorem State.within_receiveMessage (h : s.Within) (p : Port) (payload : List Byte) :
    (s.receiveMessage p payload).Within := by
  have hout := State.within_shiftHeldOut h p
  unfold State.receiveMessage
  split
  · exact within_takeIf h hout
  · exact within_takeIf h (State.within_receiveMalformed hout p)
  · exact State.within_receive h p _ _

end Requests

section Commands
variable {s : State}

theorem State.within_writePage (h : s.Within) (page : Nat) (bytes : List Byte) : (s.writePage page bytes).Within := h

theorem State.within_storeIdle (h : s.Within) : s.storeIdle.Within := State.within_respond.2 h

/-- A record of the load is served as its request (R189). -/
theorem State.within_serveRecord (h : s.Within) {type : Byte} {body : List Byte} {u : State} {r : Response}
    (hrec : s.serveRecord type body = some (u, r)) : u.Within := by
  unfold State.serveRecord at hrec
  split at hrec
  · obtain rfl := congrArg Prod.fst (Option.some.inj hrec); exact State.within_servePutSlot h _ _
  · obtain rfl := congrArg Prod.fst (Option.some.inj hrec); exact State.within_servePoolWrite h _ _
  · obtain rfl := congrArg Prod.fst (Option.some.inj hrec); exact State.within_serveSetPolicy h _ _
  · cases hrec

theorem State.within_loadRecord (h : s.Within) (l : ProfileLoad) : (s.loadRecord l).Within := by
  unfold State.loadRecord
  dsimp only
  split
  · exact State.within_endLoad h _ _
  · split
    · exact State.within_endLoad h _ _
    · split
      · exact State.within_endLoad h _ _
      · split
        · exact State.within_endLoad h _ _
        · next u r hrec =>
          have hu := State.within_serveRecord h hrec
          split
          · exact State.within_endLoad h _ _
          · exact within_ite (State.within_endLoad hu _ _) hu

theorem State.within_takeTick (h : s.Within) : s.takeTick.Within := by
  have hwoken : ∀ u : State, u.Within → (if u.wakeCome then u.wake else u).Within := fun u hu =>
    within_ite (State.within_wake hu) hu
  unfold State.takeTick
  dsimp only
  split
  · exact within_ite (within_ite h h) h
  · exact hwoken _ h
  · exact h

theorem State.within_takeWaiting (s : State) (w : Waiting) (h : s.Within) : (s.takeWaiting w).Within := by
  cases w with
  | request p kind payload => exact State.within_takeRequest h p payload kind
  | linkDrop => exact State.within_takeLinkDrop h
  | linkReturn => exact State.within_takeLinkReturn h
  | stationFrame => exact State.within_takeUntaken h
  | stnRdy high => exact State.within_takeStnRdy h high
  | deliveryEnd => exact State.within_takeDeliveryEnd h

end Commands

/-- Every command keeps the capacities. -/
theorem exec_within {c : Instr} {s t : State} (hs : s.Within) (h : exec c s = .next t) : t.Within := by
  cases c
  case putSlot | getSlot | clearSlot | poolWrite | poolRead | lend | reclaim | setPolicy | getPolicy | readStatus
      | readChanges | readReport | takeSample | releaseSample | storeRead | storeErase | storeProgram | softReset =>
    cases h; exact State.within_receive hs _ _ _
  case unknownRequest p m => cases h; exact State.within_receiveMessage hs p m
  case poll => cases h; exact within_takeIf hs hs
  case responseRead => cases h; exact within_takeIf hs (State.within_setPort.2 hs)
  case lendCheckStep => cases h; exact within_takeIf hs (State.within_checkStep hs)
  case powerOn | powerLoss => cases h; exact State.within_resetBlocks _ _
  case rstN => cases h; exact within_takeIf hs (State.within_resetBlocks _ _)
  case resetRelease => cases h; exact within_takeIf hs (State.within_startLoad (State.within_resetBlocks _ _) false)
  case profileRecord =>
    cases h
    refine within_takeIf hs ?_
    split
    · exact hs
    · exact State.within_loadRecord hs _
  case storeEraseDone | storeProgramDone =>
    cases h
    refine within_takeIf hs ?_
    split
    · exact State.within_storeIdle (State.within_writePage hs _ _)
    · exact hs
  case lineFrameStart => cases h; exact within_takeIf hs (State.within_startLineFrame (State.within_wake hs))
  case lineFrameArrival => cases h; exact within_takeIf hs (State.within_lineFrameArrives hs _)
  case frameTaking =>
    cases h
    refine within_takeIf hs ?_
    split
    · exact hs
    · next f rest hf => exact State.within_takeFrame (State.within_setRx hs (hs.rx.of_staged hf)) f
  case stationFrameStart => cases h; exact within_takeIf hs (State.within_stationFrameStart (State.within_wake hs))
  case stationFrameTaking => cases h; exact within_takeIf hs (State.within_stationFrameEnds hs _)
  case grant => cases h; exact within_takeIf hs (State.within_arbitrate hs)
  case transmitComplete =>
    cases h
    refine within_takeIf hs ?_
    split
    · exact hs
    · exact State.within_endQuiesce (State.within_frameSent (State.within_setIdle hs) _)
  case lineLinkDrop =>
    cases h
    have hpins : (s.setPins { s.pins with link := false }).Within := hs
    have hwoken := State.within_wake (State.within_cutArriving hpins)
    exact within_takeIf hs (within_takeIf hs (within_takeOrDefer hwoken (State.within_takeLinkDrop hwoken)))
  case lineLinkReturn =>
    cases h
    have hpins : (s.setPins { s.pins with link := true }).Within := hs
    have hwoken := State.within_wake hpins
    exact within_takeIf hs (within_takeIf hs (within_takeOrDefer hwoken (State.within_takeLinkReturn hwoken)))
  case stnRdyChange high =>
    cases h
    have hpins : (s.setPins { s.pins with stnRdy := high }).Within := hs
    exact within_takeIf hs (within_takeIf hs (within_takeOrDefer hpins (State.within_takeStnRdy hpins high)))
  case deliveryEnd => cases h; exact within_takeIf hs (within_takeOrDefer hs (State.within_takeDeliveryEnd hs))
  case tick => cases h; exact within_takeIf hs (State.within_takeTick hs)
  case dueItemPlacement => cases h; exact within_takeIf hs (within_foldl State.within_placeDueOne _ hs)
  case probeSpacingExpiry i => cases h; exact State.within_takeProbeSpacing hs i
  case defenceWindowExpiry i => cases h; exact State.within_takeDefenceWindow hs i
  case streamPeriodExpiry i => cases h; exact State.within_takePeriod hs i
  case retrySpacingExpiry i => cases h; exact State.within_takeRetry hs i
  case exchangeNextDue i => cases h; exact State.within_takeNextDue hs i
  case replyWaitExpiry i => cases h; exact State.within_takeReplyWait hs i
  case floodWindowEnd => cases h; exact within_takeIf hs (State.within_setGuard.2 (State.within_judgeWindow hs))
  case dozeEntry => cases h; exact within_takeIf hs hs
  case warmUpStart => cases h; exact within_takeIf hs (State.within_wake hs)
  case warmUpEnd =>
    cases h
    exact within_takeIf hs (within_foldl State.within_takeWaiting _ (State.within_setClk.2 hs))
  -- RECALL is the one left: its constructor's name is a word of Lean's.
  cases h
  exact State.within_receive hs _ _ _

end Sys2Proof.Machine

open Sys2Proof Sys2Proof.Machine

/-- Settles O59: the capacities hold block by block, each write of a queue, buffer or list finds room or frees some, and
every command is made of such writes. -/
theorem queuesStayWithin : Obligations.QueuesStayWithin := by
  intro s t hs h
  rw [← State.within_iff] at hs ⊢
  unfold step at h
  split at h
  · cases h; exact hs
  · next c rest _ => exact exec_within (s := { s with pending := rest }) hs h

end

section
/-! SUPPORT. The inspection slot's requests check by check, and the reception of line frames (R64, R65, R80, R81,
R184). -/

namespace Sys2Proof.Machine

/-! ## The inspection slot's requests (R80, R81) -/

section Sample
variable {s : State} {payload : List Byte}

/-- Two numbers laid end to end, read back. -/
theorem natOfBytes_pair {w m n : Nat} (hm : m < 256 ^ w) (hn : n < 256 ^ w) :
    natOfBytes ((beBytes w m ++ beBytes w n).take w) = m ∧ natOfBytes ((beBytes w m ++ beBytes w n).drop w) = n := by
  rw [List.take_left' (beBytes_length w m), List.drop_left' (beBytes_length w m)]
  exact ⟨natOfBytes_beBytes w m hm, natOfBytes_beBytes w n hn⟩

theorem State.serveTakeSample_system : s.serveTakeSample .system payload = (s, .bare .notPermitted) := by
  simp [State.serveTakeSample]

theorem State.serveTakeSample_malformed (h : payload.length ≠ 4) :
    s.serveTakeSample .platform payload = (s, .bare .malformed) := by
  simp [State.serveTakeSample, h]

/-- The bytes TAKE_SAMPLE answers of the inspection slot (R80). -/
def sampleBytes (sample : Option Sample) (offset n : Nat) : List Byte :=
  match sample with
  | none => List.replicate 11 0
  | some x => [1] ++ beBytes 4 x.ordinal.toNat ++ beBytes 2 x.frame.bytes.length ++ beBytes 4 x.time.toNat ++
      (x.frame.bytes.drop offset).take n

/-- TAKE_SAMPLE of a span: in its range it answers the slot, out of it OUT_OF_RANGE (R80). -/
theorem State.serveTakeSample_span {offset n : Nat} (ho : offset < 65536) (hn : n < 65536) :
    s.serveTakeSample .platform (beBytes 2 offset ++ beBytes 2 n) =
      (s, if n = 0 ∨ 256 < n ∨ 1517 < offset then .bare .outOfRange
        else { result := .done, payload := sampleBytes s.rx.sample offset n }) := by
  obtain ⟨hoffset, hlength⟩ := natOfBytes_pair (w := 2) ho hn
  have hsize : (beBytes 2 offset ++ beBytes 2 n).length = 4 := by simp
  unfold State.serveTakeSample
  rw [if_neg (by decide), if_neg (not_not.2 hsize), hoffset, hlength]
  dsimp only [gt_iff_lt]
  split
  · rfl
  · unfold sampleBytes
    cases s.rx.sample <;> rfl

theorem State.serveReleaseSample_system : s.serveReleaseSample .system payload = (s, .bare .notPermitted) := by
  simp [State.serveReleaseSample]

theorem State.serveReleaseSample_malformed (h : payload.length ≠ 8) :
    s.serveReleaseSample .platform payload = (s, .bare .malformed) := by
  simp [State.serveReleaseSample, h]

/-- RELEASE_SAMPLE with the slot's own ordinal and time (R81). -/
theorem State.serveReleaseSample_matching {x : Sample} (hx : s.rx.sample = some x) :
    s.serveReleaseSample .platform (beBytes 4 x.ordinal.toNat ++ beBytes 4 x.time.toNat) =
      (s.setRx { s.rx with sample := none }, { result := .done, payload := [1] }) := by
  obtain ⟨hordinal, htime⟩ := natOfBytes_pair (w := 4) x.ordinal.isLt x.time.isLt
  have hsize : (beBytes 4 x.ordinal.toNat ++ beBytes 4 x.time.toNat).length = 8 := by simp
  unfold State.serveReleaseSample
  rw [if_neg (by decide), if_neg (not_not.2 hsize), hordinal, htime, hx]
  exact if_pos ⟨rfl, rfl⟩

/-- RELEASE_SAMPLE of another frame, or with nothing in the slot (R81). -/
theorem State.serveReleaseSample_other {ordinal time : BitVec 32}
    (hx : ∀ x, s.rx.sample = some x → x.ordinal ≠ ordinal ∨ x.time ≠ time) :
    s.serveReleaseSample .platform (beBytes 4 ordinal.toNat ++ beBytes 4 time.toNat) =
      (s, { result := .done, payload := [0] }) := by
  obtain ⟨hordinal, htime⟩ := natOfBytes_pair (w := 4) ordinal.isLt time.isLt
  have hsize : (beBytes 4 ordinal.toNat ++ beBytes 4 time.toNat).length = 8 := by simp
  unfold State.serveReleaseSample
  rw [if_neg (by decide), if_neg (not_not.2 hsize), hordinal, htime]
  split
  · rfl
  · next x hsample =>
    refine if_neg fun hsame => ?_
    rcases hx x hsample with hne | hne
    · exact hne (BitVec.eq_of_toNat_eq hsame.1)
    · exact hne (BitVec.eq_of_toNat_eq hsame.2)

/-- A request on its way leaves the classifier. -/
@[simp] theorem State.working_rx (s : State) (p : Port) : (s.working p).rx = s.rx := by simp [State.working]

/-- The inspection slot emptied while a request waits for its answer. -/
theorem State.setRx_working_respond (s : State) (p : Port) (x : Classifier) (r : Response) :
    ((s.working p).setRx x).respond p r = (s.setRx x).answered p r := by cases p <;> rfl

end Sample

/-! ## Reception (R64, R65, R184) -/

section Reception
variable {s : State}

/-- Room for a frame of 1,518 bytes beside what is used of 4,096 (R64). -/
theorem Classifier.hasRoom_iff (x : Classifier) : x.hasRoom = true ↔
    (x.staged.map fun f => f.bytes.length).sum +
      1518 * (x.arriving.filter fun a => decide (a = .staged)).length + 1518 ≤ 4096 := decide_eq_true_iff

/-- A good frame: its FCS and its length (R65). -/
theorem Frame.good_iff (f : Frame) :
    f.good = true ↔ f.fcs = crc32 f.bytes ∧ 14 ≤ f.bytes.length ∧ f.bytes.length ≤ 1518 := by
  simp only [Frame.good, Bool.and_eq_true, decide_eq_true_iff, and_assoc]

@[simp] theorem State.wake_rx (s : State) : s.wake.rx = s.rx := by unfold State.wake; split <;> rfl

@[simp] theorem State.wake_counters (s : State) : s.wake.counters = s.counters := by unfold State.wake; split <;> rfl

/-- After a waking event a running part is in ACTIVE or in warm-up (R184). -/
theorem State.wake_warmUp_iff (s : State) : s.wake.clk.state = .warmUp ↔ s.clk.state ≠ .active := by
  unfold State.wake
  cases h : s.clk.state <;> simp [h]

theorem exec_lineFrameStart (hrun : s.clk.power = .running) : exec .lineFrameStart s = .next s.wake.startLineFrame :=
  congrArg Host.Outcome.next (if_pos (decide_eq_true hrun))

theorem exec_lineFrameArrival (hrun : s.clk.power = .running) (bytes : List Byte) (fcs : Fcs) :
    exec (.lineFrameArrival bytes fcs) s = .next (s.lineFrameArrives { bytes, fcs }) :=
  congrArg Host.Outcome.next (if_pos (decide_eq_true hrun))

/-- A starting frame that finds room gets a place (R64). -/
theorem State.wake_startLineFrame_staged (hroom : s.rx.hasRoom = true) :
    s.wake.startLineFrame = s.wake.setRx { s.rx with arriving := s.rx.arriving ++ [.staged] } := by
  unfold State.startLineFrame
  rw [State.wake_rx, if_pos hroom]

/-- A starting frame that finds no room is counted by the clock state and refused (R64, R184). -/
theorem State.wake_startLineFrame_refused (hroom : s.rx.hasRoom = false) :
    s.wake.startLineFrame = (s.wake.setRx { s.rx with arriving := s.rx.arriving ++ [.refused] }).setCounters
      (if s.clk.state = .active then { s.counters with framesBad := bump32 s.counters.framesBad }
        else { s.counters with dozeDiscards := bump32 s.counters.dozeDiscards }) := by
  unfold State.startLineFrame State.count
  rw [State.wake_rx, if_neg (by rw [hroom]; decide), State.wake_counters]
  by_cases hactive : s.clk.state = .active
  · rw [if_pos hactive, if_neg (mt s.wake_warmUp_iff.1 (not_not.2 hactive))]; rfl
  · rw [if_neg hactive, if_pos (s.wake_warmUp_iff.2 hactive)]; rfl

theorem State.lineFrameArrives_refused {rest : List Arriving} (h : s.rx.arriving = .refused :: rest) (f : Frame) :
    s.lineFrameArrives f = s.setRx { s.rx with arriving := rest } := by
  unfold State.lineFrameArrives; rw [h]

theorem State.lineFrameArrives_staged {rest : List Arriving} (h : s.rx.arriving = .staged :: rest) (f : Frame) :
    s.lineFrameArrives f =
      if f.good then s.setRx { s.rx with arriving := rest, staged := s.rx.staged ++ [f] }
      else (s.setRx { s.rx with arriving := rest }).setCounters
        { s.counters with framesBad := bump32 s.counters.framesBad } := by
  unfold State.lineFrameArrives; rw [h]; rfl

end Reception

end Sys2Proof.Machine

open Sys2Proof Sys2Proof.Machine

/-- Settles O37: each check of the two requests is one answer of its owner, and a ready request is answered with it. -/
theorem sampleRequestsFollowTheSlot : Obligations.SampleRequestsFollowTheSlot := by
  intro s
  have taken : ∀ {p payload r}, s.readyFor p .takeSample → payload.length ≤ 1024 →
      (s.working p).serveTakeSample p payload = (s.working p, r) →
      exec (.takeSample p payload) s = .next (s.answered p r) := fun hr hl hx =>
    congrArg Host.Outcome.next (State.receive_refused hr hl (congrArg answered hx))
  have released : ∀ {p payload r}, s.readyFor p .releaseSample → payload.length ≤ 1024 →
      (s.working p).serveReleaseSample p payload = (s.working p, r) →
      exec (.releaseSample p payload) s = .next (s.answered p r) := fun hr hl hx =>
    congrArg Host.Outcome.next (State.receive_refused hr hl (congrArg answered hx))
  refine ⟨fun hr offset n ho h1 h256 => ?_, fun hr offset n ho hn hout => ?_,
    fun hr ordinal time => ⟨fun x hx hxo hxt => ?_, fun hx => ?_⟩,
    fun payload hl => ⟨fun hr => ?_, fun hr => ?_, fun hr hlen => ?_, fun hr hlen => ?_⟩⟩
  · have hspan := (s.working .platform).serveTakeSample_span (show offset < 65536 by omega) (show n < 65536 by omega)
    rw [if_neg (by omega), State.working_rx] at hspan
    exact taken hr (by simp) hspan
  · have hspan := (s.working .platform).serveTakeSample_span ho hn
    rw [if_pos hout] at hspan
    exact taken hr (by simp) hspan
  · subst hxo hxt
    have hserve := State.serveReleaseSample_matching (s := s.working .platform) (by simpa using hx)
    refine congrArg Host.Outcome.next ((State.receive_answered hr (by simp) (congrArg answered hserve)).trans ?_)
    rw [State.setRx_working_respond, State.working_rx]
  · exact released hr (by simp) (State.serveReleaseSample_other (by simpa using hx))
  · exact taken hr hl State.serveTakeSample_system
  · exact released hr hl State.serveReleaseSample_system
  · exact taken hr hl (State.serveTakeSample_malformed hlen)
  · exact released hr hl (State.serveReleaseSample_malformed hlen)

/-- Settles O41: the room test and the judgement of an arriving frame in numbers, in every clock state. -/
theorem lineFramesAreReceived : Obligations.LineFramesAreReceived := by
  refine ⟨fun s hrun => ⟨fun hroom => ?_, fun hroom => ?_⟩, fun s bytes fcs hrun => ⟨fun rest h => ?_, fun rest h =>
    ⟨fun hfcs hmin hmax => ?_, fun hbad => ?_⟩⟩⟩
  · rw [exec_lineFrameStart hrun, State.wake_startLineFrame_staged (s.rx.hasRoom_iff.2 hroom)]
    rfl
  · have hfull : s.rx.hasRoom = false := Bool.eq_false_iff.2 fun h => absurd (s.rx.hasRoom_iff.1 h) (by omega)
    rw [exec_lineFrameStart hrun, State.wake_startLineFrame_refused hfull]
    rfl
  · rw [exec_lineFrameArrival hrun, State.lineFrameArrives_refused h]
  · rw [exec_lineFrameArrival hrun, State.lineFrameArrives_staged h, if_pos ((Frame.good_iff _).2 ⟨hfcs, hmin, hmax⟩)]
  · have hjudged : ¬ Frame.good { bytes, fcs } = true := fun hgood => by
      obtain ⟨hfcs, hmin, hmax⟩ := (Frame.good_iff _).1 hgood
      rcases hbad with hbad | hbad | hbad
      · exact hbad hfcs
      · exact absurd hmin (by exact Nat.not_le.2 hbad)
      · exact absurd hmax (by exact Nat.not_le.2 hbad)
    rw [exec_lineFrameArrival hrun, State.lineFrameArrives_staged h, if_neg hjudged]

end

section
/-! SUPPORT. Classification: the order of the tests, and which slot a test finds (R66 to R73); what a pass over the slots
leaves of them, and tracking in HOME (R128, R129). -/

namespace Sys2Proof.Machine

/-! ## The slots in their order -/

/-- The first slot to answer is found where every slot below it gives no answer. -/
theorem findSome_slotIndices {α : Type} {g : SlotIx → Option α} {i : SlotIx} {a : α} (hi : g i = some a)
    (hbelow : ∀ j : SlotIx, j.val < i.val → g j = none) : slotIndices.findSome? g = some a := by
  have hlen : i.val < slotIndices.length := by simp [slotIndices]
  have hget : ∀ (k : Nat) (hk : k < slotIndices.length), (slotIndices[k]'hk).val = k := fun k hk => by simp [slotIndices]
  have hsplit : slotIndices = slotIndices.take i.val ++ i :: slotIndices.drop (i.val + 1) := by
    have hhead : slotIndices[i.val]'hlen = i := Fin.ext (hget _ _)
    conv_lhs => rw [← List.take_append_drop i.val slotIndices, List.drop_eq_getElem_cons hlen, hhead]
  refine List.findSome?_eq_some_iff.2 ⟨_, i, _, hsplit, hi, fun j hj => hbelow j ?_⟩
  obtain ⟨k, hk, rfl⟩ := List.mem_take_iff_getElem.1 hj
  rw [hget]
  omega

/-- No slot is found where none gives an answer. -/
theorem findSome_slotIndices_none {α : Type} {g : SlotIx → Option α} (h : ∀ j, g j = none) :
    slotIndices.findSome? g = none := List.findSome?_eq_none_iff.2 fun j _ => h j

/-- What a pass over the slots leaves of them, where each of its steps rewrites its own slot's record alone. -/
theorem slot_foldl {g : State → SlotIx → State} {r : Record → Record}
    (hg : ∀ s j k, (g s j).slot k = if j = k then (s.slot k).map r else s.slot k) {l : List SlotIx} (hnodup : l.Nodup)
    (s : State) (k : SlotIx) : (l.foldl g s).slot k = if k ∈ l then (s.slot k).map r else s.slot k := by
  induction l generalizing s with
  | nil => rfl
  | cons j l ih =>
    obtain ⟨hj, hnodup⟩ := List.nodup_cons.1 hnodup
    rw [List.foldl_cons, ih hnodup, hg]
    by_cases hk : j = k
    · subst hk; simp [hj]
    · simp [hk, Ne.symm hk]

/-- A pass over all slots. -/
theorem slot_foldl_slotIndices {g : State → SlotIx → State} {r : Record → Record}
    (hg : ∀ s j k, (g s j).slot k = if j = k then (s.slot k).map r else s.slot k) (s : State) (k : SlotIx) :
    (slotIndices.foldl g s).slot k = (s.slot k).map r := by
  rw [slot_foldl hg slotIndices_nodup]
  exact if_pos (List.mem_finRange k)

/-! ## Frames reach their taking (R64, R66, R67, R69) -/

section Taking
variable {s t : State} {f : Frame} {rest : List Frame}

theorem exec_frameTaking (hc : s.canTake = true) (hs : s.rx.staged = f :: rest) :
    exec .frameTaking s = .next ((s.setRx { s.rx with staged := rest }).takeFrame f) := by
  have hexec : exec .frameTaking s = execFrameTaking s := rfl
  rw [hexec, execFrameTaking, State.takeIf, if_pos hc]
  dsimp only
  rw [hs]

/-- In PROXY and ROUSED a taken frame is classified (R66). -/
theorem State.takeFrame_of_lent (h : s.custody.state.lent = true) (f : Frame) : s.takeFrame f = s.classify f := by
  unfold State.takeFrame
  rcases (Custody.lent_iff _).1 h with h | h <;> rw [h]

/-- In the return a frame is held, or in discard mode counted and gone (R66). -/
theorem State.takeFrame_of_returning (h : s.custody.state = .quiesce ∨ s.custody.state = .drain) (f : Frame) :
    s.takeFrame f = if s.custody.discard then s.count (Counters.heldDiscard 1) else s.offerHeld f none := by
  unfold State.takeFrame
  rcases h with h | h <;> rw [h]

/-- In CHECKING a frame goes on to the station (R66). -/
theorem State.takeFrame_of_checking (h : s.custody.state = .checking) (f : Frame) :
    s.takeFrame f = (s.passToStation f).1 := by
  unfold State.takeFrame; rw [h]

/-- In HOME a frame goes on to the station, and is tracked where it was placed (R66, R128). -/
theorem State.takeFrame_of_home (h : s.custody.state = .home) (f : Frame) :
    s.takeFrame f =
      if (s.passToStation f).2 then (s.passToStation f).1.trackInbound f.bytes else (s.passToStation f).1 := by
  unfold State.takeFrame; rw [h]

/-- A frame the station cannot take is gone (R157). -/
theorem State.passToStation_discarded (h : s.pins.stnRdy = false ∨ s.stn.waiting ≠ none) (f : Frame) :
    s.passToStation f = (s, false) := by
  unfold State.passToStation
  split
  · rfl
  · next hready =>
    have hwaits : s.stn.waiting ≠ none := h.resolve_left hready
    split
    · next hw => exact absurd hw hwaits
    · next hw => exact absurd hw hwaits
    · rfl

/-- A frame takes the station output's free place (R157). -/
theorem State.passToStation_placed (hready : s.pins.stnRdy = true) (hfree : s.stn.waiting = none) (f : Frame) :
    s.passToStation f = (s.setStn (if s.stn.delivering = none then { s.stn with delivering := some (.passing f) }
      else { s.stn with waiting := some f }), true) := by
  unfold State.passToStation
  rw [if_neg (by rw [hready]; decide), hfree]
  cases s.stn.delivering <;> rfl

/-- An own echo is counted and goes no further (R69). -/
theorem State.classify_ownEcho (h : s.ownEcho f = true) : s.classify f = s.count Counters.seen := if_pos h

/-- A frame that a test claims is done with when that test has acted (R67). -/
theorem exec_of_classifies (h : s.classifies f rest) (ht : (s.afterCount rest).claimedBy f = some t) :
    exec .frameTaking s = .next t := by
  obtain ⟨hrun, hstaged, hecho⟩ := h
  obtain ⟨hcan, hlent⟩ : s.canTake = true ∧ s.custody.state.lent = true := Bool.and_eq_true_iff.1 hrun
  have hlent' : (s.setRx { s.rx with staged := rest }).custody.state.lent = true := hlent
  have hclassified : (s.setRx { s.rx with staged := rest }).classify f = t := by
    have hcount : (s.setRx { s.rx with staged := rest }).count Counters.seen = s.afterCount rest := rfl
    have hforeign : (s.afterCount rest).ownEcho f = false := hecho
    unfold State.classify
    dsimp only
    rw [hcount, hforeign, ht]
    rfl
  rw [exec_frameTaking hcan hstaged, State.takeFrame_of_lent hlent', hclassified]

end Taking

/-! ## The tests, slot by slot (R70 to R73) -/

section Tests
variable {s : State} {f : Frame} {i : SlotIx}

/-- A claim takes no frame that does not assert its address, or once it is LOST (R70). -/
theorem State.claimWatches_eq_none {bytes : List Byte}
    (h : ∀ c, s.claimAt i = some c → c.state ≠ .lost → c.assertedBy bytes = false) : s.claimWatches bytes i = none := by
  unfold State.claimWatches
  split
  · next c hc =>
    refine if_neg fun htakes => ?_
    have hpasses := h c hc htakes.1
    rw [htakes.2] at hpasses
    cases hpasses
  · rfl

theorem State.conflictTest_eq_none (h : s.noConflictBelow f 128) : s.conflictTest f = none := by
  unfold State.conflictTest
  split
  · next hwatch =>
    refine findSome_slotIndices_none fun j => ?_
    rw [State.claimWatches_eq_none fun c hc hl => h hwatch j c j.isLt hc hl]
    rfl
  · rfl

theorem State.conflictTest_eq_some {c : Claim} (hwatch : s.policy.conflictWatch = true)
    (hbelow : s.noConflictBelow f i.val) (hc : s.claimAt i = some c) (hl : c.state ≠ .lost)
    (ha : c.assertedBy f.bytes = true) : s.conflictTest f = some (s.conflictFor i c) := by
  have hwatches : s.claimWatches f.bytes i = some c := by
    unfold State.claimWatches; rw [hc]; exact if_pos ⟨hl, ha⟩
  unfold State.conflictTest
  rw [if_pos hwatch]
  refine findSome_slotIndices (by rw [hwatches]; rfl) fun j hj => ?_
  rw [State.claimWatches_eq_none fun d hd hdl => hbelow hwatch j d hj hd hdl]
  rfl

/-- A stream claims no frame that does not pass its inbound descriptor, or once it has ENDED (R71). -/
theorem State.streamTest_eq_none (h : s.noStreamBelow f 128) : s.streamTest f = none := by
  refine findSome_slotIndices_none fun j => ?_
  have hnone : s.streamClaims f.bytes j = none := by
    unfold State.streamClaims
    split
    · next t ht =>
      refine if_neg fun hclaims => ?_
      have hpasses := h j t j.isLt ht hclaims.1
      rw [hclaims.2] at hpasses
      cases hpasses
    · rfl
  rw [hnone]
  rfl

/-- What an exchange takes the fourth test claims (R72). -/
theorem Exchange.expecting_iff (x : Exchange) :
    x.expecting = true ↔ x.state = .awaiting ∨ (x.state = .queued ∧ x.resend = true) := by
  simp [Exchange.expecting]

/-- A frame passes a decline descriptor that is there (R72). -/
theorem Exchange.declines_iff (x : Exchange) (bytes : List Byte) :
    (x.cfg.decline.map (matchesFrame bytes)).getD false = true ↔
      ∃ d, x.cfg.decline = some d ∧ matchesFrame bytes d = true := by
  cases x.cfg.decline <;> simp

theorem Exchange.reaches_iff (x : Exchange) (bytes : List Byte) :
    x.reaches bytes = true ↔ ∀ c ∈ x.cfg.captureSpecs, c.offset + c.len ≤ bytes.length := by
  simp [Exchange.reaches]

/-- The verdicts of the fourth test: a decline and a reply only while a reply is expected, stale only else (R72). -/
theorem Exchange.verdict_decline {x : Exchange} {bytes : List Byte} (hx : x.expecting = true)
    (hd : ∃ d, x.cfg.decline = some d ∧ matchesFrame bytes d = true) : x.verdict bytes = some .decline := by
  unfold Exchange.verdict
  rw [if_pos hx, if_pos ((x.declines_iff bytes).2 hd)]

theorem Exchange.verdict_reply {x : Exchange} {bytes : List Byte} (hx : x.expecting = true)
    (hd : ¬ ∃ d, x.cfg.decline = some d ∧ matchesFrame bytes d = true) (ht : x.takes bytes) :
    x.verdict bytes = some .reply := by
  unfold Exchange.takes at ht
  rw [if_pos hx] at ht
  obtain ⟨hpasses, hreaches⟩ := ht.resolve_left hd
  unfold Exchange.verdict
  rw [if_pos hx, if_neg (mt (x.declines_iff bytes).1 hd), hpasses, (x.reaches_iff bytes).2 hreaches]
  rfl

theorem Exchange.verdict_stale {x : Exchange} {bytes : List Byte} (hx : x.expecting = false) (ht : x.takes bytes) :
    x.verdict bytes = some .stale := by
  unfold Exchange.takes at ht
  rw [if_neg (by rw [hx]; decide)] at ht
  unfold Exchange.verdict
  rw [if_neg (by rw [hx]; decide), ht]
  rfl

/-- A frame the exchange does not take has no verdict (R72). -/
theorem Exchange.verdict_eq_none {x : Exchange} {bytes : List Byte} (ht : ¬ x.takes bytes) : x.verdict bytes = none := by
  unfold Exchange.takes at ht
  unfold Exchange.verdict
  by_cases hx : x.expecting = true
  · rw [if_pos hx, not_or] at ht
    obtain ⟨hd, hr⟩ := ht
    rw [if_pos hx, if_neg (mt (x.declines_iff bytes).1 hd)]
    refine if_neg fun hreply => hr ?_
    obtain ⟨hpasses, hreaches⟩ := Bool.and_eq_true_iff.1 hreply
    exact ⟨hpasses, (x.reaches_iff bytes).1 hreaches⟩
  · rw [if_neg hx] at ht
    rw [if_neg hx, if_neg ht]

theorem State.exchangeTest_eq_none (h : s.noExchangeBelow f 128) : s.exchangeTest f = none := by
  refine findSome_slotIndices_none fun j => ?_
  split
  · rfl
  · next x hx => rw [Exchange.verdict_eq_none (h j x j.isLt hx)]; rfl

theorem State.exchangeTest_eq_some {x : Exchange} {v : ReplyVerdict} (hbelow : s.noExchangeBelow f i.val)
    (hx : s.exchangeAt i = some x) (hv : x.verdict f.bytes = some v) :
    s.exchangeTest f = some (s.exchangeFrame i x f v) := by
  refine findSome_slotIndices (i := i) (by rw [hx]; dsimp only; rw [hv]; rfl) fun j hj => ?_
  split
  · rfl
  · next y hy => rw [Exchange.verdict_eq_none (hbelow j y hj hy)]; rfl

theorem State.responderTest_eq_some {r : Responder} (hbelow : s.noResponderBelow f i.val) (hr : s.responderAt i = some r)
    (hm : matchesFrame f.bytes r.cfg.descriptor = true) : s.responderTest f = some (s.respondWith i r f) := by
  refine findSome_slotIndices (i := i) (by rw [hr]; exact if_pos hm) fun j hj => ?_
  split
  · rfl
  · next q hq => exact if_neg (by rw [hbelow j q hj hq]; decide)

/-- The first test that claims the frame is the one that acts (R67). -/
theorem State.claimedBy_conflict {t : State} (h : s.conflictTest f = some t) : s.claimedBy f = some t := by
  unfold State.claimedBy; rw [h]; rfl

theorem State.claimedBy_exchange {t : State} (hc : s.conflictTest f = none) (hs : s.streamTest f = none)
    (hx : s.exchangeTest f = some t) : s.claimedBy f = some t := by
  unfold State.claimedBy; rw [hc, hs, hx]; rfl

theorem State.claimedBy_responder {t : State} (hc : s.conflictTest f = none) (hs : s.streamTest f = none)
    (hx : s.exchangeTest f = none) (hr : s.responderTest f = some t) : s.claimedBy f = some t := by
  unfold State.claimedBy; rw [hc, hs, hx, hr]; rfl

end Tests

/-! ## Tracking of a line frame in HOME (R128, R129) -/

/-- A stream as a line frame placed in the station output leaves it (R128, R129). -/
def Stream.tracked (bytes : List Byte) (t : Stream) : Stream :=
  if t.cfg.tracking = true ∧ matchesFrame bytes t.cfg.inbound = true ∧ t.cfg.headerLen ≤ bytes.length then
    t.judge none (some (t.seqEnd bytes))
  else t

/-- A record as a line frame placed in the station output leaves it. -/
def Record.tracked (bytes : List Byte) : Record → Record
  | .stream t => .stream (t.tracked bytes)
  | r => r

/-- The half-range test that judges a proposal (R129). -/
theorem judged_eq (valid : Bool) (proposed current : SeqValue) :
    judged valid proposed current = if proposalTaken valid proposed current then proposed else current := by
  have htakes : proposalTaken valid proposed current = true ↔ valid = false ∨ (proposed - current).toNat < 2 ^ 31 := by
    rw [proposalTaken, aheadOrEqual, Bool.or_eq_true, Bool.not_eq_true', decide_eq_true_iff]
  exact (if_congr htakes rfl rfl).symm

/-- A proposed peer_seq is judged; with it or by an earlier proposal the values are valid (R129). -/
theorem Stream.judge_peerSeq (t : Stream) (v : SeqValue) :
    t.judge none (some v) = { t with peerSeq := judged t.valuesValid v t.peerSeq, valuesValid := true } := by
  rw [judged_eq]
  unfold Stream.judge
  cases htaken : proposalTaken t.valuesValid v t.peerSeq with
  | true => simp [htaken]
  | false =>
    have hvalid : t.valuesValid = true := by
      unfold proposalTaken at htaken
      simpa using (Bool.or_eq_false_iff.1 htaken).1
    rw [hvalid] at htaken
    simp [htaken, hvalid]

section Tracking
variable (s : State) (bytes : List Byte)

theorem State.trackInboundOne_eq (i : SlotIx) :
    s.trackInboundOne bytes i = s.setSlot i ((s.slot i).map (Record.tracked bytes)) := by
  have hkept : ∀ r, s.slot i = r → s = s.setSlot i r := fun r h => (s.setSlot_self i r h).symm
  unfold State.trackInboundOne State.streamAt
  cases hs : s.slot i with
  | none => exact hkept none hs
  | some r =>
    cases r with
    | stream t =>
      simp only [Option.map_some, Record.tracked, Stream.tracked]
      split
      · rfl
      · exact hkept _ hs
    | claim _ | responder _ | filter _ | exchange _ => exact hkept _ hs

/-- Tracking writes the slots alone. -/
theorem State.trackInbound_eq :
    s.trackInbound bytes = s.setTable { s.table with slots := (s.trackInbound bytes).table.slots } := by
  have hslots : ∃ v, s.trackInbound bytes = s.setTable { s.table with slots := v } := by
    refine List.foldlRecOn (motive := fun u => ∃ v, u = s.setTable { s.table with slots := v }) slotIndices _
      ⟨s.table.slots, rfl⟩ fun u hu i _ => ?_
    obtain ⟨v, rfl⟩ := hu
    rw [State.trackInboundOne_eq]
    exact ⟨_, rfl⟩
  obtain ⟨v, hv⟩ := hslots
  rw [hv]
  rfl

theorem State.slot_trackInbound (i : SlotIx) : (s.trackInbound bytes).slot i = (s.slot i).map (Record.tracked bytes) := by
  refine slot_foldl_slotIndices (fun u j k => ?_) s i
  rw [State.trackInboundOne_eq, State.slot_setSlot]
  by_cases h : j = k
  · subst h; simp
  · simp [h]

end Tracking

end Sys2Proof.Machine

open Sys2Proof Sys2Proof.Machine

/-- Settles O42: each custody state has its own way for a taken frame; in HOME the frame placed is then tracked slot by
slot. -/
theorem framesFollowCustody : Obligations.FramesFollowCustody := by
  intro s f rest hc hs u placed
  have htaken : exec .frameTaking s = .next (u.takeFrame f) := exec_frameTaking hc hs
  refine ⟨fun hstate hgone => ?_, fun hstate hready hfree => ?_, fun hstate hready hfree => ?_, fun hlent hecho => ?_,
    fun hstate => ⟨fun hdiscard => ?_, fun hdiscard => ?_⟩⟩
  · have hpass : u.passToStation f = (u, false) := State.passToStation_discarded (s := u) hgone f
    rcases hstate with hstate | hstate
    · rw [htaken, State.takeFrame_of_home (s := u) hstate, hpass]; rfl
    · rw [htaken, State.takeFrame_of_checking (s := u) hstate, hpass]
  · rw [htaken, State.takeFrame_of_checking (s := u) hstate, State.passToStation_placed (s := u) hready hfree]
    rfl
  · have hpass : u.passToStation f = (u.setStn placed, true) := State.passToStation_placed (s := u) hready hfree f
    refine ⟨(u.setStn placed).trackInbound f.bytes, ?_, State.trackInbound_eq _ _, fun i => ?_⟩
    · rw [htaken, State.takeFrame_of_home (s := u) hstate, hpass]; rfl
    · have hslot := (u.setStn placed).slot_trackInbound f.bytes i
      rw [show (u.setStn placed).slot i = s.slot i from rfl] at hslot
      refine ⟨fun x hx => ?_, fun hother => ?_⟩
      · rw [hslot, hx]
        simp only [Option.map_some, Record.tracked, Stream.tracked, Stream.judge_peerSeq, Stream.seqEnd]
      · rw [hslot]
        cases h : s.slot i with
        | none => rfl
        | some r =>
          cases r with
          | stream x => exact absurd h (hother x)
          | claim _ | responder _ | filter _ | exchange _ => rfl
  · have hown : u.ownEcho f = true := decide_eq_true hecho
    rw [htaken, State.takeFrame_of_lent (s := u) hlent, State.classify_ownEcho hown]
    rfl
  · have hdiscard' : u.custody.discard = true := hdiscard
    rw [htaken, State.takeFrame_of_returning (s := u) hstate, if_pos hdiscard']
    rfl
  · have hdiscard' : u.custody.discard = false := hdiscard
    rw [htaken, State.takeFrame_of_returning (s := u) hstate, hdiscard']
    rfl

end

section
/-! SUPPORT. The engines' writes as rewrites of a record with their marks, a claim's loss as the statements say it, a
conflict (R70, R85, R86, R88, R93). -/

namespace Sys2Proof.Machine

/-! ## Records rewritten, with the marks their engines report (R96, R111, R130, R148) -/

section Rewritten
variable (s : State) (i : SlotIx)

/-! The engines' writes of a record are rewrites with the marks of the change. -/

theorem State.putClaim_eq (a b : Claim) : s.putClaim i a b = s.rewrite i (.claim b) (claimMarks a b) := rfl

theorem State.putResponder_eq (a b : Responder) :
    s.putResponder i a b = s.rewrite i (.responder b) (responderMarks a b) := rfl

theorem State.putStream_eq (a b : Stream) : s.putStream i a b = s.rewrite i (.stream b) (streamMarks a b) :=
  congrArg (s.rewrite i (.stream b)) (BitVec.or_zero (x := streamMarks a b))

theorem State.putExchange_eq (a b : Exchange) :
    s.putExchange i a b = s.rewrite i (.exchange b) (exchangeMarks a b) :=
  congrArg (s.rewrite i (.exchange b)) (BitVec.or_zero (x := exchangeMarks a b))

/-- A rewrite changes the table and the change list alone. -/
@[simp] theorem State.rewrite_frame (r : Record) (m : BitVec 8) :
    (s.rewrite i r m).clk = s.clk ∧ (s.rewrite i r m).custody = s.custody ∧ (s.rewrite i r m).policy = s.policy ∧
      (s.rewrite i r m).guard = s.guard ∧ (s.rewrite i r m).counters = s.counters ∧ (s.rewrite i r m).tx = s.tx ∧
      (s.rewrite i r m).held = s.held := by
  unfold State.rewrite; split <;> simp

/-- The slot a record is rewritten in holds it, and no other slot changes. -/
theorem State.slot_rewrite (r : Record) (m : BitVec 8) (k : SlotIx) :
    (s.rewrite i r m).slot k = if i = k then some r else s.slot k := by
  unfold State.rewrite; split <;> simp [State.slot_setSlot]

/-- A record rewritten and then replaced is rewritten to the last. -/
theorem State.rewrite_setSlot (r r' : Record) (m : BitVec 8) :
    (s.rewrite i r m).setSlot i (some r') = s.rewrite i r' m := by
  unfold State.rewrite
  split
  · exact s.setSlot_setSlot i (some r) (some r')
  · exact congrArg (State.setCond · { s.cond with changes := addChange s.cond.changes i m })
      (s.setSlot_setSlot i (some r) (some r'))

end Rewritten

/-! A change of state is marked as one. -/

theorem claimMarks_of_state {a b : Claim} (h : b.state ≠ a.state) : claimMarks a b = 0x01 := if_pos h

theorem streamMarks_of_state {a b : Stream} (h : b.state ≠ a.state) : streamMarks a b = 0x01 := if_pos h

theorem exchangeMarks_of_state {a b : Exchange} (h : b.state ≠ a.state) :
    exchangeMarks a b = if b.captures = a.captures then 0x01 else 0x03 := by
  unfold exchangeMarks
  by_cases hc : b.captures = a.captures <;> simp [h, hc, markState, markValues]

/-- A counter is raised but where it is saturated (section 6.6). -/
theorem bump16_eq_self_iff (c : Count16) : bump16 c = c ↔ c = 0xFFFF := by
  unfold bump16
  split
  · next h => simp [h]
  · next h => exact iff_of_false (by simp) h

theorem responderMarks_suppressed (r : Responder) :
    responderMarks r { r with answersSuppressed := bump16 r.answersSuppressed } = countMark r.answersSuppressed := by
  unfold responderMarks countMark
  by_cases h : r.answersSuppressed = 0xFFFF
  · rw [if_pos h, if_neg (by simp [(bump16_eq_self_iff _).2 h])]
  · rw [if_neg h, if_pos (.inr (mt (bump16_eq_self_iff _).1 h))]; rfl

/-! ## A claim that wants an item (R88) -/

section Wants
variable {s : State} {i : SlotIx} {c : Claim}

theorem State.hasItem_iff : s.hasItem i = true ↔ ∃ item ∈ s.tx.own, item.slot = i := by simp [State.hasItem]

theorem State.hasItem_eq_false (h : ∀ item ∈ s.tx.own, item.slot ≠ i) : s.hasItem i = false := by
  refine Bool.eq_false_iff.2 fun hi => ?_
  obtain ⟨item, hitem, hslot⟩ := State.hasItem_iff.1 hi
  exact h item hitem hslot

/-- An item already queued or due keeps its place and purpose. -/
theorem State.wantClaimItem_kept (h : c.dueItem ≠ none ∨ ∃ item ∈ s.tx.own, item.slot = i) (p : Purpose) :
    s.wantClaimItem i c p = s :=
  if_pos (h.elim (fun hd => .inr (Option.isSome_iff_ne_none.2 hd)) fun hi => .inl (State.hasItem_iff.2 hi))

/-- An item joins the queue where there is room. -/
theorem State.wantClaimItem_queued (hroom : s.roomFor i) (hd : c.dueItem = none) (p : Purpose) :
    s.wantClaimItem i c p = s.queued (.claim i p) := by
  have hfree : s.hasItem (OwnItem.claim i p).slot = false := State.hasItem_eq_false hroom.1
  have hown : s.ownRoom = true := decide_eq_true hroom.2
  unfold State.wantClaimItem State.pushItem
  rw [if_neg (by simp [State.hasItem_eq_false hroom.1, hd]), if_pos hown, hfree]
  rfl

/-- An item waits as item due where there is none. -/
theorem State.wantClaimItem_due (hroom : s.noRoomFor i) (hd : c.dueItem = none) (p : Purpose) :
    s.wantClaimItem i c p = s.setSlot i (some (.claim { c with dueItem := some p })) := by
  have hfull : s.ownRoom = false := decide_eq_false (Nat.not_lt.2 hroom.2)
  unfold State.wantClaimItem
  rw [if_neg (by simp [State.hasItem_eq_false hroom.1, hd]), hfull]
  rfl

end Wants

/-! ## A claim's loss (R93) -/

/-- A record as the loss of a claim leaves it: a stream linked to the claim has ended (R93, R119). -/
def Record.endedWith (claim : SlotIx) : Record → Record
  | .stream t => .stream (if t.cfg.claimLink = some claim ∧ t.state ≠ .ended then t.endedForm else t)
  | r => r

section Loss
variable {s : State} {i : SlotIx}

theorem State.endStream_eq {x : Stream} (h : x.state ≠ .ended) (j : SlotIx) :
    s.endStream j x x = s.endsStream j x 0x01 := by
  unfold State.endStream State.endsStream
  rw [State.putStream_eq, streamMarks_of_state (b := x.endedForm) h.symm]
  rfl

/-- A stream that is not there, not linked or already ENDED stays. -/
theorem State.endLinkedStream_kept {j : SlotIx}
    (h : ∀ x, s.streamAt j = some x → ¬ (x.cfg.claimLink = some i ∧ x.state ≠ .ended)) : s.endLinkedStream i j = s := by
  unfold State.endLinkedStream
  split
  · rfl
  · next x hx => exact if_neg (h x hx)

/-- A linked stream ends with STREAM_ENDED. -/
theorem State.endLinkedStream_ended {j : SlotIx} {x : Stream} (hx : s.streamAt j = some x)
    (h : x.cfg.claimLink = some i ∧ x.state ≠ .ended) :
    s.endLinkedStream i j = (s.endsStream j x 0x01).raise .streamEnded (some j) := by
  unfold State.endLinkedStream
  rw [hx]
  dsimp only
  rw [if_pos h, State.endStream_eq h.2]

/-- What the end of a slot's linked stream leaves of the slots. -/
theorem State.slot_endLinkedStream (s : State) (j k : SlotIx) :
    (s.endLinkedStream i j).slot k = if j = k then (s.slot k).map (Record.endedWith i) else s.slot k := by
  by_cases h : ∃ x, s.streamAt j = some x ∧ x.cfg.claimLink = some i ∧ x.state ≠ .ended
  · obtain ⟨x, hx, hends⟩ := h
    have hslot := (s.streamAt_eq_some j x).1 hx
    rw [State.endLinkedStream_ended hx hends, State.raise_slot, State.endsStream, State.unqueued, State.slot_setTx,
      State.slot_rewrite]
    by_cases hjk : j = k
    · subst hjk
      rw [if_pos rfl, if_pos rfl, hslot, Option.map_some, Record.endedWith, if_pos hends]
      rfl
    · rw [if_neg hjk, if_neg hjk]
  · have hkept : ∀ x, s.streamAt j = some x → ¬ (x.cfg.claimLink = some i ∧ x.state ≠ .ended) :=
      fun x hx hends => h ⟨x, hx, hends⟩
    rw [State.endLinkedStream_kept hkept]
    by_cases hjk : j = k
    · subst hjk
      rw [if_pos rfl]
      cases hslot : s.slot j with
      | none => rfl
      | some r =>
        cases r with
        | stream x =>
          rw [Option.map_some, Record.endedWith, if_neg (hkept x ((s.streamAt_eq_some j x).2 hslot))]
        | claim _ | responder _ | filter _ | exchange _ => rfl
    · rw [if_neg hjk]

/-- The end of a linked stream leaves the answers, and of the items those of other slots. -/
theorem State.endLinkedStream_tx (s : State) (j : SlotIx) :
    (s.endLinkedStream i j).tx.answers = s.tx.answers ∧
      ∀ item ∈ (s.endLinkedStream i j).tx.own, item ∈ s.tx.own := by
  by_cases h : ∃ x, s.streamAt j = some x ∧ x.cfg.claimLink = some i ∧ x.state ≠ .ended
  · obtain ⟨x, hx, hends⟩ := h
    rw [State.endLinkedStream_ended hx hends]
    have htx : ((s.endsStream j x 0x01).raise .streamEnded (some j)).tx =
        { s.tx with own := s.tx.own.filter fun item => decide (item.slot ≠ j) } := by
      simp [State.endsStream, State.unqueued]
    rw [htx]
    exact ⟨rfl, fun item hitem => List.mem_of_mem_filter hitem⟩
  · rw [State.endLinkedStream_kept fun x hx hends => h ⟨x, hx, hends⟩]
    exact ⟨rfl, fun _ hitem => hitem⟩

/-- The state in which a loss has left the record, its item and the condition, and the answers are purged (R93). -/
def State.lossRaised (s : State) (i : SlotIx) (c : Claim) : State :=
  ((s.rewrite i (.claim c.lostForm) 0x01).unqueued i).raise .claimLost (some i)

theorem State.loseClaim_raised {old : Claim} (hl : old.state ≠ .lost) (c : Claim) :
    s.loseClaim i old c = slotIndices.foldl (State.endLinkedStream i) ((s.lossRaised i c).purgeAnswers i) := by
  unfold State.loseClaim
  rw [State.putClaim_eq, claimMarks_of_state (b := c.lostForm) hl.symm]
  rfl

theorem State.slot_lossRaised (s : State) (c : Claim) (k : SlotIx) :
    (s.lossRaised i c).slot k = if i = k then some (.claim c.lostForm) else s.slot k := by
  rw [State.lossRaised, State.raise_slot, State.unqueued, State.slot_setTx, State.slot_rewrite]

/-- The purge finds the responders as the loss found them: the claim's own slot held none. -/
theorem State.answerLinkedTo_lossRaised {old : Claim} (hold : s.claimAt i = some old) (c : Claim) (a : Answer) :
    (s.lossRaised i c).answerLinkedTo i a = (decide (a.origin = .responder) &&
      decide ((s.responderAt a.slot).map (fun r => r.cfg.claimLink) = some (some i))) := by
  have hresponder : (s.lossRaised i c).responderAt a.slot = s.responderAt a.slot := by
    unfold State.responderAt
    rw [State.slot_lossRaised]
    by_cases h : i = a.slot
    · rw [if_pos h, ← h, (s.claimAt_eq_some i old).1 hold]
    · rw [if_neg h]
  unfold State.answerLinkedTo
  rw [hresponder]
  cases s.responderAt a.slot <;> simp

/-- A claim's loss is the loss the statements spell out (R93). -/
theorem State.loseClaim_eq {old : Claim} (hold : s.claimAt i = some old) (hl : old.state ≠ .lost) (c : Claim) :
    s.loseClaim i old c = s.losesClaim i c := by
  have hlinked := funext (State.answerLinkedTo_lossRaised hold c)
  have hended : State.endLinkedStream i = fun (s : State) (j : SlotIx) =>
      match s.streamAt j with
      | some x =>
        if x.cfg.claimLink = some i ∧ x.state ≠ .ended then (s.endsStream j x 0x01).raise .streamEnded (some j) else s
      | none => s := by
    funext u j
    split
    · next x hx =>
      split
      · next hends => exact State.endLinkedStream_ended hx hends
      · next hends =>
        refine State.endLinkedStream_kept fun y hy => ?_
        obtain rfl := Option.some.inj (hx.symm.trans hy)
        exact hends
    · next hx =>
      refine State.endLinkedStream_kept fun y hy => ?_
      rw [hx] at hy; cases hy
  rw [State.loseClaim_raised hl, State.purgeAnswers, hlinked, hended]
  rfl

/-- What a loss leaves of the slots: the claim LOST, its streams ENDED (R93). -/
theorem State.slot_loseClaim {old : Claim} (hl : old.state ≠ .lost) (c : Claim) (k : SlotIx) :
    (s.loseClaim i old c).slot k =
      (if i = k then some (.claim c.lostForm) else s.slot k).map (Record.endedWith i) := by
  rw [State.loseClaim_raised hl, slot_foldl_slotIndices State.slot_endLinkedStream, State.purgeAnswers_slot,
    State.slot_lossRaised]

/-- A loss leaves no item of the claim, and the answers that the purge left (R93). -/
theorem State.loseClaim_tx {old : Claim} (hl : old.state ≠ .lost) (c : Claim) :
    (s.loseClaim i old c).tx.answers =
        (s.lossRaised i c).tx.answers.filter (fun a => !(s.lossRaised i c).answerLinkedTo i a) ∧
      ∀ item ∈ (s.loseClaim i old c).tx.own, item.slot ≠ i := by
  rw [State.loseClaim_raised hl]
  refine List.foldlRecOn (motive := fun (u : State) => u.tx.answers = (s.lossRaised i c).tx.answers.filter
    (fun a => !(s.lossRaised i c).answerLinkedTo i a) ∧ ∀ item ∈ u.tx.own, item.slot ≠ i) slotIndices _
    ⟨rfl, fun item hitem => ?_⟩ fun u hu j _ => ?_
  · have hown : ((s.lossRaised i c).purgeAnswers i).tx.own = s.tx.own.filter fun item => decide (item.slot ≠ i) := by
      simp [State.purgeAnswers, State.lossRaised, State.unqueued]
    rw [hown] at hitem
    exact of_decide_eq_true (List.mem_filter.1 hitem).2
  · obtain ⟨hanswers, hown⟩ := u.endLinkedStream_tx (i := i) j
    exact ⟨hanswers.trans hu.1, fun item hitem => hu.2 item (hown item hitem)⟩

/-- A record is a stream linked to the claim that is lost only once it has ENDED. -/
theorem Record.endedWith_stream {r : Record} {x : Stream} (h : r.endedWith i = .stream x)
    (hlink : x.cfg.claimLink = some i) : x.state = .ended := by
  cases r with
  | stream t =>
    simp only [Record.endedWith, Record.stream.injEq] at h
    subst h
    by_cases hends : t.cfg.claimLink = some i ∧ t.state ≠ .ended
    · rw [if_pos hends]; rfl
    · rw [if_neg hends] at hlink ⊢
      exact not_not.1 fun hne => hends ⟨hlink, hne⟩
  | claim _ | responder _ | filter _ | exchange _ => cases h

/-- The end of streams leaves every other record. -/
theorem Record.endedWith_eq_claim {r : Record} {c : Claim} : r.endedWith i = .claim c ↔ r = .claim c := by
  cases r <;> simp [Record.endedWith]

theorem Record.endedWith_eq_responder {r : Record} {q : Responder} : r.endedWith i = .responder q ↔ r = .responder q := by
  cases r <;> simp [Record.endedWith]

/-- A loss leaves every other claim. -/
theorem State.claimAt_loseClaim {old : Claim} (hl : old.state ≠ .lost) (c : Claim) (k : SlotIx) :
    (s.loseClaim i old c).claimAt k = if i = k then some c.lostForm else s.claimAt k := by
  refine Option.ext fun d => ?_
  rw [State.claimAt_eq_some, State.slot_loseClaim hl, Option.map_eq_some_iff]
  simp only [Record.endedWith_eq_claim, exists_eq_right]
  by_cases h : i = k
  · simp [h]
  · rw [if_neg h, if_neg h, State.claimAt_eq_some]

/-- No answer is left of a responder linked to a lost claim (R93). -/
theorem State.loseClaim_answers {old : Claim} (hl : old.state ≠ .lost) (c : Claim) {a : Answer} {q : Responder}
    (ha : a ∈ (s.loseClaim i old c).tx.answers) (horigin : a.origin = .responder)
    (hq : (s.loseClaim i old c).responderAt a.slot = some q) : q.cfg.claimLink ≠ some i := by
  rw [(State.loseClaim_tx hl c).1] at ha
  have hkept := (List.mem_filter.1 ha).2
  have hfound : (s.lossRaised i c).responderAt a.slot = some q := by
    rw [State.responderAt_eq_some, State.slot_loseClaim hl, ← State.slot_lossRaised, Option.map_eq_some_iff] at hq
    obtain ⟨r, hr, hended⟩ := hq
    rw [State.responderAt_eq_some, hr, Record.endedWith_eq_responder.1 hended]
  intro hlink
  simp [State.answerLinkedTo, horigin, hfound, hlink] at hkept

end Loss

/-! ## A conflict (R85, R86) -/

/-- A HELD claim that is defended (R85). -/
def Claim.defended (now : Time) (c : Claim) : Claim :=
  { c with
    conflictsSeen := bump16 c.conflictsSeen
    state := .contested
    timer := some (.defenceWindow (timeAfter now c.cfg.defenceWindow)) }

section Conflict
variable {s : State} {i : SlotIx} {c : Claim}

/-- A HELD claim is rewritten, wants its announcement where it has one, and raises CONFLICT (R85). -/
theorem State.conflictFor_held (h : c.state = .held) :
    s.conflictFor i c = (if c.cfg.announceTemplate.isSome
      then (s.rewrite i (.claim (c.defended s.clk.partTime)) 0x01).wantClaimItem i (c.defended s.clk.partTime) .announcement
      else s.rewrite i (.claim (c.defended s.clk.partTime)) 0x01).raise .conflict (some i) := by
  have hmarks : claimMarks c (c.defended s.clk.partTime) = 0x01 := claimMarks_of_state (by rw [h]; exact nofun)
  rw [← hmarks, ← State.putClaim_eq]
  unfold State.conflictFor
  dsimp only
  rw [h]
  rfl

/-- A CONTESTED or PROBING claim is lost (R86). -/
theorem State.conflictFor_lost (h : c.state = .contested ∨ c.state = .probing) :
    s.conflictFor i c = s.loseClaim i c { c with conflictsSeen := bump16 c.conflictsSeen } := by
  unfold State.conflictFor
  dsimp only
  rcases h with h | h <;> rw [h]

end Conflict

end Sys2Proof.Machine

open Sys2Proof Sys2Proof.Machine

/-- Settles O43: the conflict watch finds the claim; its announcement is queued, due or kept by the room there is, and a loss is
read off slot by slot. -/
theorem conflictsAreDefendedOrLost : Obligations.ConflictsAreDefendedOrLost := by
  intro s f rest i c hs hwatch hbelow hc hl ha u counted defended
  have hc' : u.claimAt i = some c := hc
  have htaken : exec .frameTaking s = .next (u.conflictFor i c) := exec_of_classifies hs
    (State.claimedBy_conflict (State.conflictTest_eq_some hwatch hbelow hc' hl ha))
  have htx : (u.rewrite i (.claim defended) 0x01).tx = s.tx := by
    simp [u, State.afterCount]
  refine ⟨fun hheld => ⟨fun htemplate hdue => ⟨fun hroom => ?_, fun hroom => ?_⟩, fun hkept => ?_⟩, fun hstate => ?_⟩
  · have hroom' : (u.rewrite i (.claim defended) 0x01).roomFor i := by simpa only [State.roomFor, htx] using hroom
    rw [htaken, State.conflictFor_held hheld, if_pos (Option.isSome_iff_ne_none.2 htemplate)]
    exact congrArg (fun v : State => Host.Outcome.next (v.raise .conflict (some i)))
      (State.wantClaimItem_queued (c := defended) hroom' hdue .announcement)
  · have hroom' : (u.rewrite i (.claim defended) 0x01).noRoomFor i := by simpa only [State.noRoomFor, htx] using hroom
    rw [htaken, State.conflictFor_held hheld, if_pos (Option.isSome_iff_ne_none.2 htemplate)]
    exact congrArg (fun v : State => Host.Outcome.next (v.raise .conflict (some i)))
      ((State.wantClaimItem_due (c := defended) hroom' hdue .announcement).trans (u.rewrite_setSlot i _ _ _))
  · rw [htaken, State.conflictFor_held hheld]
    refine congrArg (fun v : State => Host.Outcome.next (v.raise .conflict (some i))) ?_
    split
    · next hsome =>
      have hkept' : defended.dueItem ≠ none ∨ ∃ item ∈ (u.rewrite i (.claim defended) 0x01).tx.own, item.slot = i := by
        rw [htx]
        exact hkept.resolve_left (Option.isSome_iff_ne_none.1 hsome)
      exact State.wantClaimItem_kept hkept' .announcement
    · rfl
  · have hlost : u.conflictFor i c = u.loseClaim i c counted := State.conflictFor_lost hstate
    refine ⟨_, htaken, hlost.trans (State.loseClaim_eq hc' hl counted), ?_⟩
    rw [hlost]
    refine ⟨⟨_, (State.claimAt_loseClaim hl counted i).trans (if_pos rfl), rfl⟩, (State.loseClaim_tx hl counted).2,
      fun j x hx hlink => ?_, fun a hmem r horigin hr => State.loseClaim_answers hl counted hmem horigin hr,
      fun j hj => (State.claimAt_loseClaim hl counted j).trans (if_neg (Ne.symm hj))⟩
    rw [State.streamAt_eq_some, State.slot_loseClaim hl, Option.map_eq_some_iff] at hx
    obtain ⟨r, -, hr⟩ := hx
    exact Record.endedWith_stream hr hlink

end

section
/-! SUPPORT. A halt as the statements say it, a reply and its schedule, a responder's answer (R94, R99 to R102, R136 to
R143). -/

namespace Sys2Proof.Machine

/-! ## A halt (R94, R143) -/

section Halt
variable {s : State} {i : SlotIx}

/-- A claim that is not there, not linked or already LOST stays. -/
theorem State.loseLinkedClaim_kept {j : SlotIx}
    (h : ∀ c, s.claimAt j = some c → ¬ (c.cfg.exchangeLink = some i ∧ c.state ≠ .lost)) : s.loseLinkedClaim i j = s := by
  unfold State.loseLinkedClaim
  split
  · rfl
  · next c hc => exact if_neg (h c hc)

/-- A linked claim is lost (R94). -/
theorem State.loseLinkedClaim_lost {j : SlotIx} {c : Claim} (hc : s.claimAt j = some c)
    (h : c.cfg.exchangeLink = some i ∧ c.state ≠ .lost) : s.loseLinkedClaim i j = s.losesClaim j c := by
  rw [← State.loseClaim_eq hc h.2]
  unfold State.loseLinkedClaim
  rw [hc]
  exact if_pos h

/-- An exchange's halt is the halt the statements spell out (R143, R94). -/
theorem State.haltExchange_eq {x : Exchange} (h : x.state ≠ .halted) (reason : HaltReason) :
    s.haltExchange i x x reason = s.haltsExchange i x reason := by
  have hlost : State.loseLinkedClaim i = fun (s : State) (j : SlotIx) =>
      match s.claimAt j with
      | some c => if c.cfg.exchangeLink = some i ∧ c.state ≠ .lost then s.losesClaim j c else s
      | none => s := by
    funext u j
    split
    · next c hc =>
      split
      · next hlinked => exact State.loseLinkedClaim_lost hc hlinked
      · next hlinked =>
        refine State.loseLinkedClaim_kept fun d hd => ?_
        obtain rfl := Option.some.inj (hc.symm.trans hd)
        exact hlinked
    · next hc =>
      refine State.loseLinkedClaim_kept fun d hd => ?_
      rw [hc] at hd; cases hd
  have hmarks : exchangeMarks x
      { x with state := .halted, haltReason := some reason, timer := none, itemDue := false, resend := false } = 0x01 :=
    (exchangeMarks_of_state h.symm).trans (if_pos rfl)
  unfold State.haltExchange
  dsimp only
  rw [State.putExchange_eq, hmarks, hlost]
  cases reason <;> rfl

end Halt

/-! ## A reply (R136 to R139) -/

/-- A reply taken, before the next round is scheduled (R136, R137). -/
def Exchange.replied (bytes : List Byte) (x : Exchange) : Exchange :=
  { x with captures := x.captured bytes, replies := bump16 x.replies, itemDue := false, attempts := 0, resend := false }

section Reply
variable {x : Exchange} {k fraction minDelay maxDelay : Nat}

theorem Exchange.scheduled_fixed {period : Nat} (h : x.cfg.schedule = .fixed period) (now : Time) :
    x.scheduled now = { x with state := .waiting, nextDue := timeAfter now period, timer := some .nextDue } := by
  unfold Exchange.scheduled; rw [h]

theorem Exchange.scheduled_rest (h : x.cfg.schedule = .captured k fraction minDelay maxDelay)
    (hv : x.captures.toList.getD k 0 = 0xFFFFFFFF) (now : Time) :
    x.scheduled now = { x with state := .rest, timer := none } := by
  unfold Exchange.scheduled; rw [h]; exact if_pos hv

theorem Exchange.scheduled_captured (h : x.cfg.schedule = .captured k fraction minDelay maxDelay)
    (hv : x.captures.toList.getD k 0 ≠ 0xFFFFFFFF) (hrange : minDelay ≤ maxDelay) (now : Time) :
    x.scheduled now = { x with
      state := .waiting, timer := some .nextDue
      nextDue := timeAfter now
        (max minDelay (min ((x.captures.toList.getD k 0).toNat * 16 * fraction / 256) maxDelay)) } := by
  rw [← clamp_eq hrange]
  unfold Exchange.scheduled; rw [h]; exact if_neg hv

/-- The next round waits or the exchange rests, and the captures stay (R138, R139). -/
theorem Exchange.scheduled_kept (x : Exchange) (now : Time) :
    ((x.scheduled now).state = .waiting ∨ (x.scheduled now).state = .rest) ∧ (x.scheduled now).captures = x.captures := by
  unfold Exchange.scheduled
  split
  · exact ⟨.inl rfl, rfl⟩
  · dsimp only
    split
    · exact ⟨.inr rfl, rfl⟩
    · exact ⟨.inl rfl, rfl⟩

/-- A reply rewrites the exchange with its captures and its schedule, and takes its item away (R137). -/
theorem State.acceptReply_eq (h : x.state = .awaiting ∨ x.state = .queued) (s : State) (i : SlotIx) (bytes : List Byte) :
    s.acceptReply i x bytes = (s.rewrite i (.exchange ((x.replied bytes).scheduled s.clk.partTime))
      (if x.captured bytes = x.captures then 0x01 else 0x03)).unqueued i := by
  obtain ⟨hstate, hcaptures⟩ := (x.replied bytes).scheduled_kept s.clk.partTime
  have hmoved : ((x.replied bytes).scheduled s.clk.partTime).state ≠ x.state := by
    rcases h with h | h <;> rcases hstate with hs | hs <;> rw [h, hs] <;> exact nofun
  have hmarks := exchangeMarks_of_state hmoved
  rw [hcaptures] at hmarks
  exact congrArg (State.unqueued · i) ((s.putExchange_eq i _ _).trans (congrArg (s.rewrite i _) hmarks))

end Reply

/-! ## A responder's answer (R99 to R102) -/

section Answer
variable {s : State}

/-- The claim gate is open without a link, and where the linked claim is HELD or CONTESTED (R100). -/
theorem State.gatePasses_iff (link : Link) : s.gatePasses link = true ↔
    ∀ j, link = some j → ∃ c, s.claimAt j = some c ∧ (c.state = .held ∨ c.state = .contested) := by
  cases link with
  | none => exact iff_of_true rfl fun _ h => nomatch h
  | some j =>
    unfold State.gatePasses
    dsimp only
    split
    · next c hc => simp [hc]
    · next hc => simp [hc]

/-- The gate looks at the table alone. -/
theorem State.gatePasses_congr {t : State} (h : t.table = s.table) (link : Link) :
    t.gatePasses link = s.gatePasses link := by
  unfold State.gatePasses State.claimAt State.slot; rw [h]

/-- In PROXY and ROUSED a match counts where the flood guard is on and a window runs (R99, R107). -/
theorem State.countDemand_of_lent (h : s.custody.state.lent = true) :
    s.countDemand = if s.policy.floodEnable = true ∧ s.guard.windowEnd ≠ none
      then s.setGuard { s.guard with demand := bump16 s.guard.demand } else s := by
  refine if_congr ?_ rfl rfl
  simp [State.guardCounts, h, Option.isSome_iff_ne_none]

/-- An answer is built and joins the answer queue where the link is up and a place is free (R102). -/
theorem State.answerWith_placed (hup : s.tx.linkUp = true) (hroom : s.tx.answers.length < 8) (i : SlotIx)
    (origin : AnswerOrigin) (owner : Record) (t : Template) (received : List Byte) :
    s.answerWith i origin owner t received = s.setTx { s.tx with
      answers := s.tx.answers ++ [{ bytes := s.build owner t received, slot := i, origin }] } := by
  have hplace : s.answerRoom = true := by rw [State.answerRoom, hup, Bool.true_and]; exact decide_eq_true hroom
  exact if_pos hplace

/-- An answer without a place is counted as dropped (R102). -/
theorem State.answerWith_dropped (h : s.tx.linkUp = false ∨ 8 ≤ s.tx.answers.length) (i : SlotIx) (origin : AnswerOrigin)
    (owner : Record) (t : Template) (received : List Byte) :
    s.answerWith i origin owner t received =
      s.setCounters { s.counters with answersDropped := bump32 s.counters.answersDropped } := by
  have hfull : ¬ s.answerRoom = true := by
    intro hplace
    obtain ⟨hup, hroom⟩ := Bool.and_eq_true_iff.1 hplace
    rcases h with h | h
    · rw [h] at hup; cases hup
    · exact absurd (of_decide_eq_true hroom) (Nat.not_lt.2 h)
  exact if_neg hfull

/-- A responder behind a closed gate only counts the match (R100). -/
theorem State.respondWith_shut {r : Responder} (h : ¬ s.countDemand.gatePasses r.cfg.claimLink = true) (i : SlotIx)
    (f : Frame) : s.respondWith i r f = s.countDemand := if_pos (Bool.not_eq_true _ ▸ h)

/-- In FLOODED a courtesy is suppressed and counted (R101). -/
theorem State.respondWith_suppressed {r : Responder} (h : s.countDemand.gatePasses r.cfg.claimLink = true)
    (hflood : r.cfg.cls = .courtesy ∧ s.countDemand.guard.state = .flooded) (i : SlotIx) (f : Frame) :
    s.respondWith i r f = s.countDemand.rewrite i
      (.responder { r with answersSuppressed := bump16 r.answersSuppressed }) (countMark r.answersSuppressed) := by
  rw [← responderMarks_suppressed, ← State.putResponder_eq]
  unfold State.respondWith
  dsimp only
  rw [if_neg (by rw [h]; decide), if_pos hflood]

/-- Otherwise the responder answers (R102). -/
theorem State.respondWith_answer {r : Responder} (h : s.countDemand.gatePasses r.cfg.claimLink = true)
    (hflood : ¬ (r.cfg.cls = .courtesy ∧ s.countDemand.guard.state = .flooded)) (i : SlotIx) (f : Frame) :
    s.respondWith i r f = s.countDemand.answerWith i .responder (.responder r) r.cfg.answerTemplate f.bytes := by
  unfold State.respondWith
  dsimp only
  rw [if_neg (by rw [h]; decide), if_neg hflood]

/-- A count toward the demand leaves what the cases of a responder look at. -/
theorem State.countDemand_frame (s : State) :
    s.countDemand.table = s.table ∧ s.countDemand.tx = s.tx ∧ s.countDemand.guard.state = s.guard.state := by
  unfold State.countDemand; split <;> exact ⟨rfl, rfl, rfl⟩

end Answer

end Sys2Proof.Machine

open Sys2Proof Sys2Proof.Machine

/-- Settles O45: by the exchange's verdict on the frame, a halt, a reply with its schedule, or nothing more. -/
theorem exchangeFramesAreDecided : Obligations.ExchangeFramesAreDecided := by
  intro s f rest i x hs hconflict hstream hbelow hx ht u declines awaits captures replied
  have htaken : ∀ v, x.verdict f.bytes = some v → exec .frameTaking s = .next (u.exchangeFrame i x f v) := fun v hv =>
    exec_of_classifies hs (State.claimedBy_exchange (State.conflictTest_eq_none (s := u) hconflict)
      (State.streamTest_eq_none (s := u) hstream) (State.exchangeTest_eq_some (s := u) hbelow hx hv))
  refine ⟨fun hawaits hdeclines => ?_, fun hawaits hdeclines => ?_, fun hawaits => ?_⟩
  · rw [htaken .decline (Exchange.verdict_decline (x.expecting_iff.2 hawaits) hdeclines)]
    have hrunning : x.state ≠ .halted := by
      rcases hawaits with h | ⟨h, -⟩ <;> rw [h] <;> exact nofun
    exact congrArg Host.Outcome.next
      (State.haltExchange_eq (s := u.offerHeld f (some (.exchangeDeclined, i))) (i := i) hrunning .declined)
  · have hreply : exec .frameTaking s = .next ((u.rewrite i (.exchange ((x.replied f.bytes).scheduled s.clk.partTime))
        (if captures = x.captures then 0x01 else 0x03)).unqueued i) := by
      rw [htaken .reply (Exchange.verdict_reply (x.expecting_iff.2 hawaits) hdeclines ht)]
      exact congrArg Host.Outcome.next (State.acceptReply_eq (hawaits.imp_right And.left) u i f.bytes)
    refine ⟨fun period hfixed => ?_, fun k fraction minDelay maxDelay hcaptured => ?_⟩
    · rw [hreply, Exchange.scheduled_fixed (x := x.replied f.bytes) hfixed]; rfl
    · intro v delay
      refine ⟨fun hv => ?_, fun hv hrange => ?_⟩
      · rw [hreply, Exchange.scheduled_rest (x := x.replied f.bytes) hcaptured hv]; rfl
      · rw [hreply, Exchange.scheduled_captured (x := x.replied f.bytes) hcaptured hv hrange]; rfl
  · exact htaken .stale (Exchange.verdict_stale (Bool.not_eq_true _ ▸ mt x.expecting_iff.1 hawaits) ht)

/-- Settles O46: the demand is counted first; then the claim gate, the class and the room decide. -/
theorem respondersAnswerInCases : Obligations.RespondersAnswerInCases := by
  intro s f rest i r hs hconflict hstream hexchange hbelow hr hm u gateOpen flooded
  have htaken : exec .frameTaking s = .next ((s.afterCount rest).respondWith i r f) := exec_of_classifies hs
    (State.claimedBy_responder (State.conflictTest_eq_none (s := s.afterCount rest) hconflict)
      (State.streamTest_eq_none (s := s.afterCount rest) hstream)
      (State.exchangeTest_eq_none (s := s.afterCount rest) hexchange)
      (State.responderTest_eq_some (s := s.afterCount rest) hbelow hr hm))
  obtain ⟨-, hlent⟩ : s.canTake = true ∧ s.custody.state.lent = true := Bool.and_eq_true_iff.1 hs.1
  have hu : (s.afterCount rest).countDemand = u := State.countDemand_of_lent (s := s.afterCount rest) hlent
  obtain ⟨htable, htx, hguard⟩ := (s.afterCount rest).countDemand_frame
  have hgate : (s.afterCount rest).countDemand.gatePasses r.cfg.claimLink = true ↔ gateOpen := by
    rw [State.gatePasses_congr htable]
    exact (s.afterCount rest).gatePasses_iff r.cfg.claimLink
  have hflood : (r.cfg.cls = .courtesy ∧ (s.afterCount rest).countDemand.guard.state = .flooded) ↔ flooded := by
    rw [hguard]; rfl
  rw [htaken]
  refine ⟨fun hshut => ?_, fun hopen hfl => ?_, fun hopen hfl => ?_⟩
  · rw [State.respondWith_shut (mt hgate.1 hshut), hu]
  · rw [State.respondWith_suppressed (hgate.2 hopen) (hflood.2 hfl), hu]
  · rw [State.respondWith_answer (hgate.2 hopen) (mt hflood.1 hfl), ← hu]
    refine ⟨fun hup hroom => ?_, fun hfull => ?_⟩
    · rw [State.answerWith_placed (by rw [htx]; exact hup) (by rw [htx]; exact hroom)]
    · rw [State.answerWith_dropped (by rw [htx]; exact hfull)]

end

section
/-! SUPPORT. The expiries of a claim's timer: when one is taken, and what it then does (R87, R88, R90, R91). -/

namespace Sys2Proof.Machine

/-- A claim whose timer has stopped. -/
def Claim.stopped (c : Claim) : Claim := { c with timer := none }

section Expiry
variable {s : State} {i : SlotIx} {c : Claim} {due : Time}

/-- An engine's expiry is taken while the engines run, the link is up and the due time has come (R51, R91). -/
theorem State.expiryTaken_iff : (s.enginesRun && s.tx.linkUp && dueCome s.clk.partTime due) = true ↔
    s.enginesRun = true ∧ s.tx.linkUp = true ∧ s.came due := by
  rw [Bool.and_eq_true, Bool.and_eq_true, and_assoc]
  exact and_congr_right' (and_congr_right' decide_eq_true_iff)

theorem State.takeProbeSpacing_eq (hc : s.claimAt i = some c) (ht : c.timer = some (.probeSpacing due))
    (hp : c.state = .probing) :
    s.takeProbeSpacing i = s.takeIf (s.enginesRun && s.tx.linkUp && dueCome s.clk.partTime due) fun s =>
      if 0 < c.probesRemaining then
        (s.putClaim i c c.stopped).wantClaimItem i c.stopped .probe
      else s.putClaim i c { c with state := .held, timer := none } := by
  unfold State.takeProbeSpacing
  simp only [hc, ht]
  rw [decide_eq_true hp, Bool.and_true]
  rfl

theorem State.takeDefenceWindow_eq (hc : s.claimAt i = some c) (ht : c.timer = some (.defenceWindow due))
    (hp : c.state = .contested) :
    s.takeDefenceWindow i = s.takeIf (s.enginesRun && s.tx.linkUp && dueCome s.clk.partTime due) fun s =>
      s.putClaim i c { c with state := .held, timer := none } := by
  unfold State.takeDefenceWindow
  simp only [hc, ht]
  rw [decide_eq_true hp, Bool.and_true]

/-- A frozen expiry, or one before its due time, is not taken (R91). -/
theorem State.takeIf_frozen (effect : State → State)
    (h : s.enginesRun = false ∨ s.tx.linkUp = false ∨ ¬ s.came due) :
    s.takeIf (s.enginesRun && s.tx.linkUp && dueCome s.clk.partTime due) effect = s := by
  refine if_neg fun htaken => ?_
  obtain ⟨hrun, hup, hcame⟩ := State.expiryTaken_iff.1 htaken
  rcases h with h | h | h
  · rw [hrun] at h; cases h
  · rw [hup] at h; cases h
  · exact h hcame

/-- A timer that stops is no change the claim engine reports (R96). -/
theorem State.putClaim_stopped (s : State) (i : SlotIx) (c : Claim) :
    s.putClaim i c c.stopped = s.setSlot i (some (.claim c.stopped)) := by
  have hmarks : claimMarks c c.stopped = 0 := by simp [claimMarks, Claim.stopped]
  rw [State.putClaim_eq, hmarks]
  rfl

/-- A claim that becomes HELD again is marked for its state (R87, R90, R96). -/
theorem State.putClaim_held (hl : c.state ≠ .held) :
    s.putClaim i c { c with state := .held, timer := none } =
      s.rewrite i (.claim { c with state := .held, timer := none }) 0x01 := by
  rw [State.putClaim_eq, claimMarks_of_state (b := { c with state := .held, timer := none }) hl.symm]

end Expiry

end Sys2Proof.Machine

open Sys2Proof Sys2Proof.Machine

/-- Settles O48: an expiry is taken or not by the engines, the link and the due time; what it then does is one write of the
claim and, with probes left, the want of an item. -/
theorem claimTimersExpire : Obligations.ClaimTimersExpire := by
  intro s i c due hc
  refine ⟨fun ht hp => ⟨fun hrun hup hcame => ?_, fun hfrozen => ?_⟩,
    fun ht hp => ⟨fun hrun hup hcame => ?_, fun hfrozen => ?_⟩⟩
  · have htaken := (State.takeProbeSpacing_eq hc ht hp).trans (if_pos (State.expiryTaken_iff.2 ⟨hrun, hup, hcame⟩))
    have hprobes : 0 < c.probesRemaining → exec (.probeSpacingExpiry i) s =
        .next ((s.setSlot i (some (.claim c.stopped))).wantClaimItem i c.stopped .probe) := fun hleft => by
      rw [← s.putClaim_stopped]
      exact congrArg Host.Outcome.next (htaken.trans (if_pos hleft))
    have htx : (s.setSlot i (some (.claim c.stopped))).tx = s.tx := by simp
    refine ⟨fun hleft hdue => ⟨fun hroom => ?_, fun hroom => ?_⟩, fun hleft hkept => ?_, fun hlast => ?_⟩
    · rw [hprobes hleft, State.wantClaimItem_queued (c := c.stopped) (by simpa only [State.roomFor, htx] using hroom) hdue]
      rfl
    · rw [hprobes hleft, State.wantClaimItem_due (c := c.stopped) (by simpa only [State.noRoomFor, htx] using hroom) hdue,
        State.setSlot_setSlot]
      rfl
    · rw [hprobes hleft, State.wantClaimItem_kept (c := c.stopped) (by rw [htx]; exact hkept)]
      rfl
    · refine congrArg Host.Outcome.next ((htaken.trans (if_neg (by omega))).trans (State.putClaim_held ?_))
      rw [hp]; exact nofun
  · exact congrArg Host.Outcome.next ((State.takeProbeSpacing_eq hc ht hp).trans (State.takeIf_frozen _ hfrozen))
  · have htaken := (State.takeDefenceWindow_eq hc ht hp).trans (if_pos (State.expiryTaken_iff.2 ⟨hrun, hup, hcame⟩))
    refine congrArg Host.Outcome.next (htaken.trans (State.putClaim_held ?_))
    rw [hp]; exact nofun
  · exact congrArg Host.Outcome.next ((State.takeDefenceWindow_eq hc ht hp).trans (State.takeIf_frozen _ hfrozen))

end

section
/-! SUPPORT. The ends a record can come to within a lending, and that what is written and queued elsewhere leaves them
(R95, R119, R144). -/

namespace Sys2Proof.Machine

/-! ## Ends -/

/-- How a record is done with until the next LEND or a reset: a claim is LOST with no reprobe pending (R95), a stream is
ENDED (R119), an exchange is still, at REST or HALTED for a reason, with no item due (R144). -/
inductive Terminal where
  | lost
  | ended
  | still (state : ExchangeState) (reason : Option HaltReason)

/-- An item of the slot may still stand in the own-traffic queue: a still exchange has none (R143). -/
def Terminal.mayQueue : Terminal → Prop
  | .lost | .ended => True
  | .still _ _ => False

/-- A record has come to an end. -/
def Record.EndsAs : Record → Terminal → Prop
  | .claim c, .lost => c.state = .lost ∧ c.reprobePending = false
  | .stream x, .ended => x.state = .ended
  | .exchange x, .still state reason =>
    (x.state = .rest ∨ x.state = .halted) ∧ x.state = state ∧ x.haltReason = reason ∧ x.itemDue = false
  | _, _ => False

/-- The record of a slot has come to an end, and the own-traffic queue holds no item of a still exchange. -/
def State.TerminalAt (s : State) (i : SlotIx) (e : Terminal) : Prop :=
  (∃ r, s.slot i = some r ∧ r.EndsAs e) ∧ (¬ e.mayQueue → ∀ item ∈ s.tx.own, item.slot ≠ i)

section Ends
variable {s t : State} {i j : SlotIx} {e : Terminal}

theorem State.terminalAt_lost :
    s.TerminalAt i .lost ↔ ∃ c, s.claimAt i = some c ∧ c.state = .lost ∧ c.reprobePending = false := by
  refine (and_iff_left fun h => absurd trivial h).trans ⟨?_, ?_⟩
  · rintro ⟨r, hr, hend⟩
    cases r with
    | claim c => exact ⟨c, (s.claimAt_eq_some i c).2 hr, hend⟩
    | responder _ | filter _ | stream _ | exchange _ => exact hend.elim
  · rintro ⟨c, hc, hend⟩
    exact ⟨_, (s.claimAt_eq_some i c).1 hc, hend⟩

theorem State.terminalAt_ended : s.TerminalAt i .ended ↔ ∃ x, s.streamAt i = some x ∧ x.state = .ended := by
  refine (and_iff_left fun h => absurd trivial h).trans ⟨?_, ?_⟩
  · rintro ⟨r, hr, hend⟩
    cases r with
    | stream x => exact ⟨x, (s.streamAt_eq_some i x).2 hr, hend⟩
    | claim _ | responder _ | filter _ | exchange _ => exact hend.elim
  · rintro ⟨x, hx, hend⟩
    exact ⟨_, (s.streamAt_eq_some i x).1 hx, hend⟩

theorem State.terminalAt_still {state : ExchangeState} {reason : Option HaltReason} :
    s.TerminalAt i (.still state reason) ↔
      (∃ x, s.exchangeAt i = some x ∧ (x.state = .rest ∨ x.state = .halted) ∧ x.state = state ∧
        x.haltReason = reason ∧ x.itemDue = false) ∧ ∀ item ∈ s.tx.own, item.slot ≠ i := by
  refine and_congr ⟨?_, ?_⟩ (forall_prop_of_true id)
  · rintro ⟨r, hr, hend⟩
    cases r with
    | exchange x => exact ⟨x, (s.exchangeAt_eq_some i x).2 hr, hend⟩
    | claim _ | responder _ | filter _ | stream _ => exact hend.elim
  · rintro ⟨x, hx, hend⟩
    exact ⟨_, (s.exchangeAt_eq_some i x).1 hx, hend⟩

/-- The end of a slot is decided by the slots and the own-traffic queue. -/
theorem State.TerminalAt.congr (h : s.TerminalAt i e) (ht : t.table = s.table) (ho : t.tx.own = s.tx.own) :
    t.TerminalAt i e := by
  unfold State.TerminalAt State.slot at h ⊢
  rwa [ht, ho]

/-- The record found in the slot of an end has come to it. -/
theorem State.TerminalAt.endsAs (h : s.TerminalAt i e) {r : Record} (hr : s.slot j = some r) (hj : j = i) :
    r.EndsAs e := by
  subst hj
  obtain ⟨⟨r', hr', hend⟩, -⟩ := h
  exact Option.some.inj (hr.symm.trans hr') ▸ hend

/-! ### A record that has come to no end is another slot's -/

theorem State.TerminalAt.ne_of_claim (h : s.TerminalAt i e) {c : Claim} (hc : s.claimAt j = some c)
    (hl : c.state ≠ .lost ∨ c.reprobePending = true) : j ≠ i := by
  intro hj
  have hend := h.endsAs ((s.claimAt_eq_some j c).1 hc) hj
  cases e with
  | lost =>
    obtain ⟨hlost, hreprobe⟩ := hend
    rcases hl with hl | hl
    · exact hl hlost
    · rw [hreprobe] at hl; cases hl
  | ended | still _ _ => exact hend

theorem State.TerminalAt.ne_of_stream (h : s.TerminalAt i e) {x : Stream} (hx : s.streamAt j = some x)
    (hl : x.state ≠ .ended) : j ≠ i := by
  intro hj
  have hend := h.endsAs ((s.streamAt_eq_some j x).1 hx) hj
  cases e with
  | ended => exact hl hend
  | lost | still _ _ => exact hend

theorem State.TerminalAt.ne_of_exchange (h : s.TerminalAt i e) {x : Exchange} (hx : s.exchangeAt j = some x)
    (hl : (x.state ≠ .rest ∧ x.state ≠ .halted) ∨ x.itemDue = true) : j ≠ i := by
  intro hj
  have hend := h.endsAs ((s.exchangeAt_eq_some j x).1 hx) hj
  cases e with
  | still state reason =>
    obtain ⟨hstate, -, -, hdue⟩ := hend
    rcases hl with ⟨hrest, hhalted⟩ | hl
    · exact hstate.elim hrest hhalted
    · rw [hdue] at hl; cases hl
  | lost | ended => exact hend

theorem State.TerminalAt.ne_of_responder (h : s.TerminalAt i e) {r : Responder} (hr : s.responderAt j = some r) :
    j ≠ i := fun hj => by
  have hend := h.endsAs ((s.responderAt_eq_some j r).1 hr) hj
  cases e <;> exact hend

theorem State.TerminalAt.ne_of_filter (h : s.TerminalAt i e) {f : Filter} (hf : s.filterAt j = some f) :
    j ≠ i := fun hj => by
  have hend := h.endsAs ((s.filterAt_eq_some j f).1 hf) hj
  cases e <;> exact hend

/-- A claim's or a stream's end lets an item stand in the queue. -/
theorem State.TerminalAt.mayQueue_of_claim (h : s.TerminalAt i e) {c : Claim} (hc : s.claimAt j = some c) (hj : j = i) :
    e.mayQueue := by
  have hend := h.endsAs ((s.claimAt_eq_some j c).1 hc) hj
  cases e with
  | lost => trivial
  | ended | still _ _ => exact hend.elim

theorem State.TerminalAt.mayQueue_of_stream (h : s.TerminalAt i e) {x : Stream} (hx : s.streamAt j = some x)
    (hj : j = i) : e.mayQueue := by
  have hend := h.endsAs ((s.streamAt_eq_some j x).1 hx) hj
  cases e with
  | ended => trivial
  | lost | still _ _ => exact hend.elim

/-- An exchange's end lets no item stand in the queue. -/
theorem State.TerminalAt.not_mayQueue_of_exchange (h : s.TerminalAt i e) {x : Exchange} (hx : s.exchangeAt j = some x)
    (hj : j = i) : ¬ e.mayQueue := by
  have hend := h.endsAs ((s.exchangeAt_eq_some j x).1 hx) hj
  cases e with
  | still _ _ => exact id
  | lost | ended => exact hend.elim

/-! ## Blocks -/

@[simp] theorem State.terminalAt_setClk {x : ClockUnit} : (s.setClk x).TerminalAt i e ↔ s.TerminalAt i e := Iff.rfl
@[simp] theorem State.terminalAt_setStore {x : StoreUnit} : (s.setStore x).TerminalAt i e ↔ s.TerminalAt i e := Iff.rfl
@[simp] theorem State.terminalAt_setCustody {x : CustodyUnit} : (s.setCustody x).TerminalAt i e ↔ s.TerminalAt i e :=
  Iff.rfl
@[simp] theorem State.terminalAt_setGuard {x : FloodGuard} : (s.setGuard x).TerminalAt i e ↔ s.TerminalAt i e := Iff.rfl
@[simp] theorem State.terminalAt_setRx {x : Classifier} : (s.setRx x).TerminalAt i e ↔ s.TerminalAt i e := Iff.rfl
@[simp] theorem State.terminalAt_setStn {x : StationPath} : (s.setStn x).TerminalAt i e ↔ s.TerminalAt i e := Iff.rfl
@[simp] theorem State.terminalAt_setHeld {x : HeldQueue} : (s.setHeld x).TerminalAt i e ↔ s.TerminalAt i e := Iff.rfl
@[simp] theorem State.terminalAt_setCond {x : ConditionUnit} : (s.setCond x).TerminalAt i e ↔ s.TerminalAt i e := Iff.rfl
@[simp] theorem State.terminalAt_count {f : Counters → Counters} : (s.count f).TerminalAt i e ↔ s.TerminalAt i e := Iff.rfl
@[simp] theorem State.terminalAt_cutArriving : s.cutArriving.TerminalAt i e ↔ s.TerminalAt i e := Iff.rfl

/-- A transmitter whose own-traffic queue holds no item of the slot, or may hold one. -/
theorem State.terminalAt_setTx (h : s.TerminalAt i e) {x : Transmitter}
    (ho : ¬ e.mayQueue → ∀ item ∈ x.own, item.slot ≠ i) : (s.setTx x).TerminalAt i e := ⟨h.1, ho⟩

/-- A transmitter whose own-traffic queue has lost items or none. -/
theorem State.terminalAt_setTx_of_less (h : s.TerminalAt i e) {x : Transmitter} (ho : ∀ item ∈ x.own, item ∈ s.tx.own) :
    (s.setTx x).TerminalAt i e := State.terminalAt_setTx h fun hq item hitem => h.2 hq item (ho item hitem)

/-- A record written: another slot's, or one that has come to the same end. -/
theorem State.terminalAt_setSlot (h : s.TerminalAt i e) {r : Record} (hr : j = i → r.EndsAs e) :
    (s.setSlot j (some r)).TerminalAt i e := by
  obtain ⟨⟨old, hold, hend⟩, hqueue⟩ := h
  refine ⟨?_, by simpa using hqueue⟩
  by_cases hj : j = i
  · exact ⟨r, by rw [State.slot_setSlot, if_pos hj], hr hj⟩
  · exact ⟨old, by rw [State.slot_setSlot, if_neg hj, hold], hend⟩

theorem terminalAt_ite {c : Prop} [Decidable c] {u v : State} (hu : u.TerminalAt i e) (hv : v.TerminalAt i e) :
    (if c then u else v).TerminalAt i e := by
  split
  · exact hu
  · exact hv

/-- A run over a list keeps the end where each of its steps does. -/
theorem terminalAt_foldl {α : Type} {f : State → α → State} (hf : ∀ s a, s.TerminalAt i e → (f s a).TerminalAt i e)
    (l : List α) (h : s.TerminalAt i e) : (l.foldl f s).TerminalAt i e :=
  List.foldlRecOn l f h fun u hu a _ => hf u a hu

/-- A command's effect keeps the end where it is taken, or is not taken. -/
theorem terminalAt_takeIf {b : Bool} {effect : State → State} (h : s.TerminalAt i e)
    (he : b = true → (effect s).TerminalAt i e) : (s.takeIf b effect).TerminalAt i e := by
  unfold State.takeIf
  split
  · next hb => exact he hb
  · exact h

/-- What comes is taken with the end kept, or waits (R184). -/
theorem terminalAt_takeOrDefer {w : Waiting} {take : State → State} (h : s.TerminalAt i e)
    (ht : (take s).TerminalAt i e) : (s.takeOrDefer w take).TerminalAt i e := by
  unfold State.takeOrDefer
  split
  · exact ht
  · exact h

end Ends

/-! ## Shared operations -/

section Ops
variable {s : State} {i j : SlotIx} {e : Terminal}

@[simp] theorem State.terminalAt_report (h : s.TerminalAt i e) (k : SlotIx) (m : BitVec 8) :
    (s.report k m).TerminalAt i e := h.congr (by simp) (by simp)

@[simp] theorem State.terminalAt_raise (h : s.TerminalAt i e) (c : ConditionClass) (k : Option SlotIx) :
    (s.raise c k).TerminalAt i e := h.congr (by simp) (by simp)

@[simp] theorem State.terminalAt_offerHeld (h : s.TerminalAt i e) (f : Frame) (c : Option (ConditionClass × SlotIx)) :
    (s.offerHeld f c).TerminalAt i e := h.congr (by simp) (by simp)

@[simp] theorem State.terminalAt_holdFor (h : s.TerminalAt i e) (f : Frame) (c : ConditionClass) (k : SlotIx) :
    (s.holdFor f c k).TerminalAt i e := by simp [State.holdFor, h]

@[simp] theorem State.terminalAt_feedStation (h : s.TerminalAt i e) : s.feedStation.TerminalAt i e :=
  h.congr (by simp) (by simp)

@[simp] theorem State.terminalAt_setPort (h : s.TerminalAt i e) (p : Port) (u : PortUnit) :
    (s.setPort p u).TerminalAt i e := h.congr (by simp) (by simp)

@[simp] theorem State.terminalAt_respond (h : s.TerminalAt i e) (p : Port) (r : Response) :
    (s.respond p r).TerminalAt i e := h.congr (by simp) (by simp)

@[simp] theorem State.terminalAt_answerWith (h : s.TerminalAt i e) (k : SlotIx) (g : AnswerOrigin) (r : Record)
    (t : Template) (b : List Byte) : (s.answerWith k g r t b).TerminalAt i e := by
  unfold State.answerWith
  split
  · exact State.terminalAt_setTx_of_less h fun _ hitem => hitem
  · exact h

@[simp] theorem State.terminalAt_purgeAnswers (h : s.TerminalAt i e) (k : SlotIx) :
    (s.purgeAnswers k).TerminalAt i e := h.congr (by simp) rfl

@[simp] theorem State.terminalAt_wake (h : s.TerminalAt i e) : s.wake.TerminalAt i e := by
  unfold State.wake; split <;> exact h

@[simp] theorem State.terminalAt_countDemand (h : s.TerminalAt i e) : s.countDemand.TerminalAt i e := by
  unfold State.countDemand; split <;> exact h

/-! ### The own-traffic queue (R152) -/

/-- An item joins the queue for another slot, or where it may stand. -/
theorem State.terminalAt_pushItem (h : s.TerminalAt i e) {item : OwnItem} (hi : item.slot = i → e.mayQueue) :
    (s.pushItem item).TerminalAt i e := by
  unfold State.pushItem
  split
  · exact h
  · refine State.terminalAt_setTx h fun hq other hother => ?_
    rcases List.mem_append.1 hother with hother | hother
    · exact h.2 hq other hother
    · rw [List.mem_singleton.1 hother]; exact mt hi hq

@[simp] theorem State.terminalAt_withdrawItem (h : s.TerminalAt i e) (k : SlotIx) :
    (s.withdrawItem k).TerminalAt i e :=
  State.terminalAt_setTx_of_less h fun _ hitem => List.mem_of_mem_filter hitem

/-! ### Records written by their engines -/

@[simp] theorem State.terminalAt_putClaim (h : s.TerminalAt i e) (hj : j ≠ i) (a b : Claim) :
    (s.putClaim j a b).TerminalAt i e :=
  State.terminalAt_report (State.terminalAt_setSlot h fun hji => absurd hji hj) _ _

@[simp] theorem State.terminalAt_putResponder (h : s.TerminalAt i e) (hj : j ≠ i) (a b : Responder) :
    (s.putResponder j a b).TerminalAt i e :=
  State.terminalAt_report (State.terminalAt_setSlot h fun hji => absurd hji hj) _ _

@[simp] theorem State.terminalAt_putFilter (h : s.TerminalAt i e) (hj : j ≠ i) (a b : Filter) :
    (s.putFilter j a b).TerminalAt i e :=
  State.terminalAt_report (State.terminalAt_setSlot h fun hji => absurd hji hj) _ _

@[simp] theorem State.terminalAt_putStream (h : s.TerminalAt i e) (hj : j ≠ i) (a b : Stream) (m : BitVec 8) :
    (s.putStream j a b m).TerminalAt i e :=
  State.terminalAt_report (State.terminalAt_setSlot h fun hji => absurd hji hj) _ _

@[simp] theorem State.terminalAt_putExchange (h : s.TerminalAt i e) (hj : j ≠ i) (a b : Exchange) (m : BitVec 8) :
    (s.putExchange j a b m).TerminalAt i e :=
  State.terminalAt_report (State.terminalAt_setSlot h fun hji => absurd hji hj) _ _

/-- A stream written with its state as it was, whatever slot it is in. -/
theorem State.terminalAt_putStream_kept (h : s.TerminalAt i e) {a b : Stream} (ha : s.streamAt j = some a)
    (hb : b.state = a.state) (m : BitVec 8) : (s.putStream j a b m).TerminalAt i e := by
  refine State.terminalAt_report (State.terminalAt_setSlot h fun hji => ?_) _ _
  have hend := h.endsAs ((s.streamAt_eq_some j a).1 ha) hji
  cases e with
  | ended => exact hb.trans hend
  | lost | still _ _ => exact hend

/-- An exchange written with all that its end speaks of as it was, whatever slot it is in. -/
theorem State.terminalAt_putExchange_kept (h : s.TerminalAt i e) {a b : Exchange} (ha : s.exchangeAt j = some a)
    (hb : b.state = a.state ∧ b.haltReason = a.haltReason ∧ b.itemDue = a.itemDue) (m : BitVec 8) :
    (s.putExchange j a b m).TerminalAt i e := by
  refine State.terminalAt_report (State.terminalAt_setSlot h fun hji => ?_) _ _
  have hend := h.endsAs ((s.exchangeAt_eq_some j a).1 ha) hji
  obtain ⟨hstate, hreason, hdue⟩ := hb
  cases e with
  | still _ _ => simpa only [Record.EndsAs, hstate, hreason, hdue] using hend
  | lost | ended => exact hend

/-! ### Items placed (R88, R120, R133, R152) -/

@[simp] theorem State.terminalAt_wantClaimItem (h : s.TerminalAt i e) (hj : j ≠ i) (c : Claim) (p : Purpose) :
    (s.wantClaimItem j c p).TerminalAt i e := by
  unfold State.wantClaimItem
  split
  · exact h
  · split
    · exact State.terminalAt_pushItem h fun hji => absurd hji hj
    · exact State.terminalAt_setSlot h fun hji => absurd hji hj

@[simp] theorem State.terminalAt_placeStreamItem (h : s.TerminalAt i e) (hj : j ≠ i) (x : Stream) :
    (s.placeStreamItem j x).TerminalAt i e := by
  unfold State.placeStreamItem
  split
  · exact State.terminalAt_pushItem h fun hji => absurd hji hj
  · exact State.terminalAt_setSlot h fun hji => absurd hji hj

@[simp] theorem State.terminalAt_placeExchangeItem (h : s.TerminalAt i e) (hj : j ≠ i) (x : Exchange) :
    (s.placeExchangeItem j x).TerminalAt i e := by
  unfold State.placeExchangeItem
  split
  · exact State.terminalAt_pushItem h fun hji => absurd hji hj
  · exact State.terminalAt_setSlot h fun hji => absurd hji hj

/-- A LOST claim's item due may be placed and leaves the claim LOST. -/
theorem State.terminalAt_placeClaimDue (h : s.TerminalAt i e) {c : Claim} (hc : s.claimAt j = some c) :
    (s.placeClaimDue j c).TerminalAt i e := by
  unfold State.placeClaimDue
  split
  · exact h
  · split
    · refine State.terminalAt_pushItem (State.terminalAt_setSlot h fun hji => ?_) fun hji => h.mayQueue_of_claim hc hji
      have hend := h.endsAs ((s.claimAt_eq_some j c).1 hc) hji
      cases e <;> exact hend
    · exact h

/-- An ENDED stream's item due may be placed and leaves the stream ENDED. -/
theorem State.terminalAt_placeStreamDue (h : s.TerminalAt i e) {x : Stream} (hx : s.streamAt j = some x) :
    (s.placeStreamDue j x).TerminalAt i e := by
  unfold State.placeStreamDue
  split
  · refine State.terminalAt_pushItem (State.terminalAt_setSlot h fun hji => ?_) fun hji => h.mayQueue_of_stream hx hji
    have hend := h.endsAs ((s.streamAt_eq_some j x).1 hx) hji
    cases e <;> exact hend
  · exact h

/-- A still exchange has no item due to be placed. -/
theorem State.terminalAt_placeExchangeDue (h : s.TerminalAt i e) {x : Exchange} (hx : s.exchangeAt j = some x) :
    (s.placeExchangeDue j x).TerminalAt i e := by
  unfold State.placeExchangeDue
  split
  · next hplace =>
    have hj := h.ne_of_exchange hx (.inr (Bool.and_eq_true_iff.1 hplace).1)
    exact State.terminalAt_pushItem (State.terminalAt_setSlot h fun hji => absurd hji hj) fun hji => absurd hji hj
  · exact h

end Ops

theorem State.terminalAt_placeDueOne {i : SlotIx} {e : Terminal} (s : State) (j : SlotIx) (h : s.TerminalAt i e) :
    (s.placeDueOne j).TerminalAt i e := by
  unfold State.placeDueOne
  split
  · next c hc => exact State.terminalAt_placeClaimDue h ((s.claimAt_eq_some j c).2 hc)
  · next x hx => exact State.terminalAt_placeStreamDue h ((s.streamAt_eq_some j x).2 hx)
  · next x hx => exact State.terminalAt_placeExchangeDue h ((s.exchangeAt_eq_some j x).2 hx)
  all_goals exact h

end Sys2Proof.Machine
end

section
/-! SUPPORT. The engines, the takings of line frames, the transmitter, the link and the station path leave every end a record
has come to (R95, R119, R144). -/

namespace Sys2Proof.Machine

/-! ## Engines -/

section Engines
variable {s : State} {i j : SlotIx} {e : Terminal}

/-! ### Claims: a LOST claim takes no conflict, no expiry and no reprobe (R95) -/

@[simp] theorem State.terminalAt_endStream (h : s.TerminalAt i e) (hj : j ≠ i) (a b : Stream) (m : BitVec 8) :
    (s.endStream j a b m).TerminalAt i e := by
  simp [State.endStream, h, hj]

theorem State.terminalAt_endLinkedStream (claim : SlotIx) (s : State) (j : SlotIx) (h : s.TerminalAt i e) :
    (s.endLinkedStream claim j).TerminalAt i e := by
  unfold State.endLinkedStream
  split
  · exact h
  · next x hx =>
    split
    · next hlinked =>
      exact State.terminalAt_raise (State.terminalAt_endStream h (h.ne_of_stream hx hlinked.2) _ _ _) _ _
    · exact h

@[simp] theorem State.terminalAt_loseClaim (h : s.TerminalAt i e) (hj : j ≠ i) (a c : Claim) :
    (s.loseClaim j a c).TerminalAt i e :=
  terminalAt_foldl (State.terminalAt_endLinkedStream j) _ (State.terminalAt_purgeAnswers (State.terminalAt_raise
    (State.terminalAt_withdrawItem (State.terminalAt_putClaim h hj _ _) _) _ _) _)

theorem State.terminalAt_loseLinkedClaim (x : SlotIx) (s : State) (j : SlotIx) (h : s.TerminalAt i e) :
    (s.loseLinkedClaim x j).TerminalAt i e := by
  unfold State.loseLinkedClaim
  split
  · exact h
  · next c hc =>
    split
    · next hlinked => exact State.terminalAt_loseClaim h (h.ne_of_claim hc (.inl hlinked.2)) c c
    · exact h

theorem State.terminalAt_conflictFor (h : s.TerminalAt i e) (hj : j ≠ i) (c : Claim) :
    (s.conflictFor j c).TerminalAt i e := by
  unfold State.conflictFor
  cases c.state with
  | held =>
    have hdefended := State.terminalAt_putClaim h hj c
    exact State.terminalAt_raise
      (terminalAt_ite (State.terminalAt_wantClaimItem (hdefended _) hj _ _) (hdefended _)) _ _
  | contested | probing => exact State.terminalAt_loseClaim h hj _ _
  | lost => exact h

theorem State.terminalAt_claimProbeSent (h : s.TerminalAt i e) (j : SlotIx) :
    (s.claimProbeSent j).TerminalAt i e := by
  unfold State.claimProbeSent
  split
  · exact h
  · next c hc =>
    split
    · next hprobing =>
      have hj := h.ne_of_claim hc (.inl (by simp [hprobing]))
      dsimp only
      split <;> simp [h, hj]
    · exact h

theorem State.terminalAt_takeProbeSpacing (h : s.TerminalAt i e) (j : SlotIx) :
    (s.takeProbeSpacing j).TerminalAt i e := by
  unfold State.takeProbeSpacing
  split
  · exact h
  · next c hc =>
    split
    · refine terminalAt_takeIf h fun htaken => ?_
      have hprobing : c.state = .probing := by simpa using (Bool.and_eq_true_iff.1 htaken).2
      have hj := h.ne_of_claim hc (.inl (by simp [hprobing]))
      dsimp only
      split <;> simp [h, hj]
    · exact h

theorem State.terminalAt_takeDefenceWindow (h : s.TerminalAt i e) (j : SlotIx) :
    (s.takeDefenceWindow j).TerminalAt i e := by
  unfold State.takeDefenceWindow
  split
  · exact h
  · next c hc =>
    split
    · refine terminalAt_takeIf h fun htaken => ?_
      have hcontested : c.state = .contested := by simpa using (Bool.and_eq_true_iff.1 htaken).2
      exact State.terminalAt_putClaim h (h.ne_of_claim hc (.inl (by simp [hcontested]))) _ _
    · exact h

theorem State.terminalAt_dropClaimOne (s : State) (j : SlotIx) (h : s.TerminalAt i e) :
    (s.dropClaimOne j).TerminalAt i e := by
  unfold State.dropClaimOne
  split
  · exact h
  · next c hc =>
    split
    · exact h
    · next hlive => exact State.terminalAt_putClaim h (h.ne_of_claim hc (.inl hlive)) _ _

/-- A queued item that becomes a probe stays its slot's (R92). -/
theorem State.terminalAt_asProbe (h : s.TerminalAt i e) (k : SlotIx) :
    (s.setTx { s.tx with own := s.tx.own.map (asProbe k) }).TerminalAt i e := by
  refine State.terminalAt_setTx h fun hq item hitem => ?_
  obtain ⟨old, hold, rfl⟩ := List.mem_map.1 hitem
  rw [asProbe_slot]
  exact h.2 hq old hold

theorem State.terminalAt_returnClaim (h : s.TerminalAt i e) {c : Claim} (hc : s.claimAt j = some c) :
    (s.returnClaim j c).TerminalAt i e := by
  unfold State.returnClaim
  split
  · next hreprobe =>
    have hput : ∀ b, (s.putClaim j c b).TerminalAt i e :=
      State.terminalAt_putClaim h (h.ne_of_claim hc (.inr hreprobe)) c
    split
    · dsimp only
      split
      · exact State.terminalAt_asProbe (hput _) j
      · exact State.terminalAt_wantClaimItem (hput _) (h.ne_of_claim hc (.inr hreprobe)) _ _
    · refine State.terminalAt_placeClaimDue (hput _) ?_
      rw [State.claimAt_eq_some, State.slot_putClaim, if_pos rfl]
  · exact State.terminalAt_placeClaimDue h hc

/-! ### Streams: an ENDED stream claims no frame, has no expiry and is not ended again (R119) -/

theorem State.terminalAt_streamFrame (h : s.TerminalAt i e) (hj : j ≠ i) (x : Stream) (f : Frame) :
    (s.streamFrame j x f).TerminalAt i e := by
  unfold State.streamFrame
  split
  · exact h
  · split
    · exact State.terminalAt_raise (State.terminalAt_endStream (State.terminalAt_offerHeld h _ _) hj _ _ _) _ _
    · split
      · simp [h]
      · split
        case h_2 => unfold State.streamAck; dsimp only; split <;> simp [h, hj]
        all_goals simp [State.streamStale, h, hj]

theorem State.terminalAt_takePeriod (h : s.TerminalAt i e) (j : SlotIx) : (s.takePeriod j).TerminalAt i e := by
  unfold State.takePeriod
  split
  · exact h
  · next x hx =>
    refine terminalAt_takeIf h fun htaken => ?_
    have hidle : x.state = .idle := by simpa using (Bool.and_eq_true_iff.1 htaken).2
    simp [h, h.ne_of_stream hx (by simp [hidle])]

theorem State.terminalAt_takeRetry (h : s.TerminalAt i e) (j : SlotIx) : (s.takeRetry j).TerminalAt i e := by
  unfold State.takeRetry
  split
  · exact h
  · next x hx =>
    refine terminalAt_takeIf h fun htaken => ?_
    have houtstanding : x.state = .outstanding := by simpa using (Bool.and_eq_true_iff.1 htaken).2
    have hj := h.ne_of_stream hx (by simp [houtstanding])
    dsimp only
    split <;> simp [h, hj]

theorem State.terminalAt_grantStream (h : s.TerminalAt i e) {x : Stream} (hx : s.streamAt j = some x) :
    (s.grantStream j x).1.TerminalAt i e := by
  unfold State.grantStream
  dsimp only
  split
  · next hdue => exact State.terminalAt_putStream h (h.ne_of_stream hx (by simp [hdue])) _ _ _
  · exact State.terminalAt_putStream_kept h hx rfl _

theorem State.terminalAt_streamProbeSent (h : s.TerminalAt i e) (j : SlotIx) :
    (s.streamProbeSent j).TerminalAt i e := by
  unfold State.streamProbeSent
  split
  · exact h
  · next hx =>
    exact terminalAt_ite (State.terminalAt_putStream_kept h hx (by rfl) _)
      (State.terminalAt_putStream_kept h hx (by rfl) _)

theorem State.terminalAt_streamReplySent (h : s.TerminalAt i e) (j : SlotIx) :
    (s.streamReplySent j).TerminalAt i e := by
  unfold State.streamReplySent
  split
  · exact h
  · next hx => exact State.terminalAt_putStream_kept h hx (by rfl) _

theorem State.terminalAt_takeoverOne (bytes : List Byte) (s : State) (j : SlotIx) (h : s.TerminalAt i e) :
    (s.takeoverOne bytes j).TerminalAt i e := by
  unfold State.takeoverOne
  split
  · exact h
  · next x hx =>
    split
    · next hends => exact State.terminalAt_endStream h (h.ne_of_stream hx hends.1) _ _ _
    · exact h

theorem State.terminalAt_returnStream (h : s.TerminalAt i e) {x : Stream} (hx : s.streamAt j = some x) :
    (s.returnStream j x).TerminalAt i e := by
  unfold State.returnStream
  split
  · next hwaits => simp [h, h.ne_of_stream hx (by simp [hwaits.1])]
  · exact State.terminalAt_placeStreamDue h hx

/-! ### Exchanges: a still exchange expects no reply, has no expiry and is not granted (R144) -/

theorem State.TerminalAt.ne_of_expecting (h : s.TerminalAt i e) {x : Exchange} (hx : s.exchangeAt j = some x)
    (hw : x.expecting = true) : j ≠ i := by
  refine h.ne_of_exchange hx (.inl ?_)
  rcases x.expecting_iff.1 hw with hs | ⟨hs, -⟩ <;> simp [hs]

@[simp] theorem State.terminalAt_haltExchange (h : s.TerminalAt i e) (hj : j ≠ i) (a x : Exchange) (r : HaltReason) :
    (s.haltExchange j a x r).TerminalAt i e :=
  terminalAt_foldl (State.terminalAt_loseLinkedClaim j) _
    (State.terminalAt_raise (State.terminalAt_withdrawItem (State.terminalAt_putExchange h hj _ _ _) _) _ _)

/-- A frame that a still exchange claims is stale and does nothing (R140). -/
theorem State.terminalAt_exchangeFrame (h : s.TerminalAt i e) {x : Exchange} (hx : s.exchangeAt j = some x) (f : Frame)
    {v : ReplyVerdict} (hv : x.verdict f.bytes = some v) : (s.exchangeFrame j x f v).TerminalAt i e := by
  cases hw : x.expecting with
  | true =>
    have hj := h.ne_of_expecting hx hw
    cases v <;> simp [State.exchangeFrame, State.acceptReply, h, hj]
  | false =>
    have hstale : v = .stale := by
      simp only [Exchange.verdict, hw, Bool.false_eq_true, if_false, Option.ite_none_right_eq_some] at hv
      exact (Option.some.inj hv.2).symm
    rw [hstale]
    exact h

theorem State.terminalAt_takeNextDue (h : s.TerminalAt i e) (j : SlotIx) : (s.takeNextDue j).TerminalAt i e := by
  unfold State.takeNextDue
  split
  · exact h
  · next x hx =>
    refine terminalAt_takeIf h fun htaken => ?_
    have hwaiting : x.state = .waiting := by simpa using (Bool.and_eq_true_iff.1 htaken).2
    simp [h, h.ne_of_exchange hx (.inl (by simp [hwaiting]))]

theorem State.terminalAt_takeReplyWait (h : s.TerminalAt i e) (j : SlotIx) : (s.takeReplyWait j).TerminalAt i e := by
  unfold State.takeReplyWait
  split
  · exact h
  · next x hx =>
    refine terminalAt_takeIf h fun htaken => ?_
    have hawaiting : x.state = .awaiting := by simpa using (Bool.and_eq_true_iff.1 htaken).2
    have hj := h.ne_of_exchange hx (.inl (by simp [hawaiting]))
    dsimp only
    split <;> simp [h, hj]

theorem State.terminalAt_requestSent (h : s.TerminalAt i e) (j : SlotIx) : (s.requestSent j).TerminalAt i e := by
  unfold State.requestSent
  split
  · exact h
  · next hx =>
    exact terminalAt_ite (State.terminalAt_putExchange_kept h hx (by exact ⟨rfl, rfl, rfl⟩) _)
      (State.terminalAt_putExchange_kept h hx (by exact ⟨rfl, rfl, rfl⟩) _)

theorem State.terminalAt_returnExchange (h : s.TerminalAt i e) {x : Exchange} (hx : s.exchangeAt j = some x) :
    (s.returnExchange j x).TerminalAt i e := by
  unfold State.returnExchange
  split
  · next hawaiting => simp [h, h.ne_of_exchange hx (.inl (by simp [hawaiting]))]
  · exact State.terminalAt_placeExchangeDue h hx

/-! ### Responders, filters and the flood guard -/

theorem State.terminalAt_respondWith (h : s.TerminalAt i e) (hj : j ≠ i) (r : Responder) (f : Frame) :
    (s.respondWith j r f).TerminalAt i e := by
  unfold State.respondWith
  dsimp only
  split
  · simp [h]
  · split <;> simp [h, hj]

theorem State.terminalAt_responderSent (h : s.TerminalAt i e) (j : SlotIx) : (s.responderSent j).TerminalAt i e := by
  unfold State.responderSent
  split
  · exact h
  · next r hr => exact State.terminalAt_putResponder h (h.ne_of_responder hr) _ _

theorem State.terminalAt_filterFrame (h : s.TerminalAt i e) (hj : j ≠ i) (t : Filter) (f : Frame) :
    (s.filterFrame j t f).TerminalAt i e := by
  unfold State.filterFrame
  dsimp only
  split <;> simp [h, hj]

theorem State.terminalAt_judgeWindow (h : s.TerminalAt i e) : s.judgeWindow.TerminalAt i e := by
  unfold State.judgeWindow
  dsimp only
  split
  · split
    · split <;> simp [h]
    · exact h
  · split <;> exact h

end Engines

/-! ## Line frames (R64 to R75) -/

section Classification
variable {s t : State} {i : SlotIx} {e : Terminal} {f : Frame}

theorem State.terminalAt_conflictTest (h : s.TerminalAt i e) (ht : s.conflictTest f = some t) : t.TerminalAt i e := by
  unfold State.conflictTest at ht
  split at ht
  · obtain ⟨j, -, hj⟩ := List.exists_of_findSome?_eq_some ht
    obtain ⟨c, hc, rfl⟩ := Option.map_eq_some_iff.1 hj
    unfold State.claimWatches at hc
    split at hc
    · next d hd =>
      split at hc
      · next hlive => cases hc; exact State.terminalAt_conflictFor h (h.ne_of_claim hd (.inl hlive.1)) _
      · cases hc
    · cases hc
  · cases ht

theorem State.terminalAt_streamTest (h : s.TerminalAt i e) (ht : s.streamTest f = some t) : t.TerminalAt i e := by
  obtain ⟨j, -, hj⟩ := List.exists_of_findSome?_eq_some ht
  obtain ⟨x, hx, rfl⟩ := Option.map_eq_some_iff.1 hj
  unfold State.streamClaims at hx
  split at hx
  · next d hd =>
    split at hx
    · next hlive => cases hx; exact State.terminalAt_streamFrame h (h.ne_of_stream hd hlive.1) _ _
    · cases hx
  · cases hx

theorem State.terminalAt_exchangeTest (h : s.TerminalAt i e) (ht : s.exchangeTest f = some t) : t.TerminalAt i e := by
  obtain ⟨j, -, hj⟩ := List.exists_of_findSome?_eq_some ht
  split at hj
  · cases hj
  · next x hx =>
    obtain ⟨v, hv, rfl⟩ := Option.map_eq_some_iff.1 hj
    exact State.terminalAt_exchangeFrame h hx f hv

theorem State.terminalAt_responderTest (h : s.TerminalAt i e) (ht : s.responderTest f = some t) : t.TerminalAt i e := by
  obtain ⟨j, -, hj⟩ := List.exists_of_findSome?_eq_some ht
  split at hj
  · cases hj
  · next r hr =>
    split at hj
    · cases hj; exact State.terminalAt_respondWith h (h.ne_of_responder hr) _ _
    · cases hj

theorem State.terminalAt_filterTest (h : s.TerminalAt i e) (ht : s.filterTest f = some t) : t.TerminalAt i e := by
  obtain ⟨j, -, hj⟩ := List.exists_of_findSome?_eq_some ht
  split at hj
  · cases hj
  · next r hr =>
    split at hj
    · cases hj; exact State.terminalAt_filterFrame h (h.ne_of_filter hr) _ _
    · cases hj

theorem State.terminalAt_claimedBy (h : s.TerminalAt i e) (ht : s.claimedBy f = some t) : t.TerminalAt i e := by
  unfold State.claimedBy at ht
  simp only [Option.orElse_eq_orElse, Option.orElse_eq_or, Option.or_eq_some_iff] at ht
  rcases ht with ht | ⟨-, ht | ⟨-, ht | ⟨-, ht | ⟨-, ht⟩⟩⟩⟩
  · exact State.terminalAt_conflictTest h ht
  · exact State.terminalAt_streamTest h ht
  · exact State.terminalAt_exchangeTest h ht
  · exact State.terminalAt_responderTest h ht
  · exact State.terminalAt_filterTest h ht

theorem State.terminalAt_defaultDisposition (h : s.TerminalAt i e) (f : Frame) :
    (s.defaultDisposition f).TerminalAt i e := by
  unfold State.defaultDisposition
  split
  · exact h
  · simp [h]
  · split <;> simp [h]

theorem State.terminalAt_classify (h : s.TerminalAt i e) (f : Frame) : (s.classify f).TerminalAt i e := by
  unfold State.classify
  dsimp only
  split
  · exact h
  · split
    · next hc => exact State.terminalAt_claimedBy (s := s.count Counters.seen) h hc
    · exact State.terminalAt_defaultDisposition (s := s.count Counters.seen) h f

theorem State.terminalAt_passToStation (h : s.TerminalAt i e) (f : Frame) : (s.passToStation f).1.TerminalAt i e := by
  unfold State.passToStation
  split
  · exact h
  · split <;> exact h

/-- Outside HOME, where frames are tracked, a taken line frame keeps the end (R66, R128). -/
theorem State.terminalAt_takeFrame (h : s.TerminalAt i e) (hs : s.custody.state ≠ .home) (f : Frame) :
    (s.takeFrame f).TerminalAt i e := by
  unfold State.takeFrame
  split
  case h_1 hhome => exact absurd hhome hs
  case h_2 => exact State.terminalAt_passToStation h f
  case h_3 | h_4 => exact State.terminalAt_classify h f
  case h_5 | h_6 => split <;> simp [h]

theorem State.terminalAt_startLineFrame (h : s.TerminalAt i e) : s.startLineFrame.TerminalAt i e := by
  unfold State.startLineFrame; split <;> exact h

theorem State.terminalAt_lineFrameArrives (h : s.TerminalAt i e) (f : Frame) : (s.lineFrameArrives f).TerminalAt i e := by
  unfold State.lineFrameArrives
  split
  · exact h
  · exact h
  · split <;> exact h

end Classification

/-! ## The transmitter, the link and the station path -/

section Transmission
variable {s : State} {i : SlotIx} {e : Terminal}

/-- The frame carried leaves the transmitter (R155, R159). -/
theorem State.terminalAt_setIdle (h : s.TerminalAt i e) : (s.setTx { s.tx with carried := none }).TerminalAt i e :=
  State.terminalAt_setTx_of_less h fun _ hitem => hitem

theorem State.terminalAt_carry (h : s.TerminalAt i e) (c : Carried) : (s.carry c).TerminalAt i e :=
  State.terminalAt_setTx_of_less h fun _ hitem => hitem

/-- An item granted is no still exchange's. -/
theorem State.terminalAt_grantWork (h : s.TerminalAt i e) {item : OwnItem} (hi : ¬ e.mayQueue → item.slot ≠ i) :
    (s.grantWork item).1.TerminalAt i e := by
  unfold State.grantWork
  split
  · split <;> exact h
  · split
    · next hx => exact State.terminalAt_grantStream h hx
    · exact h
  · split
    · next j _ x hx =>
      have hj : j ≠ i := fun hji => hi (h.not_mayQueue_of_exchange hx hji) hji
      exact State.terminalAt_putExchange h hj _ _ _
    · exact h

theorem State.terminalAt_grantOwn (h : s.TerminalAt i e) : s.grantOwn.TerminalAt i e := by
  unfold State.grantOwn
  split
  · exact h
  · next item rest hown =>
    have hleft : (s.setTx { s.tx with own := rest }).TerminalAt i e :=
      State.terminalAt_setTx_of_less h fun it hit => by rw [hown]; exact List.mem_cons_of_mem _ hit
    have hwork := State.terminalAt_grantWork hleft (item := item) fun hq => h.2 hq item (by simp [hown])
    dsimp only
    split
    · exact State.terminalAt_carry hwork _
    · exact hwork

theorem State.terminalAt_grantPart (h : s.TerminalAt i e) : s.grantPart.TerminalAt i e := by
  unfold State.grantPart
  split
  · next rest _ =>
    have hleft : (s.setTx { s.tx with answers := rest }).TerminalAt i e :=
      State.terminalAt_setTx_of_less h fun _ hitem => hitem
    exact State.terminalAt_carry hleft _
  · exact State.terminalAt_grantOwn h

theorem State.terminalAt_grantStation (h : s.TerminalAt i e) : s.grantStation.TerminalAt i e := by
  unfold State.grantStation
  split
  · exact State.terminalAt_carry (State.terminalAt_setStn.2 h) _
  · exact h

theorem State.terminalAt_arbitrate (h : s.TerminalAt i e) : s.arbitrate.TerminalAt i e := by
  refine terminalAt_takeIf h fun _ => ?_
  split
  · next c _ =>
    have hnext : (s.setTx { s.tx with nextClass := c.other }).TerminalAt i e :=
      State.terminalAt_setTx_of_less h fun _ hitem => hitem
    cases c with
    | station => exact State.terminalAt_grantStation hnext
    | part => exact State.terminalAt_grantPart hnext
  · exact h

theorem State.terminalAt_frameSent (h : s.TerminalAt i e) (c : Carried) : (s.frameSent c).TerminalAt i e := by
  unfold State.frameSent
  split
  · exact h
  · exact State.terminalAt_responderSent (State.terminalAt_count.2 h) _
  · exact State.terminalAt_streamReplySent (State.terminalAt_count.2 h) _
  · exact State.terminalAt_claimProbeSent h _
  · exact h
  · exact State.terminalAt_streamProbeSent h _
  · exact State.terminalAt_requestSent h _

theorem State.terminalAt_drainOn (h : s.TerminalAt i e) : s.drainOn.TerminalAt i e := by
  unfold State.drainOn
  split
  · exact h
  · exact State.terminalAt_feedStation h

theorem State.terminalAt_endQuiesce (h : s.TerminalAt i e) : s.endQuiesce.TerminalAt i e := by
  unfold State.endQuiesce
  split
  · exact State.terminalAt_drainOn (State.terminalAt_setCustody.2 h)
  · exact h

/-- An item that is another slot's, or may stand in the queue, goes back to its head. -/
theorem State.terminalAt_setHead (h : s.TerminalAt i e) {item : OwnItem} (hi : item.slot = i → e.mayQueue) :
    (s.setTx { s.tx with own := item :: s.tx.own }).TerminalAt i e := by
  refine State.terminalAt_setTx h fun hq other hother => ?_
  rcases List.mem_cons.1 hother with rfl | hother
  · exact mt hi hq
  · exact h.2 hq other hother

/-- An aborted item goes back for a claim, a stream or an AWAITING exchange (R159). -/
theorem State.terminalAt_requeueOwn (h : s.TerminalAt i e) (item : OwnItem) : (s.requeueOwn item).TerminalAt i e := by
  unfold State.requeueOwn
  split
  · exact h
  · dsimp only
    split
    · split
      · next hc => exact terminalAt_ite (State.terminalAt_setHead h (h.mayQueue_of_claim hc)) h
      · exact h
    · split
      · next hx => exact terminalAt_ite (State.terminalAt_setHead h (h.mayQueue_of_stream hx)) h
      · exact h
    · split
      · next x hx =>
        split
        · next hawaiting =>
          have hj := h.ne_of_exchange hx (.inl (by simp [hawaiting.1]))
          exact State.terminalAt_setHead (State.terminalAt_putExchange h hj _ _ _) fun hji => absurd hji hj
        · exact h
      · exact h

theorem State.terminalAt_abortCarried (h : s.TerminalAt i e) : s.abortCarried.TerminalAt i e := by
  have hidle := State.terminalAt_setIdle h
  unfold State.abortCarried
  split
  · exact h
  · dsimp only
    split
    · exact hidle
    · exact hidle
    · exact State.terminalAt_requeueOwn hidle _

theorem State.terminalAt_takeLinkDrop (h : s.TerminalAt i e) : s.takeLinkDrop.TerminalAt i e := by
  unfold State.takeLinkDrop
  split
  · have hdown : (s.setTx { s.tx with linkUp := false }).TerminalAt i e :=
      State.terminalAt_setTx_of_less h fun _ hitem => hitem
    have haborted := State.terminalAt_abortCarried hdown
    dsimp only
    generalize (s.setTx { s.tx with linkUp := false }).abortCarried = s1 at haborted ⊢
    have hcleared : (((s1.count (Counters.dropped s1.tx.answers.length)).setTx { s1.tx with answers := [] }).setStn
        { s1.stn with arriving := [], untaken := [], buffer := [] }).TerminalAt i e :=
      State.terminalAt_setTx_of_less haborted fun _ hitem => hitem
    have hmarked := terminalAt_foldl State.terminalAt_dropClaimOne slotIndices hcleared
    refine State.terminalAt_endQuiesce (terminalAt_ite (State.terminalAt_raise ?_ _ _) ?_) <;>
      exact State.terminalAt_setCond.2 (terminalAt_ite hmarked hcleared)
  · exact h

theorem State.terminalAt_returnOne (s : State) (j : SlotIx) (h : s.TerminalAt i e) : (s.returnOne j).TerminalAt i e := by
  unfold State.returnOne
  split
  · next c hc => exact State.terminalAt_returnClaim h ((s.claimAt_eq_some j c).2 hc)
  · next x hx => exact State.terminalAt_returnStream h ((s.streamAt_eq_some j x).2 hx)
  · next x hx => exact State.terminalAt_returnExchange h ((s.exchangeAt_eq_some j x).2 hx)
  all_goals exact h

theorem State.terminalAt_takeLinkReturn (h : s.TerminalAt i e) : s.takeLinkReturn.TerminalAt i e := by
  unfold State.takeLinkReturn
  split
  · exact h
  · have hup : (s.setTx { s.tx with linkUp := true }).TerminalAt i e :=
      State.terminalAt_setTx_of_less h fun _ hitem => hitem
    exact State.terminalAt_arbitrate (terminalAt_ite (terminalAt_foldl State.terminalAt_returnOne _ hup) hup)

theorem State.terminalAt_takeStnRdy (h : s.TerminalAt i e) (high : Bool) : (s.takeStnRdy high).TerminalAt i e := by
  unfold State.takeStnRdy
  split
  · exact State.terminalAt_feedStation h
  · exact h

theorem State.terminalAt_nextPassing (h : s.TerminalAt i e) : s.nextPassing.TerminalAt i e := by
  unfold State.nextPassing; split <;> exact h

theorem State.terminalAt_takeDeliveryEnd (h : s.TerminalAt i e) : s.takeDeliveryEnd.TerminalAt i e := by
  have hnext := State.terminalAt_nextPassing h
  unfold State.takeDeliveryEnd
  split
  · exact h
  · exact State.terminalAt_feedStation hnext
  · exact terminalAt_ite (State.terminalAt_drainOn (State.terminalAt_setHeld.2 hnext)) hnext

/-- Outside HOME, where frames are tracked, a taken station frame keeps the end (R124, R128). -/
theorem State.terminalAt_takeStationFrame (h : s.TerminalAt i e) (hs : s.custody.state ≠ .home) (f : Frame) :
    (s.takeStationFrame f).TerminalAt i e := by
  have htests : (s.stationTests f).TerminalAt i e := by
    unfold State.stationTests
    split
    case h_1 hhome => exact absurd hhome hs
    case h_5 | h_6 => exact terminalAt_foldl (State.terminalAt_takeoverOne f.bytes) _ h
    all_goals exact h
  exact State.terminalAt_setStn.2 htests

theorem State.terminalAt_stationFrameEnds (h : s.TerminalAt i e) (hs : s.custody.state ≠ .home) (f : Frame) :
    (s.stationFrameEnds f).TerminalAt i e := by
  unfold State.stationFrameEnds
  split
  · exact h
  · next rest _ =>
    have hended : (s.setStn { s.stn with arriving := rest }).TerminalAt i e := h
    refine terminalAt_ite (terminalAt_ite (State.terminalAt_takeStationFrame hended hs f) ?_) hended
    exact h

end Transmission

end Sys2Proof.Machine
end

section
/-! SUPPORT. Custody, the requests and the commands leave every end a record has come to, outside HOME and CHECKING (R95, R119,
R144). -/

namespace Sys2Proof.Machine

/-! ## The return (R55 to R59) -/

section CustodyUnit
variable {s : State} {i : SlotIx} {e : Terminal}

/-- A reclaim stops timers and items, and a still exchange has neither (R55, R147). -/
theorem Record.endsAs_reclaimed {r : Record} (h : r.EndsAs e) : r.reclaimed.EndsAs e := by
  cases r with
  | exchange x =>
    cases e with
    | still state reason =>
      obtain ⟨hend, hstate, hreason, -⟩ := h
      have hkept : ¬ (x.state = .queued ∨ x.state = .awaiting) := by
        rcases hend with hend | hend <;> simp [hend]
      rw [Record.reclaimed, if_neg hkept]
      exact ⟨hend, hstate, hreason, rfl⟩
    | lost | ended => exact h
  | claim _ | responder _ | filter _ | stream _ => cases e <;> exact h

theorem State.terminalAt_takeReclaim (h : s.TerminalAt i e) : s.takeReclaim.TerminalAt i e := by
  obtain ⟨⟨r, hr, hend⟩, -⟩ := h
  rw [State.takeReclaim_eq]
  refine ⟨⟨r.reclaimed, ?_, Record.endsAs_reclaimed hend⟩, fun _ item hitem => nomatch hitem⟩
  exact (s.slot_slotsOfReclaim i).trans (by rw [hr, Option.map_some])

theorem State.terminalAt_takeDiscard (h : s.TerminalAt i e) : s.takeDiscard.TerminalAt i e :=
  h.congr (by simp [State.takeDiscard]) (by simp [State.takeDiscard])

theorem State.terminalAt_serveLend (h : s.TerminalAt i e) (p : Port) (payload : List Byte) :
    (s.serveLend p payload).1.TerminalAt i e := by
  unfold State.serveLend
  split
  · exact h
  · split
    · exact h
    · split <;> exact h

theorem State.terminalAt_serveReclaim (h : s.TerminalAt i e) (p : Port) (payload : List Byte) :
    (s.serveReclaim p payload).1.TerminalAt i e := by
  unfold State.serveReclaim
  split
  · exact h
  · split
    case h_5 | h_6 =>
      split
      · exact h
      · dsimp only; exact State.terminalAt_endQuiesce (State.terminalAt_takeReclaim h)
    all_goals exact h

theorem State.terminalAt_takeRecall (h : s.TerminalAt i e) (discard : Bool) :
    (s.takeRecall discard).1.TerminalAt i e := by
  have hreclaimed := State.terminalAt_takeReclaim h
  have hdiscarded := State.terminalAt_takeDiscard h
  unfold State.takeRecall
  split
  case h_1 => exact h
  case h_2 => exact State.terminalAt_respond (State.terminalAt_setCustody.2 h) _ _
  case h_3 | h_4 =>
    exact State.terminalAt_endQuiesce (terminalAt_ite (State.terminalAt_takeDiscard hreclaimed) hreclaimed)
  case h_5 => exact terminalAt_ite hdiscarded h
  case h_6 => exact terminalAt_ite (State.terminalAt_drainOn hdiscarded) h

theorem State.terminalAt_serveRecall (h : s.TerminalAt i e) (p : Port) (payload : List Byte) :
    (s.serveRecall p payload).1.TerminalAt i e := by
  unfold State.serveRecall
  split
  · exact h
  · split
    · exact h
    · split
      · split
        · exact State.terminalAt_takeRecall h false
        · split
          · exact State.terminalAt_takeRecall h true
          · exact h
      · exact h

end CustodyUnit

/-! ## Requests -/

section Requests
variable {s : State} {i : SlotIx} {e : Terminal} (p : Port) (payload : List Byte)

theorem State.terminalAt_serveSetPolicy (h : s.TerminalAt i e) : (s.serveSetPolicy p payload).1.TerminalAt i e := by
  unfold State.serveSetPolicy
  split
  · exact h
  · split
    · exact h
    · split
      · exact h
      · split
        · exact h
        · unfold State.storePolicy; split <;> exact h

theorem State.terminalAt_serveReadReport (h : s.TerminalAt i e) : (s.serveReadReport p payload).1.TerminalAt i e := by
  unfold State.serveReadReport
  split
  · exact h
  · cases p <;> exact h

theorem State.terminalAt_serveReleaseSample (h : s.TerminalAt i e) :
    (s.serveReleaseSample p payload).1.TerminalAt i e := by
  unfold State.serveReleaseSample
  split
  · exact h
  · split
    · exact h
    · split
      · exact h
      · split <;> exact h

theorem State.terminalAt_serveStoreErase (h : s.TerminalAt i e) : (s.serveStoreErase p payload).1.TerminalAt i e := by
  unfold State.serveStoreErase
  split
  · exact h
  · split
    · split
      · exact h
      · split
        · exact h
        · split <;> exact h
    · exact h

theorem State.terminalAt_serveStoreProgram (h : s.TerminalAt i e) :
    (s.serveStoreProgram p payload).1.TerminalAt i e := by
  unfold State.serveStoreProgram
  split
  · exact h
  · split
    · split
      · exact h
      · split
        · exact h
        · split
          · exact h
          · split
            · exact h
            · split <;> exact h
    · exact h

/-- Outside HOME, where the table is written, every request's owner keeps the end. -/
theorem State.terminalAt_serve (h : s.TerminalAt i e) (hs : s.custody.state ≠ .home) (kind : RequestKind) :
    (s.serve p kind payload).1.TerminalAt i e := by
  cases kind
  case putSlot => exact (State.servePutSlot_fst_of_lent p payload hs).symm ▸ h
  case getSlot => exact (s.serveGetSlot_fst p payload).symm ▸ h
  case clearSlot => exact (State.serveClearSlot_fst_of_lent p payload hs).symm ▸ h
  case poolWrite => exact (State.servePoolWrite_fst_of_lent p payload hs).symm ▸ h
  case poolRead => exact (s.servePoolRead_fst p payload).symm ▸ h
  case lend => exact State.terminalAt_serveLend h p payload
  case reclaim => exact State.terminalAt_serveReclaim h p payload
  case setPolicy => exact State.terminalAt_serveSetPolicy p payload h
  case getPolicy => exact (s.serveGetPolicy_fst p payload).symm ▸ h
  case readStatus => exact (s.serveReadStatus_fst p payload).symm ▸ h
  case readChanges => exact (s.serveReadChanges_fst p payload).symm ▸ h
  case readReport => exact State.terminalAt_serveReadReport p payload h
  case takeSample => exact (s.serveTakeSample_fst p payload).symm ▸ h
  case releaseSample => exact State.terminalAt_serveReleaseSample p payload h
  case storeRead => exact (s.serveStoreRead_fst p payload).symm ▸ h
  case storeErase => exact State.terminalAt_serveStoreErase p payload h
  case storeProgram => exact State.terminalAt_serveStoreProgram p payload h
  case softReset => exact (State.serveSoftReset_fst_of_lent p payload hs).symm ▸ h
  -- RECALL is the one left: its constructor's name is a word of Lean's.
  exact State.terminalAt_serveRecall h p payload

theorem State.terminalAt_takeRequest (h : s.TerminalAt i e) (hs : s.custody.state ≠ .home) (kind : RequestKind) :
    (s.takeRequest p kind payload).TerminalAt i e := by
  have hserve := State.terminalAt_serve p payload h hs kind
  unfold State.takeRequest
  split
  · exact State.terminalAt_respond h _ _
  · split
    · next hanswer => rw [hanswer] at hserve; exact State.terminalAt_respond hserve _ _
    · next hanswer => rw [hanswer] at hserve; exact hserve

theorem State.terminalAt_shiftHeldOut (h : s.TerminalAt i e) : (s.shiftHeldOut p).TerminalAt i e := by
  cases p <;> exact h

theorem State.terminalAt_receiveMalformed (h : s.TerminalAt i e) : (s.receiveMalformed p).TerminalAt i e :=
  terminalAt_ite (State.terminalAt_setPort h _ _) (State.terminalAt_respond (State.terminalAt_wake h) _ _)

theorem State.terminalAt_receiveFramed (h : s.TerminalAt i e) (hs : s.custody.state ≠ .home) (kind : RequestKind) :
    (s.receiveFramed p kind payload).TerminalAt i e := by
  have hwoken := State.terminalAt_wake (State.terminalAt_setPort h p { s.port p with slot := .working })
  have hcustody : (s.setPort p { s.port p with slot := .working }).wake.custody = s.custody := by
    unfold State.wake; split <;> simp
  exact terminalAt_ite (State.terminalAt_setPort h _ _)
    (terminalAt_takeOrDefer hwoken (State.terminalAt_takeRequest p payload hwoken (hcustody ▸ hs) kind))

theorem State.terminalAt_receive (h : s.TerminalAt i e) (hs : s.custody.state ≠ .home) (kind : RequestKind) :
    (s.receive p kind payload).TerminalAt i e := by
  have hout := State.terminalAt_shiftHeldOut p h
  have hcustody : (s.shiftHeldOut p).custody.state ≠ .home := by cases p <;> exact hs
  exact terminalAt_takeIf h fun _ => terminalAt_ite (State.terminalAt_receiveMalformed p hout)
    (State.terminalAt_receiveFramed p payload hout hcustody kind)

theorem State.terminalAt_receiveMessage (h : s.TerminalAt i e) (hs : s.custody.state ≠ .home) (message : List Byte) :
    (s.receiveMessage p message).TerminalAt i e := by
  have hout := State.terminalAt_shiftHeldOut p h
  unfold State.receiveMessage
  split
  · exact terminalAt_takeIf h fun _ => hout
  · exact terminalAt_takeIf h fun _ => State.terminalAt_receiveMalformed p hout
  · exact State.terminalAt_receive p _ h hs _

end Requests

/-! ## Commands -/

section Commands
variable {s t : State} {i : SlotIx} {e : Terminal}

theorem State.terminalAt_endLoad (h : s.TerminalAt i e) (fault answers : Bool) :
    (s.endLoad fault answers).TerminalAt i e :=
  terminalAt_ite (State.terminalAt_respond (State.terminalAt_setStore.2 h) _ _) (State.terminalAt_setStore.2 h)

/-- A record of the load is served as its request (R189). -/
theorem State.serveRecord_eq_serve {type : Byte} {body : List Byte} {u : State} {r : Response}
    (h : s.serveRecord type body = some (u, r)) : ∃ kind, u = (s.serve .system kind body).1 := by
  unfold State.serveRecord at h
  split at h
  · exact ⟨.putSlot, (congrArg Prod.fst (Option.some.inj h)).symm⟩
  · exact ⟨.poolWrite, (congrArg Prod.fst (Option.some.inj h)).symm⟩
  · exact ⟨.setPolicy, (congrArg Prod.fst (Option.some.inj h)).symm⟩
  · cases h

theorem State.terminalAt_loadRecord (h : s.TerminalAt i e) (hs : s.custody.state ≠ .home) (l : ProfileLoad) :
    (s.loadRecord l).TerminalAt i e := by
  have hended : ∀ fault, (s.endLoad fault l.answers).TerminalAt i e := fun fault => State.terminalAt_endLoad h fault _
  unfold State.loadRecord
  dsimp only
  split
  · exact hended _
  · split
    · exact hended _
    · split
      · exact hended _
      · split
        · exact hended _
        · next hrecord =>
          obtain ⟨kind, rfl⟩ := State.serveRecord_eq_serve hrecord
          have hserve := fun body => State.terminalAt_serve .system body h hs kind
          exact terminalAt_ite (hended _) (terminalAt_ite (State.terminalAt_endLoad (hserve _) _ _) (hserve _))

theorem State.terminalAt_takeTick (h : s.TerminalAt i e) : s.takeTick.TerminalAt i e := by
  unfold State.takeTick
  dsimp only
  split
  · exact terminalAt_ite (terminalAt_ite h h) h
  · exact terminalAt_ite (State.terminalAt_wake (State.terminalAt_setClk.2 h)) h
  · exact h

/-- Outside HOME and CHECKING every command but a reset keeps the ends, where nothing waits for the end of warm-up. -/
theorem exec_terminalAt {c : Instr} (hs : s.TerminalAt i e) (hhome : s.custody.state ≠ .home)
    (hchecking : s.custody.state ≠ .checking) (hw : c = .warmUpEnd → s.clk.waiting = []) (hr : isReset c = false)
    (h : exec c s = .next t) : t.TerminalAt i e := by
  cases c
  case putSlot | getSlot | clearSlot | poolWrite | poolRead | lend | reclaim | setPolicy | getPolicy | readStatus
      | readChanges | readReport | takeSample | releaseSample | storeRead | storeErase | storeProgram | softReset =>
    cases h; exact State.terminalAt_receive _ _ hs hhome _
  case unknownRequest p m => cases h; exact State.terminalAt_receiveMessage p hs hhome m
  case poll => cases h; exact terminalAt_takeIf hs fun _ => hs
  case responseRead => cases h; exact terminalAt_takeIf hs fun _ => State.terminalAt_setPort hs _ _
  case lendCheckStep =>
    cases h
    exact terminalAt_takeIf hs fun htaken => absurd (by simpa using (Bool.and_eq_true_iff.1 htaken).2) hchecking
  case profileRecord =>
    cases h
    refine terminalAt_takeIf hs fun _ => ?_
    split
    · exact hs
    · exact State.terminalAt_loadRecord hs hhome _
  case storeEraseDone | storeProgramDone =>
    cases h
    refine terminalAt_takeIf hs fun _ => ?_
    split
    · exact State.terminalAt_respond (State.terminalAt_setStore.2 (State.terminalAt_setStore.2 hs)) _ _
    · exact hs
  case lineFrameStart =>
    cases h; exact terminalAt_takeIf hs fun _ => State.terminalAt_startLineFrame (State.terminalAt_wake hs)
  case lineFrameArrival => cases h; exact terminalAt_takeIf hs fun _ => State.terminalAt_lineFrameArrives hs _
  case frameTaking =>
    cases h
    refine terminalAt_takeIf hs fun _ => ?_
    split
    · exact hs
    · next f rest _ => exact State.terminalAt_takeFrame (s := s.setRx { s.rx with staged := rest }) hs hhome f
  case stationFrameStart =>
    cases h; exact terminalAt_takeIf hs fun _ => State.terminalAt_setStn.2 (State.terminalAt_wake hs)
  case stationFrameTaking => cases h; exact terminalAt_takeIf hs fun _ => State.terminalAt_stationFrameEnds hs hhome _
  case grant => cases h; exact terminalAt_takeIf hs fun _ => State.terminalAt_arbitrate hs
  case transmitComplete =>
    cases h
    refine terminalAt_takeIf hs fun _ => ?_
    split
    · exact hs
    · exact State.terminalAt_endQuiesce (State.terminalAt_frameSent (State.terminalAt_setIdle hs) _)
  case lineLinkDrop =>
    cases h
    have hpins : (s.setPins { s.pins with link := false }).TerminalAt i e := hs
    have hwoken := State.terminalAt_wake (State.terminalAt_cutArriving.2 hpins)
    exact terminalAt_takeIf hs fun _ => terminalAt_takeIf hpins fun _ =>
      terminalAt_takeOrDefer hwoken (State.terminalAt_takeLinkDrop hwoken)
  case lineLinkReturn =>
    cases h
    have hpins : (s.setPins { s.pins with link := true }).TerminalAt i e := hs
    have hwoken := State.terminalAt_wake hpins
    exact terminalAt_takeIf hs fun _ => terminalAt_takeIf hpins fun _ =>
      terminalAt_takeOrDefer hwoken (State.terminalAt_takeLinkReturn hwoken)
  case stnRdyChange high =>
    cases h
    have hpins : (s.setPins { s.pins with stnRdy := high }).TerminalAt i e := hs
    exact terminalAt_takeIf hs fun _ => terminalAt_takeIf hpins fun _ =>
      terminalAt_takeOrDefer hpins (State.terminalAt_takeStnRdy hpins high)
  case deliveryEnd =>
    cases h; exact terminalAt_takeIf hs fun _ => terminalAt_takeOrDefer hs (State.terminalAt_takeDeliveryEnd hs)
  case tick => cases h; exact terminalAt_takeIf hs fun _ => State.terminalAt_takeTick hs
  case dueItemPlacement =>
    cases h; exact terminalAt_takeIf hs fun _ => terminalAt_foldl State.terminalAt_placeDueOne _ hs
  case probeSpacingExpiry j => cases h; exact State.terminalAt_takeProbeSpacing hs j
  case defenceWindowExpiry j => cases h; exact State.terminalAt_takeDefenceWindow hs j
  case streamPeriodExpiry j => cases h; exact State.terminalAt_takePeriod hs j
  case retrySpacingExpiry j => cases h; exact State.terminalAt_takeRetry hs j
  case exchangeNextDue j => cases h; exact State.terminalAt_takeNextDue hs j
  case replyWaitExpiry j => cases h; exact State.terminalAt_takeReplyWait hs j
  case floodWindowEnd =>
    cases h; exact terminalAt_takeIf hs fun _ => State.terminalAt_setGuard.2 (State.terminalAt_judgeWindow hs)
  case dozeEntry => cases h; exact terminalAt_takeIf hs fun _ => hs
  case warmUpStart => cases h; exact terminalAt_takeIf hs fun _ => State.terminalAt_wake hs
  case warmUpEnd =>
    cases h
    refine terminalAt_takeIf hs fun _ => ?_
    rw [State.endWarmUp, hw rfl]
    exact hs
  case powerOn | rstN | resetRelease | powerLoss => cases hr
  -- RECALL is the one left: its constructor's name is a word of Lean's.
  cases h
  exact State.terminalAt_receive _ _ hs hhome _

end Commands

end Sys2Proof.Machine

open Sys2Proof Sys2Proof.Machine

/-- Settles O28: a LOST claim, an ENDED stream and a still exchange are ends of a record, and every command but a reset keeps
them: each engine acts on a record of another kind or state, or writes one back with its state. -/
theorem terminalStatesStay : Obligations.TerminalStatesStay := by
  intro cmd s t hhome hchecking hw hr h i
  have hkept : ∀ e, s.TerminalAt i e → t.TerminalAt i e := fun e hs => exec_terminalAt hs hhome hchecking hw hr h
  refine ⟨fun c hc hlost hreprobe => ?_, fun x hx hended => ?_, fun x hx hstill hdue hqueue => ?_⟩
  · exact State.terminalAt_lost.1 (hkept .lost (State.terminalAt_lost.2 ⟨c, hc, hlost, hreprobe⟩))
  · exact State.terminalAt_ended.1 (hkept .ended (State.terminalAt_ended.2 ⟨x, hx, hended⟩))
  · obtain ⟨⟨x', hx', -, hstate, hreason, hdue'⟩, hqueue'⟩ := State.terminalAt_still.1
      (hkept (.still x.state x.haltReason) (State.terminalAt_still.2 ⟨⟨x, hx, hstill, rfl, rfl, hdue⟩, hqueue⟩))
    exact ⟨x', hx', hstate, hreason, hdue', hqueue'⟩

end

section
/-! SUPPORT. The filters, the default disposition and an offer to the held queue (R74, R75, R79, R103, R104, R161,
R162). -/

namespace Sys2Proof.Machine

/-! ## The sixth test (R74, R103, R104) -/

section Filters
variable {s : State} {f : Frame} {rest : List Frame} {i : SlotIx} {t : Filter}

theorem State.responderTest_eq_none (h : s.noResponderBelow f 128) : s.responderTest f = none := by
  refine findSome_slotIndices_none fun j => ?_
  split
  · rfl
  · next r hr => exact if_neg (by rw [h j r j.isLt hr]; decide)

theorem State.filterTest_eq_none (h : s.noFilterBelow f 128) : s.filterTest f = none := by
  refine findSome_slotIndices_none fun j => ?_
  split
  · rfl
  · next t ht => exact if_neg (by rw [h j t j.isLt ht]; decide)

theorem State.filterTest_eq_some (hbelow : s.noFilterBelow f i.val) (ht : s.filterAt i = some t)
    (hm : matchesFrame f.bytes t.cfg.descriptor = true) : s.filterTest f = some (s.filterFrame i t f) := by
  refine findSome_slotIndices (i := i) (by rw [ht]; exact if_pos hm) fun j hj => ?_
  split
  · rfl
  · next q hq => exact if_neg (by rw [hbelow j q hj hq]; decide)

/-- A frame that passes the tests before it meets the sixth (R67). -/
theorem State.claimedBy_eq_filterTest (hconflict : s.noConflictBelow f 128) (hstream : s.noStreamBelow f 128)
    (hexchange : s.noExchangeBelow f 128) (hresponder : s.noResponderBelow f 128) : s.claimedBy f = s.filterTest f := by
  unfold State.claimedBy
  rw [State.conflictTest_eq_none hconflict, State.streamTest_eq_none hstream, State.exchangeTest_eq_none hexchange,
    State.responderTest_eq_none hresponder]
  rfl

theorem filterMarks_hit (t : Filter) : filterMarks t { t with hits := bump16 t.hits } = countMark t.hits := by
  unfold filterMarks countMark
  by_cases h : t.hits = 0xFFFF
  · rw [if_pos h, if_neg (not_not_intro ((bump16_eq_self_iff _).2 h))]
  · rw [if_neg h, if_pos (mt (bump16_eq_self_iff _).1 h)]; rfl

/-- A hit rewrites the filter with the mark of its counter (R103, R111). -/
theorem State.putFilter_hit (s : State) (i : SlotIx) (t : Filter) :
    s.putFilter i t { t with hits := bump16 t.hits } =
      s.rewrite i (.filter { t with hits := bump16 t.hits }) (countMark t.hits) :=
  congrArg (s.rewrite i _) (filterMarks_hit t)

theorem State.filterFrame_discard (h : t.cfg.action = .discard) : s.filterFrame i t f =
    s.rewrite i (.filter { t with hits := bump16 t.hits }) (countMark t.hits) := by
  rw [← State.putFilter_hit]
  unfold State.filterFrame; rw [h]

theorem State.filterFrame_rouse (h : t.cfg.action = .rouse) : s.filterFrame i t f =
    (s.rewrite i (.filter { t with hits := bump16 t.hits }) (countMark t.hits)).holdFor f .filterHit i := by
  rw [← State.putFilter_hit]
  unfold State.filterFrame; rw [h]

end Filters

/-! ## The seventh test (R75, R79) -/

section Disposition
variable {s : State} {f : Frame} {rest : List Frame}

theorem State.classify_unclaimed (hforeign : (s.count Counters.seen).ownEcho f = false)
    (hnone : (s.count Counters.seen).claimedBy f = none) :
    s.classify f = (s.count Counters.seen).defaultDisposition f := by
  unfold State.classify
  dsimp only
  rw [hforeign, hnone]
  rfl

/-- A frame no test claims meets the default disposition (R67, R75). -/
theorem exec_of_unclaimed (h : s.classifies f rest) (hnone : (s.afterCount rest).claimedBy f = none) :
    exec .frameTaking s = .next ((s.afterCount rest).defaultDisposition f) := by
  obtain ⟨hrun, hstaged, hecho⟩ := h
  obtain ⟨hcan, hlent⟩ : s.canTake = true ∧ s.custody.state.lent = true := Bool.and_eq_true_iff.1 hrun
  rw [exec_frameTaking hcan hstaged, State.takeFrame_of_lent (by exact hlent),
    State.classify_unclaimed (by exact hecho) (by exact hnone)]
  rfl

theorem State.defaultDisposition_discard (h : s.policy.disposition = .discard) : s.defaultDisposition f = s := by
  unfold State.defaultDisposition; rw [h]

theorem State.defaultDisposition_hold (h : s.policy.disposition = .hold) :
    s.defaultDisposition f = s.offerHeld f none := by
  unfold State.defaultDisposition; rw [h]

/-- A free inspection slot takes the sample (R79). -/
theorem State.defaultDisposition_sampled (h : s.policy.disposition = .inspect) (hfree : s.rx.sample = none) :
    s.defaultDisposition f = (s.setRx { s.rx with
      sample := some { frame := f, ordinal := s.counters.framesSeen, time := s.clk.partTime } }).raise .inspect none := by
  unfold State.defaultDisposition; rw [h, hfree]

/-- An occupied inspection slot keeps its sample, and the frame is counted (R79). -/
theorem State.defaultDisposition_missed (h : s.policy.disposition = .inspect) (hkept : s.rx.sample ≠ none) :
    s.defaultDisposition f =
      s.setCounters { s.counters with inspectDiscards := bump32 s.counters.inspectDiscards } := by
  obtain ⟨sample, hsample⟩ := Option.ne_none_iff_exists'.1 hkept
  unfold State.defaultDisposition; rw [h, hsample]; rfl

end Disposition

/-! ## An offer to the held queue (R161, R162) -/

section Offer
variable {s : State} {f : Frame}

theorem heldHasRoom_iff {entries : List HeldEntry} : heldHasRoom entries f = true ↔
    entries.length < 32 ∧ heldTotal entries + f.bytes.length ≤ 24576 := by
  rw [heldHasRoom, Bool.and_eq_true, decide_eq_true_iff, decide_eq_true_iff]

/-- With room the frame joins the tail (R161). -/
theorem State.offerHeld_placed (h : heldHasRoom s.held.entries f = true) (cause : Option (ConditionClass × SlotIx)) :
    s.offerHeld f cause = s.setHeld { s.held with entries := s.held.entries ++ [{ frame := f, cause := cause }] } :=
  if_pos h

/-- Without room the frame is counted, and the first refusal of a filling raises HELD_FULL (R162). -/
theorem State.offerHeld_refused (h : ¬ heldHasRoom s.held.entries f = true)
    (cause : Option (ConditionClass × SlotIx)) :
    s.offerHeld f cause = if s.held.fullLatch = true then s.count (Counters.heldDiscard 1)
      else ((s.count (Counters.heldDiscard 1)).setHeld { s.held with fullLatch := true }).raise .heldFull none :=
  if_neg h

end Offer

end Sys2Proof.Machine

open Sys2Proof Sys2Proof.Machine

/-- Settles O47: the tests before the sixth pass the frame on, so the lowest matching filter acts, or the default disposition
where none matches; an offer to the held queue is decided by its room, a refusal by the latch. -/
theorem filtersAndTheDefaultDisposition : Obligations.FiltersAndTheDefaultDisposition := by
  refine ⟨fun s f rest hs hconflict hstream hexchange hresponder => ?_, fun s f cause => ?_⟩
  · intro u
    have hpassed : u.claimedBy f = u.filterTest f :=
      State.claimedBy_eq_filterTest (s := u) hconflict hstream hexchange hresponder
    refine ⟨fun i t hbelow ht hm => ?_, fun hnofilter => ?_⟩
    · have htaken : exec .frameTaking s = .next (u.filterFrame i t f) :=
        exec_of_classifies hs (hpassed.trans (State.filterTest_eq_some (s := u) hbelow ht hm))
      intro hit
      refine ⟨fun haction => ?_, fun haction => ?_⟩
      · rw [htaken, State.filterFrame_discard haction]
      · rw [htaken, State.filterFrame_rouse haction]; rfl
    · have htaken : exec .frameTaking s = .next (u.defaultDisposition f) :=
        exec_of_unclaimed hs (hpassed.trans (State.filterTest_eq_none (s := u) hnofilter))
      rw [htaken]
      exact ⟨fun h => congrArg Host.Outcome.next (State.defaultDisposition_discard (s := u) h),
        fun h => congrArg Host.Outcome.next (State.defaultDisposition_hold (s := u) h),
        fun h => ⟨fun hfree => congrArg Host.Outcome.next (State.defaultDisposition_sampled (s := u) h hfree),
          fun hkept => congrArg Host.Outcome.next (State.defaultDisposition_missed (s := u) h hkept)⟩⟩
  · intro refused
    refine ⟨fun hplaces hbytes => State.offerHeld_placed (heldHasRoom_iff.2 ⟨hplaces, hbytes⟩) cause, fun hfull => ?_⟩
    have hnoroom : ¬ heldHasRoom s.held.entries f = true := by rw [heldHasRoom_iff]; omega
    rw [State.offerHeld_refused hnoroom]
    exact ⟨fun hlatch => if_pos hlatch, fun hlatch => if_neg (by rw [hlatch]; decide)⟩

end

section
/-! SUPPORT. The flood guard's windows: when one is judged, its judgement, and the next window (R105 to R108). -/

namespace Sys2Proof.Machine

/-! ## A condition and the flood guard do not meet (R166) -/

section Raised
variable (s : State) (g : FloodGuard) (cls : ConditionClass) (slot : Option SlotIx)

theorem State.retainCondition_setGuard :
    (s.setGuard g).retainCondition cls slot = (s.retainCondition cls slot).setGuard g := by
  cases slot <;> rfl

theorem State.rouseFor_setGuard : (s.setGuard g).rouseFor cls slot = (s.rouseFor cls slot).setGuard g := by
  unfold State.rouseFor
  rw [State.setGuard_custody]
  split <;> rfl

theorem State.notifyOf_setGuard : (s.setGuard g).notifyOf cls = (s.notifyOf cls).setGuard g := rfl

/-- Raising a condition neither reads nor writes the flood guard. -/
theorem State.raise_setGuard : (s.setGuard g).raise cls slot = (s.raise cls slot).setGuard g := by
  unfold State.raise
  by_cases hretain : flagAt s.policy.retain cls.code = true <;>
    by_cases hrouse : flagAt s.policy.rouse cls.code = true <;>
    by_cases hnotify : flagAt s.policy.notify cls.code = true <;>
    simp [hretain, hrouse, hnotify, State.retainCondition_setGuard, State.rouseFor_setGuard, State.notifyOf_setGuard]

end Raised

/-! ## A window's end (R105 to R108) -/

/-- The window that follows a judgement: its state and run, with demand 0 and a whole window to come (R108). -/
def State.nextWindow (s : State) (state : GuardState) (run : Nat) : State :=
  s.setGuard { state, demand := 0, run, windowEnd := some (s.later s.policy.windowLength) }

section Window
variable {s : State} {due : Time}

theorem State.startWindow_eq (s : State) : s.startWindow = s.nextWindow s.guard.state s.guard.run := rfl

/-- A condition raised before the next window starts leaves that window as it would be without it. -/
theorem State.startWindow_raise (s : State) (cls : ConditionClass) (slot : Option SlotIx) :
    (s.raise cls slot).startWindow = s.startWindow.raise cls slot := by
  simp only [State.startWindow, State.raise_frame, State.raise_setGuard]

/-- A running window is judged once its end has come, while the engines run (R108). -/
theorem exec_floodWindowEnd (hrun : s.enginesRun = true) (hend : s.guard.windowEnd = some due) :
    exec .floodWindowEnd s = .next (if s.came due then s.judgeWindow.startWindow else s) := by
  have hended : (s.enginesRun && s.windowEnded) = true ↔ s.came due := by
    rw [hrun, Bool.true_and, State.windowEnded, hend]
    exact decide_eq_true_iff
  exact congrArg Host.Outcome.next (if_congr hended rfl rfl)

/-! ### The judgement (R108) -/

/-- In NORMAL a demand above the high mark lengthens the run or, the run long enough, is a flood; any other ends the run. -/
theorem State.judgeWindow_normal (h : s.guard.state = .normal) : s.judgeWindow.startWindow =
    if s.policy.highMark < s.guard.demand.toNat then
      if s.policy.debounce ≤ s.guard.run then
        ((s.setCond { s.cond with report := { s.cond.report with floodSeen := true } }).nextWindow .flooded 0).raise
          .flood none
      else s.nextWindow .normal (s.guard.run + 1)
    else s.nextWindow .normal 0 := by
  unfold State.judgeWindow
  dsimp only
  rw [h]
  dsimp only
  by_cases hover : s.policy.highMark < s.guard.demand.toNat
  · rw [if_pos hover, if_pos hover]
    by_cases hrun : s.policy.debounce ≤ s.guard.run
    · rw [if_pos hrun, if_pos (Nat.succ_le_succ hrun), State.startWindow_raise]
      rfl
    · rw [if_neg hrun, if_neg (mt Nat.le_of_succ_le_succ hrun)]
      rfl
  · rw [if_neg hover, if_neg hover]
    rfl

/-- In FLOODED a demand above the low mark keeps the state; any other ends the flood. -/
theorem State.judgeWindow_flooded (h : s.guard.state = .flooded) : s.judgeWindow.startWindow =
    if s.policy.lowMark < s.guard.demand.toNat then s.nextWindow .flooded s.guard.run else s.nextWindow .normal 0 := by
  unfold State.judgeWindow
  dsimp only
  rw [h]
  dsimp only
  split
  · rw [State.startWindow_eq, h]
  · rfl

end Window

end Sys2Proof.Machine

open Sys2Proof Sys2Proof.Machine

/-- Settles O51: a window whose end has come is judged by its state, its demand against the state's mark and, above the high
mark, its run against the debounce; the next window starts with the state and the run judged. -/
theorem floodWindowsAreJudged : Obligations.FloodWindowsAreJudged := by
  intro s due hrun hend next
  rw [exec_floodWindowEnd hrun hend]
  refine ⟨fun hcame => by rw [if_neg hcame], fun hcame hnormal => ?_, fun hcame hflooded => ?_⟩
  · rw [if_pos hcame, State.judgeWindow_normal hnormal]
    refine ⟨fun hcalm => ?_, fun hover hshort => ?_, fun hover hlong => ?_⟩
    · rw [if_neg (by omega)]; rfl
    · rw [if_pos hover, if_neg (by omega)]; rfl
    · rw [if_pos hover, if_pos (by omega)]; rfl
  · rw [if_pos hcame, State.judgeWindow_flooded hflooded]
    refine ⟨fun hcalm => ?_, fun hover => ?_⟩
    · rw [if_neg (by omega)]; rfl
    · rw [if_pos hover]; rfl

end

section
/-! SUPPORT. A stream's decision of its frame: the third test, the sequence tests and what each outcome writes (R71, R115 to
R119). -/

namespace Sys2Proof.Machine

/-! ## The third test (R71) -/

section Test
variable {s : State} {f : Frame} {i : SlotIx} {x : Stream}

/-- A stream not ENDED claims what passes its inbound descriptor. -/
theorem State.streamClaims_eq_some {bytes : List Byte} (hx : s.streamAt i = some x) (hlive : x.state ≠ .ended)
    (hm : matchesFrame bytes x.cfg.inbound = true) : s.streamClaims bytes i = some x := by
  unfold State.streamClaims; rw [hx]; exact if_pos ⟨hlive, hm⟩

/-- An ENDED stream claims nothing, and any other nothing that does not pass its inbound descriptor. -/
theorem State.streamClaims_eq_none {bytes : List Byte}
    (h : ∀ x, s.streamAt i = some x → x.state ≠ .ended → matchesFrame bytes x.cfg.inbound = false) :
    s.streamClaims bytes i = none := by
  unfold State.streamClaims
  split
  · next x hx => exact if_neg fun ⟨hlive, hm⟩ => Bool.false_ne_true ((h x hx hlive).symm.trans hm)
  · rfl

theorem State.streamTest_eq_some (hbelow : s.noStreamBelow f i.val) (hx : s.streamAt i = some x)
    (hlive : x.state ≠ .ended) (hm : matchesFrame f.bytes x.cfg.inbound = true) :
    s.streamTest f = some (s.streamFrame i x f) := by
  refine findSome_slotIndices (i := i) (by rw [State.streamClaims_eq_some hx hlive hm]; rfl) fun j hj => ?_
  rw [State.streamClaims_eq_none fun y hy => hbelow j y hj hy]
  rfl

theorem State.claimedBy_stream {t : State} (hc : s.conflictTest f = none) (hs : s.streamTest f = some t) :
    s.claimedBy f = some t := by
  unfold State.claimedBy; rw [hc, hs]; rfl

end Test

/-! ## The sequence tests (R116) -/

section Sequence
variable {ours peers sv av : SeqValue}

/-- A value is ahead of another by less than half the range, and is not that other (section 6.4). -/
theorem ahead_iff {x y : SeqValue} : ahead x y = true ↔ x ≠ y ∧ (x - y).toNat < 2 ^ 31 := by
  rw [ahead, Bool.and_eq_true, decide_eq_true_iff]
  exact and_congr_right' decide_eq_true_iff

/-- A value half the range away or more is neither equal nor ahead. -/
theorem not_ahead_of_far {x y : SeqValue} (h : 2 ^ 31 ≤ (x - y).toNat) : x ≠ y ∧ ¬ ahead x y = true := by
  refine ⟨fun heq => ?_, fun hahead => Nat.not_lt.2 h (ahead_iff.1 hahead).2⟩
  rw [heq, BitVec.sub_self] at h
  exact absurd h (by decide)

/-- The expected value is not the one before it. -/
theorem SeqValue.ne_pred (v : SeqValue) : v ≠ v - 1 := by bv_omega

theorem seqTests_keepAlive (h : sv = peers - 1) : seqTests ours peers sv av = .keepAlive := if_pos h

/-- On the expected sequence value the acknowledgement value decides. -/
theorem seqTests_expected (h : sv = peers) : seqTests ours peers sv av =
    if av = ours then .acknowledgement else if ahead av ours then .data else .stale := by
  subst h
  exact (if_neg (SeqValue.ne_pred sv)).trans (if_pos rfl)

/-- On any other, whether it is ahead. -/
theorem seqTests_unexpected (hbefore : sv ≠ peers - 1) (h : sv ≠ peers) :
    seqTests ours peers sv av = if ahead sv peers then .data else .stale :=
  (if_neg hbefore).trans (if_neg h)

theorem seqTests_acknowledgement (hs : sv = peers) (ha : av = ours) :
    seqTests ours peers sv av = .acknowledgement := (seqTests_expected hs).trans (if_pos ha)

theorem seqTests_data (h : (sv = peers ∧ av ≠ ours ∧ (av - ours).toNat < 2 ^ 31) ∨
    (sv ≠ peers - 1 ∧ sv ≠ peers ∧ (sv - peers).toNat < 2 ^ 31)) : seqTests ours peers sv av = .data := by
  rcases h with ⟨hs, ha⟩ | ⟨hbefore, hs⟩
  · rw [seqTests_expected hs, if_neg ha.1, if_pos (ahead_iff.2 ha)]
  · rw [seqTests_unexpected hbefore hs.1, if_pos (ahead_iff.2 hs)]

theorem seqTests_stale (h : (sv = peers ∧ 2 ^ 31 ≤ (av - ours).toNat) ∨
    (sv ≠ peers - 1 ∧ 2 ^ 31 ≤ (sv - peers).toNat)) : seqTests ours peers sv av = .stale := by
  rcases h with ⟨hs, ha⟩ | ⟨hbefore, hs⟩
  · rw [seqTests_expected hs, if_neg (not_ahead_of_far ha).1, if_neg (not_ahead_of_far ha).2]
  · rw [seqTests_unexpected hbefore (not_ahead_of_far hs).1, if_neg (not_ahead_of_far hs).2]

end Sequence

/-! ## What a stream does with its frame (R115 to R118) -/

/-- The outcome of the sequence tests on a frame's own fields. -/
def Stream.outcome (x : Stream) (bytes : List Byte) : SeqOutcome :=
  seqTests x.ourSeq x.peerSeq (seqField bytes x.cfg.seqOffset) (seqField bytes x.cfg.ackOffset)

/-- What a stream does with a frame of each outcome (R116). -/
def State.actOn (s : State) (i : SlotIx) (x : Stream) (f : Frame) : SeqOutcome → State
  | .keepAlive => s.answerWith i .stream (.stream x) x.cfg.replyTemplate f.bytes
  | .acknowledgement => s.streamAck i x
  | .data => s.holdFor f .streamData i
  | .stale => s.streamStale i x

section Decision
variable {s : State} {f : Frame} {i : SlotIx} {x : Stream}

theorem State.streamFrame_short (h : f.bytes.length < x.cfg.headerLen) :
    s.streamFrame i x f = s.count Counters.bad := if_pos h

/-- A frame passes a close probe that is there. -/
theorem Stream.closes_iff (x : Stream) (bytes : List Byte) :
    (x.cfg.closeProbe.map fun p => p.passes 0 bytes).getD false = true ↔
      ∃ p, x.cfg.closeProbe = some p ∧ p.passes 0 bytes = true := by
  cases x.cfg.closeProbe <;> simp

theorem State.streamFrame_close (hlen : x.cfg.headerLen ≤ f.bytes.length)
    (hclose : ∃ p, x.cfg.closeProbe = some p ∧ p.passes 0 f.bytes = true) :
    s.streamFrame i x f =
      ((s.offerHeld f (some (.streamEnded, i))).endStream i x x).raise .streamEnded (some i) :=
  (if_neg (Nat.not_lt.2 hlen)).trans (if_pos ((x.closes_iff f.bytes).2 hclose))

/-- A frame of more payload than a keep-alive's is held as data (R115). -/
theorem State.streamFrame_payload (hopen : ¬ ∃ p, x.cfg.closeProbe = some p ∧ p.passes 0 f.bytes = true)
    (hlen : x.cfg.headerLen + 2 ≤ f.bytes.length) : s.streamFrame i x f = s.holdFor f .streamData i :=
  (if_neg (by omega)).trans ((if_neg (mt (x.closes_iff f.bytes).1 hopen)).trans (if_pos (by omega)))

/-- The sequence tests decide any other frame (R116). -/
theorem State.streamFrame_tested (hopen : ¬ ∃ p, x.cfg.closeProbe = some p ∧ p.passes 0 f.bytes = true)
    (hlen : x.cfg.headerLen ≤ f.bytes.length) (hbare : f.bytes.length < x.cfg.headerLen + 2) :
    s.streamFrame i x f = s.actOn i x f (x.outcome f.bytes) := by
  refine (if_neg (by omega)).trans ((if_neg (mt (x.closes_iff f.bytes).1 hopen)).trans ((if_neg (by omega)).trans ?_))
  unfold Stream.outcome
  cases seqTests x.ourSeq x.peerSeq (seqField f.bytes x.cfg.seqOffset) (seqField f.bytes x.cfg.ackOffset) <;> rfl

end Decision

/-! ### The counts of a stream (R130) -/

section Counts
variable {s : State} {i : SlotIx} {x : Stream}

/-- A counter is marked where raising it changes it (section 6.6, R174). -/
theorem countMark_eq (c : Count16) : countMark c = if bump16 c = c then 0 else markCounters :=
  if_congr (bump16_eq_self_iff c).symm rfl rfl

/-- An acknowledgement of an outstanding probe rewrites the stream IDLE, with a whole period to come, and takes its item away
(R118). -/
theorem State.streamAck_outstanding (h : x.state = .outstanding) : s.streamAck i x =
    (s.rewrite i (.stream { x with
      acksSeen := bump16 x.acksSeen, state := .idle, misses := 0, itemDue := false, timer := some .period
      nextDue := s.later x.cfg.period }) 0x01).unqueued i := by
  have hmoved : StreamState.idle ≠ x.state := by rw [h]; exact nofun
  unfold State.streamAck
  dsimp only
  rw [if_pos h, State.putStream_eq, streamMarks_of_state hmoved]
  rfl

/-- Any other acknowledgement is only counted (R118). -/
theorem State.streamAck_counted (h : x.state ≠ .outstanding) : s.streamAck i x =
    s.rewrite i (.stream { x with acksSeen := bump16 x.acksSeen }) (countMark x.acksSeen) := by
  unfold State.streamAck
  dsimp only
  rw [if_neg h, State.putStream_eq, countMark_eq]
  simp [streamMarks]

/-- A stale frame is only counted (R116). -/
theorem State.streamStale_eq : s.streamStale i x =
    s.rewrite i (.stream { x with staleFrames := bump16 x.staleFrames }) (countMark x.staleFrames) := by
  rw [State.streamStale, State.putStream_eq, countMark_eq]
  simp [streamMarks]

end Counts

end Sys2Proof.Machine

open Sys2Proof Sys2Proof.Machine

/-- Settles O44: the third test finds the stream; length, close probe and payload decide in their order, then the outcome of
the sequence tests. -/
theorem streamFramesAreDecided : Obligations.StreamFramesAreDecided := by
  intro s f rest i x hs hconflict hbelow hx hlive hm u sv av closes held
  have htaken : exec .frameTaking s = .next (u.streamFrame i x f) :=
    exec_of_classifies hs (State.claimedBy_stream (State.conflictTest_eq_none (s := u) hconflict)
      (State.streamTest_eq_some (s := u) hbelow hx hlive hm))
  rw [htaken]
  refine ⟨fun hshort => ?_, fun hlen => ⟨fun hclose => ?_, fun hopen => ⟨fun hpayload => ?_, fun hbare => ?_⟩⟩⟩
  · rw [State.streamFrame_short hshort]; rfl
  · rw [State.streamFrame_close hlen hclose, State.endStream_eq hlive]
  · rw [State.streamFrame_payload hopen hpayload]; rfl
  have htested : ∀ o, x.outcome f.bytes = o → u.streamFrame i x f = u.actOn i x f o := fun o ho =>
    ho ▸ State.streamFrame_tested hopen hlen hbare
  refine ⟨fun hbefore => ?_, fun hsv hav => ?_, fun hahead => ?_, fun hfar => ?_⟩
  · rw [htested .keepAlive (seqTests_keepAlive hbefore)]
    exact ⟨fun hup hroom => congrArg Host.Outcome.next (State.answerWith_placed (s := u) hup hroom ..),
      fun hfull => congrArg Host.Outcome.next (State.answerWith_dropped (s := u) hfull ..)⟩
  · rw [htested .acknowledgement (seqTests_acknowledgement hsv hav)]
    exact ⟨fun hprobed => congrArg Host.Outcome.next (State.streamAck_outstanding hprobed),
      fun hunasked => congrArg Host.Outcome.next (State.streamAck_counted hunasked)⟩
  · rw [htested .data (seqTests_data hahead)]; rfl
  · rw [htested .stale (seqTests_stale hfar)]
    exact congrArg Host.Outcome.next State.streamStale_eq

end

section
/-! SUPPORT. The expiries of a stream's timer: when one is taken, and what it then does (R113, R119, R120, R122). -/

namespace Sys2Proof.Machine

/-- A stream whose period has expired (R120). -/
def Stream.probeWanted (x : Stream) : Stream := { x with state := .probeDue, timer := none }

/-- A stream whose probe was not acknowledged in time (R122). -/
def Stream.missed (x : Stream) : Stream := { x with misses := x.misses + 1, timer := none }

section Expiry
variable {s : State} {i : SlotIx} {x : Stream}

/-- The item of a stream just rewritten is placed by the link and the room that were there before (R120). -/
theorem State.placeStreamItem_rewrite (r : Record) (m : BitVec 8) : (s.rewrite i r m).placeStreamItem i x =
    if s.tx.linkUp && (s.hasItem i || s.ownRoom) then (s.rewrite i r m).pushItem (.stream i)
    else s.rewrite i (.stream { x with itemDue := true }) m := by
  have htx : (s.rewrite i r m).tx = s.tx := by simp
  unfold State.placeStreamItem State.hasItem State.ownRoom
  rw [htx, State.rewrite_setSlot]

/-- It joins the queue where the link is up and there is room. -/
theorem State.placeStreamItem_queued (hup : s.tx.linkUp = true) (hroom : s.roomFor i) (r : Record) (m : BitVec 8) :
    (s.rewrite i r m).placeStreamItem i x = (s.rewrite i r m).queued (.stream i) := by
  have hown : s.ownRoom = true := decide_eq_true hroom.2
  have htx : (s.rewrite i r m).tx = s.tx := by simp
  have hfree : (s.rewrite i r m).hasItem i = false := State.hasItem_eq_false (htx ▸ hroom.1)
  rw [State.placeStreamItem_rewrite, if_pos (by rw [hup, hown, Bool.or_true]; rfl)]
  exact if_neg (Bool.eq_false_iff.1 hfree)

/-- It waits as item due where the link is down or there is no room. -/
theorem State.placeStreamItem_due (h : s.tx.linkUp = false ∨ s.noRoomFor i) (r : Record) (m : BitVec 8) :
    (s.rewrite i r m).placeStreamItem i x = s.rewrite i (.stream { x with itemDue := true }) m := by
  have hnoplace : (s.tx.linkUp && (s.hasItem i || s.ownRoom)) = false := by
    rcases h with hdown | ⟨hnone, hfull⟩
    · rw [hdown, Bool.false_and]
    · have hown : s.ownRoom = false := decide_eq_false (Nat.not_lt.2 hfull)
      rw [State.hasItem_eq_false hnone, hown, Bool.or_false, Bool.and_false]
  rw [State.placeStreamItem_rewrite, if_neg (Bool.eq_false_iff.1 hnoplace)]

/-- A running timer whose due time has come is due, a retry spacing only while the link is up (R113, R120, R122). -/
theorem State.streamDue_eq {k : StreamTimer} (ht : x.timer = some k) (hcame : s.came x.nextDue) :
    s.streamDue x k = (decide (k = .period) || s.tx.linkUp) := by
  have hdue : dueCome s.clk.partTime x.nextDue = true := decide_eq_true hcame
  rw [State.streamDue, decide_eq_true ht, hdue, Bool.true_and, Bool.true_and]

/-- The end of a stream whose probes were missed is marked for its state (R119, R130). -/
theorem State.endStream_missed (hlive : x.state ≠ .ended) : s.endStream i x x.missed = s.endsStream i x.missed 0x01 := by
  unfold State.endStream
  rw [State.putStream_eq, streamMarks_of_state (b := x.missed.endedForm) hlive.symm]
  rfl

/-- A miss is marked for its count (R130). -/
theorem State.putStream_missed : s.putStream i x x.missed = s.rewrite i (.stream x.missed) 0x04 := by
  have hmarks : streamMarks x x.missed = 0x04 := by simp [streamMarks, Stream.missed, markCounters]
  rw [State.putStream_eq, hmarks]

section Taken
variable (hx : s.streamAt i = some x) (hrun : s.enginesRun = true) (hcame : s.came x.nextDue)
include hx hrun hcame

/-- A period's expiry makes the probe due and wants its item (R120). -/
theorem State.takePeriod_eq (ht : x.timer = some .period) (hidle : x.state = .idle) :
    s.takePeriod i = (s.rewrite i (.stream x.probeWanted) 0x01).placeStreamItem i x.probeWanted := by
  have hmoved : x.probeWanted.state ≠ x.state := by rw [hidle]; exact nofun
  have hholds : (s.enginesRun && s.streamDue x .period && decide (x.state = .idle)) = true := by
    rw [hrun, State.streamDue_eq ht hcame, decide_eq_true hidle]; rfl
  unfold State.takePeriod
  rw [hx, ← streamMarks_of_state hmoved, ← State.putStream_eq]
  exact if_pos hholds

/-- A retry spacing is taken while the link is up: it counts a miss and ends the stream at the limit, or wants the probe again
(R122). -/
theorem State.takeRetry_eq (ht : x.timer = some .retrySpacing) (hprobed : x.state = .outstanding) :
    s.takeRetry i = if s.tx.linkUp then
        if x.cfg.missLimit ≤ x.misses + 1 then (s.endsStream i x.missed 0x01).raise .streamSilent (some i)
        else (s.rewrite i (.stream x.missed) 0x04).placeStreamItem i x.missed
      else s := by
  have hlive : x.state ≠ .ended := by rw [hprobed]; exact nofun
  have hholds : (s.enginesRun && s.streamDue x .retrySpacing && decide (x.state = .outstanding)) = s.tx.linkUp := by
    rw [hrun, State.streamDue_eq ht hcame, decide_eq_true hprobed, Bool.true_and, Bool.and_true]; rfl
  unfold State.takeRetry
  rw [hx, ← State.endStream_missed hlive, ← State.putStream_missed]
  dsimp only
  rw [hholds]
  rfl

end Taken

end Expiry

end Sys2Proof.Machine

open Sys2Proof Sys2Proof.Machine

/-- Settles O49: what an expiry taken does is one write of the stream, and its item placed by the link and the room there is, or
the stream's end. -/
theorem streamTimersExpire : Obligations.StreamTimersExpire := by
  intro s i x hx hrun hcame
  refine ⟨fun ht hidle => ?_, fun ht hprobed => ?_⟩
  · intro due
    have htaken : exec (.streamPeriodExpiry i) s = .next ((s.rewrite i (.stream due) 0x01).placeStreamItem i due) :=
      congrArg Host.Outcome.next (State.takePeriod_eq hx hrun hcame ht hidle)
    rw [htaken]
    exact ⟨fun hup hroom => congrArg Host.Outcome.next (State.placeStreamItem_queued hup hroom _ _),
      fun hkept => congrArg Host.Outcome.next (State.placeStreamItem_due hkept _ _)⟩
  · intro missed
    have htaken : exec (.retrySpacingExpiry i) s = .next (if s.tx.linkUp then
        if x.cfg.missLimit ≤ x.misses + 1 then (s.endsStream i missed 0x01).raise .streamSilent (some i)
        else (s.rewrite i (.stream missed) 0x04).placeStreamItem i missed
      else s) := congrArg Host.Outcome.next (State.takeRetry_eq hx hrun hcame ht hprobed)
    rw [htaken]
    refine ⟨fun hdown => by rw [if_neg (Bool.eq_false_iff.1 hdown)], fun hup => ?_⟩
    rw [if_pos hup]
    refine ⟨fun hlimit => by rw [if_pos hlimit], fun hbelow => ?_⟩
    rw [if_neg (Nat.not_le.2 hbelow)]
    exact ⟨fun hroom => congrArg Host.Outcome.next (State.placeStreamItem_queued hup hroom _ _),
      fun hroom => congrArg Host.Outcome.next (State.placeStreamItem_due (.inr hroom) _ _)⟩

end

section
/-! SUPPORT. The expiries of an exchange's timer: when one is taken, where the request it wants goes, and what it then does
(R132, R133, R141, R143). -/

namespace Sys2Proof.Machine

/-- An exchange whose next due time has come (R133). -/
def Exchange.dueAgain (x : Exchange) : Exchange := { x with state := .queued, resend := false, timer := none }

/-- An exchange whose reply wait has expired once more (R141). -/
def Exchange.tried (x : Exchange) : Exchange := { x with attempts := x.attempts + 1 }

/-- An exchange that tries again: its request wants to be sent once more (R141). -/
def Exchange.retried (x : Exchange) : Exchange := { x.tried with state := .queued, resend := true, timer := none }

/-- An exchange as a halt leaves its record (R143). -/
def Exchange.haltedFor (reason : HaltReason) (x : Exchange) : Exchange :=
  { x with state := .halted, haltReason := some reason, timer := none, itemDue := false, resend := false }

section Placing
variable {s : State} {i : SlotIx} {x : Exchange}

/-- An item joins the queue where its slot has none in it (R152). -/
theorem State.pushItem_queued {item : OwnItem} (h : ∀ it ∈ s.tx.own, it.slot ≠ item.slot) :
    s.pushItem item = s.queued item := if_neg (Bool.eq_false_iff.1 (State.hasItem_eq_false h))

/-- A request joins the queue where the link is up and there is room (R133). -/
theorem State.placeExchangeItem_queued (hup : s.tx.linkUp = true) (hroom : s.roomFor i) :
    s.placeExchangeItem i x = s.queued (.exchange i) := by
  have hown : s.ownRoom = true := decide_eq_true hroom.2
  rw [← State.pushItem_queued (item := .exchange i) hroom.1]
  exact if_pos (by rw [hup, hown, Bool.or_true]; rfl)

/-- It waits as item due where the link is down or there is no room (R133). -/
theorem State.placeExchangeItem_due (h : s.tx.linkUp = false ∨ s.noRoomFor i) :
    s.placeExchangeItem i x = s.setSlot i (some (.exchange { x with itemDue := true })) := by
  have hnoplace : (s.tx.linkUp && (s.hasItem i || s.ownRoom)) = false := by
    rcases h with hdown | ⟨hnone, hfull⟩
    · rw [hdown, Bool.false_and]
    · have hown : s.ownRoom = false := decide_eq_false (Nat.not_lt.2 hfull)
      rw [State.hasItem_eq_false hnone, hown, Bool.or_false, Bool.and_false]
  exact if_neg (Bool.eq_false_iff.1 hnoplace)

/-- A rewrite leaves the transmitter. -/
theorem State.tx_rewrite (r : Record) (m : BitVec 8) : (s.rewrite i r m).tx = s.tx :=
  (s.rewrite_frame i r m).2.2.2.2.2.1

/-- The request of an exchange just rewritten is placed by the link and the room that were there before (R133). -/
theorem State.placeExchangeItem_rewrite (r : Record) (m : BitVec 8) :
    (s.tx.linkUp = true → s.roomFor i →
      (s.rewrite i r m).placeExchangeItem i x = (s.rewrite i r m).queued (.exchange i)) ∧
    (s.tx.linkUp = false ∨ s.noRoomFor i →
      (s.rewrite i r m).placeExchangeItem i x = s.rewrite i (.exchange { x with itemDue := true }) m) := by
  rw [State.roomFor, State.noRoomFor, ← State.tx_rewrite (s := s) (i := i) r m]
  exact ⟨State.placeExchangeItem_queued, fun h => (State.placeExchangeItem_due h).trans (s.rewrite_setSlot i r _ m)⟩

end Placing

section Expiry
variable {s : State} {i : SlotIx} {x : Exchange}

/-- A change of state that keeps the captures is marked as one of state (R148). -/
theorem State.putExchange_moved {a b : Exchange} (hmoved : b.state ≠ a.state) (hkept : b.captures = a.captures) :
    s.putExchange i a b = s.rewrite i (.exchange b) 0x01 := by
  rw [State.putExchange_eq, exchangeMarks_of_state hmoved, if_pos hkept]

/-- A halt looks at the record the taking found in its write alone. -/
theorem State.haltExchange_put (old : Exchange) (reason : HaltReason) : s.haltExchange i old x reason =
    slotIndices.foldl (State.loseLinkedClaim i)
      (((s.putExchange i old (x.haltedFor reason)).withdrawItem i).raise reason.condition (some i)) := rfl

/-- The halt of a running exchange is marked alike from any running record with its captures (R143, R148). -/
theorem State.haltExchange_from {old : Exchange} (hold : old.state ≠ .halted) (hrun : x.state ≠ .halted)
    (hkept : x.captures = old.captures) (reason : HaltReason) :
    s.haltExchange i old x reason = s.haltsExchange i x reason := by
  have hput : s.putExchange i old (x.haltedFor reason) = s.putExchange i x (x.haltedFor reason) :=
    (State.putExchange_moved (b := x.haltedFor reason) hold.symm hkept).trans
      (State.putExchange_moved (b := x.haltedFor reason) hrun.symm rfl).symm
  rw [← State.haltExchange_eq hrun, State.haltExchange_put, hput, State.haltExchange_put]

/-- A running timer whose due time has come is due, a reply wait only while the link is up (R132, R133, R141). -/
theorem State.exchangeDue_eq {k : ExchangeTimer} (ht : x.timer = some k) (hcame : s.came x.nextDue) :
    s.exchangeDue x k = (decide (k = .nextDue) || s.tx.linkUp) := by
  have hdue : dueCome s.clk.partTime x.nextDue = true := decide_eq_true hcame
  rw [State.exchangeDue, decide_eq_true ht, hdue, Bool.true_and, Bool.true_and]

section Taken
variable (hx : s.exchangeAt i = some x) (hrun : s.enginesRun = true) (hcame : s.came x.nextDue)
include hx hrun hcame

/-- The next due time makes the exchange QUEUED and places its request (R133). -/
theorem State.takeNextDue_eq (ht : x.timer = some .nextDue) (hwaiting : x.state = .waiting) :
    s.takeNextDue i = (s.rewrite i (.exchange x.dueAgain) 0x01).placeExchangeItem i x.dueAgain := by
  have hmoved : x.dueAgain.state ≠ x.state := by rw [hwaiting]; exact nofun
  have hholds : (s.enginesRun && s.exchangeDue x .nextDue && decide (x.state = .waiting)) = true := by
    rw [hrun, State.exchangeDue_eq ht hcame, decide_eq_true hwaiting]; rfl
  unfold State.takeNextDue
  rw [hx, ← State.putExchange_moved hmoved rfl]
  exact if_pos hholds

/-- A reply wait is taken while the link is up: it counts an attempt and places the request again, or halts the exchange once
its retries are spent (R141, R143). -/
theorem State.takeReplyWait_eq (ht : x.timer = some .replyWait) (hawaiting : x.state = .awaiting) :
    s.takeReplyWait i = if s.tx.linkUp then
        if x.attempts + 1 ≤ x.cfg.retryLimit then
          (s.rewrite i (.exchange x.retried) 0x01).placeExchangeItem i x.retried
        else s.haltsExchange i x.tried .failed
      else s := by
  have hrunning : x.state ≠ .halted := by rw [hawaiting]; exact nofun
  have hmoved : x.retried.state ≠ x.state := by rw [hawaiting]; exact nofun
  have hholds : (s.enginesRun && s.exchangeDue x .replyWait && decide (x.state = .awaiting)) = s.tx.linkUp := by
    rw [hrun, State.exchangeDue_eq ht hcame, decide_eq_true hawaiting, Bool.true_and, Bool.and_true]; rfl
  unfold State.takeReplyWait
  rw [hx, ← State.putExchange_moved hmoved rfl, ← State.haltExchange_from (x := x.tried) hrunning hrunning rfl]
  dsimp only
  rw [hholds]
  rfl

end Taken

end Expiry

end Sys2Proof.Machine

open Sys2Proof Sys2Proof.Machine

/-- Settles O50: what an expiry taken does is one write of the exchange, and its request placed by the link and the room
there is, or the exchange's halt. -/
theorem exchangeTimersExpire : Obligations.ExchangeTimersExpire := by
  intro s i x hx hrun hcame
  refine ⟨fun ht hwaiting => ?_, fun ht hawaiting => ?_⟩
  · intro wanted
    have htaken : exec (.exchangeNextDue i) s =
        .next ((s.rewrite i (.exchange wanted) 0x01).placeExchangeItem i wanted) :=
      congrArg Host.Outcome.next (State.takeNextDue_eq hx hrun hcame ht hwaiting)
    obtain ⟨hqueued, hdue⟩ := State.placeExchangeItem_rewrite (s := s) (i := i) (x := wanted) (.exchange wanted) 0x01
    rw [htaken]
    exact ⟨fun hup hroom => congrArg Host.Outcome.next (hqueued hup hroom),
      fun hkept => congrArg Host.Outcome.next (hdue hkept)⟩
  · intro tried
    have htaken : exec (.replyWaitExpiry i) s = .next (if s.tx.linkUp then
        if x.attempts + 1 ≤ x.cfg.retryLimit then
          (s.rewrite i (.exchange x.retried) 0x01).placeExchangeItem i x.retried
        else s.haltsExchange i tried .failed
      else s) := congrArg Host.Outcome.next (State.takeReplyWait_eq hx hrun hcame ht hawaiting)
    rw [htaken]
    refine ⟨fun hdown => by rw [if_neg (Bool.eq_false_iff.1 hdown)], fun hup => ?_⟩
    rw [if_pos hup]
    refine ⟨fun hspent => by rw [if_neg (Nat.not_le.2 hspent)], fun hleft => ?_⟩
    obtain ⟨hqueued, hdue⟩ :=
      State.placeExchangeItem_rewrite (s := s) (i := i) (x := x.retried) (.exchange x.retried) 0x01
    rw [if_pos hleft]
    exact ⟨fun hroom => congrArg Host.Outcome.next (hqueued hup hroom),
      fun hfull => congrArg Host.Outcome.next (hdue (.inr hfull))⟩

end

section
/-! SUPPORT. The arbiter's grant, class by class and item by item, and the completion of each kind of frame (R40, R121, R134,
R153 to R155). -/

namespace Sys2Proof.Machine

/-! ## The class a grant goes to (R153) -/

theorem Transmitter.partWaits_iff (t : Transmitter) : t.partWaits = true ↔ t.answers ≠ [] ∨ t.own ≠ [] := by
  simp [Transmitter.partWaits]

theorem Transmitter.partWaits_eq_false_iff (t : Transmitter) : t.partWaits = false ↔ t.answers = [] ∧ t.own = [] := by
  simp [Transmitter.partWaits]

/-- The station class is granted where it waits and it is its turn or the part's class does not wait. -/
theorem grantClass_station {next : TxClass} {part : Bool} (h : next = .station ∨ part = false) :
    grantClass next true part = some .station := by
  rcases h with h | h <;> subst h
  · rfl
  · cases next <;> rfl

/-- The part's class is granted where it waits and it is its turn or the station class does not wait. -/
theorem grantClass_part {next : TxClass} {station : Bool} (h : next = .part ∨ station = false) :
    grantClass next station true = some .part := by
  rcases h with h | h <;> subst h
  · rfl
  · cases next <;> rfl

theorem grantClass_none (next : TxClass) : grantClass next false false = none := by cases next <;> rfl

section Grant
variable {s : State}

/-- A taking of the arbiter where the transmitter is idle and the link up (R153). -/
theorem exec_grant (hcan : s.canTake = true) (hup : s.tx.linkUp = true) (hidle : s.tx.carried = none) :
    exec .grant s =
      .next ((grantClass s.tx.nextClass (decide (s.stn.buffer ≠ [])) s.tx.partWaits).elim s s.grantTo) := by
  have hmade : (s.tx.linkUp && s.tx.carried.isNone) = true := by rw [hup, hidle]; rfl
  have hexec : exec .grant s = .next (s.takeIf s.canTake State.arbitrate) := rfl
  rw [hexec, State.takeIf, if_pos hcan, State.arbitrate, State.takeIf, if_pos hmade]
  cases grantClass s.tx.nextClass (decide (s.stn.buffer ≠ [])) s.tx.partWaits <;> rfl

/-- A grant to the station class (R153, R154). -/
theorem exec_grant_station {f : Frame} {rest : List Frame} (hcan : s.canTake = true) (hup : s.tx.linkUp = true)
    (hidle : s.tx.carried = none) (hbuffer : s.stn.buffer = f :: rest)
    (hturn : s.tx.nextClass = .station ∨ (s.tx.answers = [] ∧ s.tx.own = [])) :
    exec .grant s = .next (((s.setStn { s.stn with buffer := rest }).setTx
      { s.tx with nextClass := .part }).carry (.station f)) := by
  have hwaits : decide (s.stn.buffer ≠ []) = true := by rw [hbuffer]; rfl
  have hturn' : s.tx.nextClass = .station ∨ s.tx.partWaits = false := hturn.imp_right s.tx.partWaits_eq_false_iff.2
  rw [exec_grant hcan hup hidle, hwaits, grantClass_station hturn']
  simp only [Option.elim_some, State.grantTo, State.grantStation, State.setTx_stn, hbuffer]
  rfl

/-- It is the part's turn where its class is the next, or no station frame waits (R153). -/
theorem exec_grant_part (hcan : s.canTake = true) (hup : s.tx.linkUp = true) (hidle : s.tx.carried = none)
    (hwaits : s.tx.answers ≠ [] ∨ s.tx.own ≠ []) (hturn : s.tx.nextClass = .part ∨ s.stn.buffer = []) :
    exec .grant s = .next (s.setTx { s.tx with nextClass := .station }).grantPart := by
  have hturn' : s.tx.nextClass = .part ∨ decide (s.stn.buffer ≠ []) = false :=
    hturn.imp_right fun hbuffer => by simp [hbuffer]
  rw [exec_grant hcan hup hidle, (s.tx.partWaits_iff).2 hwaits, grantClass_part hturn']
  rfl

/-- The answer queue's head comes before the own-traffic queue's (R154). -/
theorem State.grantPart_answer {a : Answer} {rest : List Answer} (h : s.tx.answers = a :: rest) :
    s.grantPart = (s.setTx { s.tx with answers := rest }).carry (.answer a.slot a.origin (Frame.made a.bytes)) := by
  unfold State.grantPart; rw [h]

/-- The own-traffic queue's head is carried where its engine builds a frame for it, else it is gone (R154). -/
theorem State.grantPart_own {item : OwnItem} {rest : List OwnItem} {t : State} {frame : Option (List Byte)}
    (hanswers : s.tx.answers = []) (hown : s.tx.own = item :: rest)
    (hwork : (s.setTx { s.tx with own := rest }).grantWork item = (t, frame)) :
    s.grantPart = frame.elim t fun bytes => t.carry (.own item (Frame.made bytes)) := by
  unfold State.grantPart State.grantOwn
  rw [hanswers, hown]
  dsimp only
  rw [hwork]
  cases frame <;> rfl

/-! ## The engines' grant work (R89, R121, R134) -/

/-- A claim's frame is the one its item's purpose names; the record stays (R89). -/
theorem State.grantWork_claim {i : SlotIx} {c : Claim} (h : s.claimAt i = some c) (p : Purpose) :
    s.grantWork (.claim i p) = (s, s.grantClaim c p) := by
  dsimp only [State.grantWork]; rw [h]

/-- A stream's probe is built; the grant takes it from PROBE_DUE to OUTSTANDING (R121). -/
theorem State.grantWork_stream_due {i : SlotIx} {x : Stream} (h : s.streamAt i = some x) (hdue : x.state = .probeDue) :
    s.grantWork (.stream i) = (s.rewrite i (.stream { x with state := .outstanding }) 0x01,
      some (s.build (.stream x) x.cfg.probeTemplate [])) := by
  have hmoved : StreamState.outstanding ≠ x.state := by rw [hdue]; exact nofun
  dsimp only [State.grantWork]
  rw [h]
  dsimp only [State.grantStream]
  rw [if_pos hdue, State.putStream_eq, streamMarks_of_state hmoved]

/-- In any other state the stream stays (R121). -/
theorem State.grantWork_stream_other {i : SlotIx} {x : Stream} (h : s.streamAt i = some x) (hdue : x.state ≠ .probeDue) :
    s.grantWork (.stream i) = (s, some (s.build (.stream x) x.cfg.probeTemplate [])) := by
  have hmarks : streamMarks x x = 0 := by simp [streamMarks]
  dsimp only [State.grantWork]
  rw [h]
  dsimp only [State.grantStream]
  rw [if_neg hdue, State.putStream_eq, hmarks]
  exact congrArg (·, _) (s.setSlot_self i _ ((s.streamAt_eq_some i x).1 h))

/-- An exchange's request is built with the raised send counter, and the exchange awaits its reply (R134). -/
theorem State.grantWork_exchange {i : SlotIx} {x : Exchange} (h : s.exchangeAt i = some x) (hqueued : x.state = .queued) :
    s.grantWork (.exchange i) =
      (s.rewrite i (.exchange { x with sendCounter := x.sendCounter + 1, state := .awaiting }) 0x01,
        some (s.build (.exchange { x with sendCounter := x.sendCounter + 1 }) x.cfg.requestTemplate [])) := by
  have hmoved : ExchangeState.awaiting ≠ x.state := by rw [hqueued]; exact nofun
  dsimp only [State.grantWork]
  rw [h]
  dsimp only [State.grantExchange]
  rw [State.putExchange_moved (b := { x with sendCounter := x.sendCounter + 1, state := .awaiting }) hmoved rfl]

end Grant

/-! ## Completion (R155) -/

section Completion
variable {s : State} {i : SlotIx}

theorem State.hasItem_eq_false_iff : s.hasItem i = false ↔ ∀ item ∈ s.tx.own, item.slot ≠ i := by
  simp [State.hasItem]

/-- A completion leaves the transmitter idle and tells the owner; QUIESCE then ends where no answer waits (R57, R155). -/
theorem exec_transmitComplete {c : Carried} {u : State} (hcan : s.canTake = true) (hc : s.tx.carried = some c)
    (hsent : (s.setTx { s.tx with carried := none }).frameSent c = u) :
    exec .transmitComplete s =
      .next (if s.custody.state = .quiesce ∧ s.tx.answers = [] then u.quiesceEnds else u) := by
  obtain ⟨hcustody, htx, -⟩ := (s.setTx { s.tx with carried := none }).frameSent_lending c
  rw [hsent] at hcustody htx
  have hidle : u.tx.carriesOwn = false := by rw [htx]; rfl
  have hexec : exec .transmitComplete s = .next u.endQuiesce := by
    have hunfold : exec .transmitComplete s = execTransmitComplete s := rfl
    rw [hunfold, execTransmitComplete, State.takeIf, if_pos hcan]
    dsimp only
    rw [hc]
    dsimp only
    rw [hsent]
  rw [hexec]
  split
  · next h => rw [State.endQuiesce_ends (by rw [hcustody]; exact h.1) (by rw [htx]; exact h.2) hidle]
  · next h =>
    refine congrArg Host.Outcome.next (if_neg fun hends => h ⟨?_, ?_⟩)
    · have := hends.1; rwa [hcustody] at this
    · have := hends.2.1; rwa [htx] at this

/-- An answer that has gone is counted at its responder (R111). -/
theorem State.responderSent_eq {r : Responder} (h : s.responderAt i = some r) : s.responderSent i =
    s.rewrite i (.responder { r with answersSent := bump16 r.answersSent }) (countMark r.answersSent) := by
  unfold State.responderSent
  rw [h]
  dsimp only
  rw [State.putResponder_eq, countMark_eq]
  simp [responderMarks]

/-- A reply that has gone is counted at its stream (R117). -/
theorem State.streamReplySent_eq {x : Stream} (h : s.streamAt i = some x) : s.streamReplySent i =
    s.rewrite i (.stream { x with repliesSent := bump16 x.repliesSent }) (countMark x.repliesSent) := by
  unfold State.streamReplySent
  rw [h]
  dsimp only
  rw [State.putStream_eq, countMark_eq]
  simp [streamMarks]

/-- A sent probe is marked for the probes that remain, but where none did (R90, R96). -/
theorem claimMarks_probeSent {c d : Claim} (h : d = { c with
    probesRemaining := c.probesRemaining - 1, timer := d.timer }) :
    claimMarks c d = if c.probesRemaining = 0 then 0 else 0x04 := by
  rw [h]
  by_cases hnone : c.probesRemaining = 0
  · simp [claimMarks, hnone]
  · have hless : c.probesRemaining - 1 ≠ c.probesRemaining := by omega
    simp [claimMarks, hnone, hless, markCounters]

/-- A PROBING claim's probe has gone: while the table is lent the probe spacing starts (R90). -/
theorem State.claimProbeSent_probing {c : Claim} (h : s.claimAt i = some c) (hprobing : c.state = .probing) :
    s.claimProbeSent i = s.rewrite i (.claim { c with
      probesRemaining := c.probesRemaining - 1
      timer := if s.custody.state.lent then some (.probeSpacing (s.later c.cfg.probeSpacing)) else c.timer })
      (if c.probesRemaining = 0 then 0 else 0x04) := by
  unfold State.claimProbeSent
  rw [h]
  dsimp only
  rw [if_pos hprobing]
  cases s.custody.state.lent with
  | true => exact (State.putClaim_eq ..).trans (congrArg _ (claimMarks_probeSent rfl))
  | false => exact (State.putClaim_eq ..).trans (congrArg _ (claimMarks_probeSent rfl))

/-- A probe of a claim that is no longer PROBING changes nothing (R90). -/
theorem State.claimProbeSent_other {c : Claim} (h : s.claimAt i = some c) (hprobing : c.state ≠ .probing) :
    s.claimProbeSent i = s := by
  unfold State.claimProbeSent
  rw [h]
  exact if_neg hprobing

/-- A sent probe is marked for its count alone (R130). -/
theorem streamMarks_probeSent {x y : Stream} (h : y = { x with
    probesSent := bump16 x.probesSent, timer := y.timer, nextDue := y.nextDue }) :
    streamMarks x y = countMark x.probesSent := by
  rw [h, countMark_eq]
  simp [streamMarks]

/-- A stream's probe has gone: the retry spacing starts while the stream waits for its acknowledgement with no other item and
the table is lent (R121). -/
theorem State.streamProbeSent_eq {x : Stream} (h : s.streamAt i = some x) :
    (x.state = .outstanding ∧ s.hasItem i = false ∧ x.itemDue = false ∧ s.custody.state.lent = true →
      s.streamProbeSent i = s.rewrite i (.stream { x with
        probesSent := bump16 x.probesSent, timer := some .retrySpacing, nextDue := s.later x.cfg.retrySpacing })
        (countMark x.probesSent)) ∧
    (¬ (x.state = .outstanding ∧ s.hasItem i = false ∧ x.itemDue = false ∧ s.custody.state.lent = true) →
      s.streamProbeSent i =
        s.rewrite i (.stream { x with probesSent := bump16 x.probesSent }) (countMark x.probesSent)) := by
  unfold State.streamProbeSent
  rw [h]
  dsimp only
  refine ⟨fun hwaits => ?_, fun hwaits => ?_⟩
  · rw [if_pos hwaits, State.putStream_eq, streamMarks_probeSent rfl]; rfl
  · rw [if_neg hwaits, State.putStream_eq, streamMarks_probeSent rfl]

/-- A sent request is marked for its count alone (R148). -/
theorem exchangeMarks_sent {x y : Exchange} (h : y = { x with
    sends := bump16 x.sends, timer := y.timer, nextDue := y.nextDue }) :
    exchangeMarks x y = countMark x.sends := by
  rw [h, countMark_eq]
  simp [exchangeMarks]

/-- An exchange's request has gone: the reply wait starts while the exchange is AWAITING and the table is lent (R135). -/
theorem State.requestSent_eq {x : Exchange} (h : s.exchangeAt i = some x) :
    (x.state = .awaiting ∧ s.custody.state.lent = true →
      s.requestSent i = s.rewrite i (.exchange { x with
        sends := bump16 x.sends, timer := some .replyWait
        nextDue := s.later (x.cfg.replyTimeout * 2 ^ min x.attempts 5) }) (countMark x.sends)) ∧
    (¬ (x.state = .awaiting ∧ s.custody.state.lent = true) →
      s.requestSent i = s.rewrite i (.exchange { x with sends := bump16 x.sends }) (countMark x.sends)) := by
  unfold State.requestSent
  rw [h]
  dsimp only
  refine ⟨fun hwaits => ?_, fun hwaits => ?_⟩
  · rw [if_pos hwaits, State.putExchange_eq, exchangeMarks_sent rfl]; rfl
  · rw [if_neg hwaits, State.putExchange_eq, exchangeMarks_sent rfl]

end Completion

end Sys2Proof.Machine

open Sys2Proof Sys2Proof.Machine

/-- Settles O53: the arbiter's class decides which queue's head is granted, and its engine what is built and written; the
completion of each kind of frame is one write of its record, and then QUIESCE's test. -/
theorem framesAreGrantedAndCompleted : Obligations.FramesAreGrantedAndCompleted := by
  refine ⟨fun s hcan hup hidle => ?_, fun s hcan => ?_⟩
  · intro granted own partTurn
    refine ⟨fun f rest hbuffer hturn => exec_grant_station hcan hup hidle hbuffer hturn,
      fun a rest hanswers hturn => ?_, fun item rest hanswers hown hturn => ?_, fun hbuffer hanswers hown => ?_⟩
    · have hwaits : s.tx.answers ≠ [] := by rw [hanswers]; exact nofun
      rw [exec_grant_part hcan hup hidle (.inl hwaits) hturn, State.grantPart_answer (by exact hanswers)]
      rfl
    · have hwaits : s.tx.own ≠ [] := by rw [hown]; exact nofun
      have htaken : ∀ {t : State} {frame : Option (List Byte)}, (own rest).grantWork item = (t, frame) →
          exec .grant s = .next (frame.elim t fun bytes => t.carry (.own item (Frame.made bytes))) := fun hwork => by
        rw [exec_grant_part hcan hup hidle (.inr hwaits) hturn,
          State.grantPart_own (by exact hanswers) (by exact hown) hwork]
      refine ⟨fun i purpose c hitem hc => ?_, fun i x hitem hx => ⟨fun hdue => ?_, fun hdue => ?_⟩,
        fun i x hitem hx hqueued => ?_⟩ <;> subst hitem
      · have hwork := State.grantWork_claim (s := own rest) hc purpose
        let built := Option.map fun t => s.build (.claim c) t []
        refine ⟨fun t ht => ?_, fun hnone => ?_⟩ <;> rw [htaken hwork]
        · have hbuilt : (own rest).grantClaim c purpose = some (s.build (.claim c) t []) := congrArg built ht
          rw [hbuilt]; rfl
        · have hbuilt : (own rest).grantClaim c purpose = none := congrArg built hnone
          rw [hbuilt]; rfl
      · rw [htaken (State.grantWork_stream_due (s := own rest) hx hdue)]; rfl
      · rw [htaken (State.grantWork_stream_other (s := own rest) hx hdue)]; rfl
      · rw [htaken (State.grantWork_exchange (s := own rest) hx hqueued)]; rfl
    · have hstation : decide (s.stn.buffer ≠ []) = false := by simp [hbuffer]
      rw [exec_grant hcan hup hidle, s.tx.partWaits_eq_false_iff.2 ⟨hanswers, hown⟩, hstation, grantClass_none]
      rfl
  · intro lent idle counted leaves
    have hlent : s.custody.state.lent = true ↔ lent := Custody.lent_iff _
    have hsent : ∀ {c : Carried} {u : State}, s.tx.carried = some c → idle.frameSent c = u → leaves u := fun hc hu =>
      exec_transmitComplete hcan hc hu
    refine ⟨fun hc => ?_, fun f hc => hsent hc rfl,
      fun i f r hc hr => hsent hc (State.responderSent_eq (s := counted) hr),
      fun i f x hc hx => hsent hc (State.streamReplySent_eq (s := counted) hx), fun i f hc => hsent hc rfl,
      fun i f c hc hclaim => ?_, fun i f x hc hx => ?_, fun i f x hc hx => ?_⟩
    · have hexec : exec .transmitComplete s = execTransmitComplete s := rfl
      rw [hexec, execTransmitComplete, State.takeIf, if_pos hcan]
      dsimp only
      rw [hc]
    · intro sent marks
      refine ⟨fun hprobing hl => hsent hc ?_, fun hprobing hl => hsent hc ?_,
        fun hprobing => hsent hc (State.claimProbeSent_other (s := idle) hclaim hprobing)⟩
      · have hl' : idle.custody.state.lent = true := hlent.2 hl
        refine (State.claimProbeSent_probing (s := idle) hclaim hprobing).trans ?_
        rw [hl']; rfl
      · have hl' : idle.custody.state.lent = false := Bool.eq_false_iff.2 (mt hlent.1 hl)
        refine (State.claimProbeSent_probing (s := idle) hclaim hprobing).trans ?_
        rw [hl']; rfl
    · intro sent waits
      have hwaits : x.state = .outstanding ∧ idle.hasItem i = false ∧ x.itemDue = false ∧
          idle.custody.state.lent = true ↔ waits :=
        and_congr_right' (and_congr State.hasItem_eq_false_iff (and_congr_right' hlent))
      obtain ⟨hstarts, hkeeps⟩ := State.streamProbeSent_eq (s := idle) hx
      exact ⟨fun h => hsent hc (hstarts (hwaits.2 h)), fun h => hsent hc (hkeeps (mt hwaits.1 h))⟩
    · intro sent waits
      have hwaits : x.state = .awaiting ∧ idle.custody.state.lent = true ↔ waits := and_congr_right' hlent
      obtain ⟨hstarts, hkeeps⟩ := State.requestSent_eq (s := idle) hx
      exact ⟨fun h => hsent hc (hstarts (hwaits.2 h)), fun h => hsent hc (hkeeps (mt hwaits.1 h))⟩

end

section
/-! SUPPORT. Events taken in ACTIVE, and the station path: a station frame's start and end, tracking and takeover by it,
STN_RDY and the end of a delivery (R58, R124, R128, R129, R156, R157, R163, R184). -/

namespace Sys2Proof.Machine

/-! ## Events in ACTIVE (R184) -/

section Active
variable {s : State}

theorem State.canTake_iff : s.canTake = true ↔ s.clk.power = .running ∧ s.clk.state = .active := by
  simp [State.canTake]

/-- In ACTIVE nothing wakes the part (R184). -/
theorem State.wake_of_active (h : s.clk.state = .active) : s.wake = s := if_neg (by rw [h]; decide)

/-- In ACTIVE what comes is taken at once (R184). -/
theorem State.takeOrDefer_of_active (h : s.clk.state = .active) (w : Waiting) (take : State → State) :
    s.takeOrDefer w take = take s := if_pos h

end Active

/-! ## The station output (R58, R157, R163) -/

section Output
variable {s : State}

/-- The held head copied out where DRAIN, STN_RDY and a free station output allow it (R58, R163). -/
theorem State.feedStation_head {e : HeldEntry} {rest : List HeldEntry} (h : s.held.entries = e :: rest) :
    s.feedStation =
      if s.custody.state = .drain ∧ s.pins.stnRdy = true ∧ s.stn.delivering = none ∧ s.stn.waiting = none then
        s.setStn { s.stn with delivering := some (.heldHead e.frame) } else s := by
  unfold State.feedStation; rw [h]

/-- With nothing held there is nothing to copy out. -/
theorem State.feedStation_empty (h : s.held.entries = []) : s.feedStation = s := by
  unfold State.feedStation; rw [h]; exact ite_self s

/-- The place a delivery frees takes the waiting frame, which is discarded while STN_RDY is low (R157). -/
theorem State.nextPassing_eq (s : State) : s.nextPassing = s.setStn { s.stn with
    delivering := if s.pins.stnRdy = true then s.stn.waiting.map Delivery.passing else none, waiting := none } := by
  unfold State.nextPassing
  split
  · next h => rw [h, Option.map_none, ite_self, ← h]
  · next f h => rw [h]; rfl

theorem exec_stnRdyChange {high : Bool} (hcan : s.canTake = true) (hchange : s.pins.stnRdy ≠ high) :
    exec (.stnRdyChange high) s = .next ((s.setPins { s.pins with stnRdy := high }).takeStnRdy high) := by
  obtain ⟨hrun, hactive⟩ := State.canTake_iff.1 hcan
  refine congrArg Host.Outcome.next ((if_pos (decide_eq_true hchange)).trans ((if_pos (decide_eq_true hrun)).trans ?_))
  exact State.takeOrDefer_of_active (s := s.setPins { s.pins with stnRdy := high }) hactive _ _

theorem exec_deliveryEnd (hcan : s.canTake = true) : exec .deliveryEnd s = .next s.takeDeliveryEnd := by
  obtain ⟨hrun, hactive⟩ := State.canTake_iff.1 hcan
  exact congrArg Host.Outcome.next
    ((if_pos (decide_eq_true hrun)).trans (State.takeOrDefer_of_active hactive _ _))

theorem State.takeDeliveryEnd_idle (h : s.stn.delivering = none) : s.takeDeliveryEnd = s := by
  unfold State.takeDeliveryEnd; rw [h]

theorem State.takeDeliveryEnd_passing {f : Frame} (h : s.stn.delivering = some (.passing f)) :
    s.takeDeliveryEnd = s.nextPassing.feedStation := by
  unfold State.takeDeliveryEnd; rw [h]

/-- A held head delivered is gone from the queue in DRAIN, which goes on with the next or ends (R58, R162, R163). -/
theorem State.takeDeliveryEnd_heldHead {f : Frame} (h : s.stn.delivering = some (.heldHead f)) :
    s.takeDeliveryEnd = if s.custody.state = .drain then
      (s.nextPassing.setHeld { entries := s.held.entries.tail, fullLatch := false }).drainOn else s.nextPassing := by
  have hcustody : s.nextPassing.custody = s.custody := by rw [State.nextPassing_eq]; rfl
  have hheld : s.nextPassing.held = s.held := by rw [State.nextPassing_eq]; rfl
  unfold State.takeDeliveryEnd
  rw [h]
  dsimp only
  rw [hcustody, hheld]

end Output

/-! ## Passes that rewrite each slot's record alone -/

/-- Such a pass leaves everything but the slots. -/
theorem foldl_slotIndices_eq {g : State → SlotIx → State} {r : Record → Record}
    (hg : ∀ u i, g u i = u.setSlot i ((u.slot i).map r)) (s : State) :
    slotIndices.foldl g s = s.setTable { s.table with slots := (slotIndices.foldl g s).table.slots } := by
  have hslots : ∃ v, slotIndices.foldl g s = s.setTable { s.table with slots := v } := by
    refine List.foldlRecOn (motive := fun u => ∃ v, u = s.setTable { s.table with slots := v }) slotIndices g
      ⟨s.table.slots, rfl⟩ fun u hu i _ => ?_
    obtain ⟨v, rfl⟩ := hu
    rw [hg]
    exact ⟨_, rfl⟩
  obtain ⟨v, hv⟩ := hslots
  rw [hv]
  rfl

/-- It leaves in each slot the record rewritten. -/
theorem slot_foldl_rewriting {g : State → SlotIx → State} {r : Record → Record}
    (hg : ∀ u i, g u i = u.setSlot i ((u.slot i).map r)) (s : State) (i : SlotIx) :
    (slotIndices.foldl g s).slot i = (s.slot i).map r := by
  refine slot_foldl_slotIndices (fun u j k => ?_) s i
  rw [hg, State.slot_setSlot]
  by_cases h : j = k
  · subst h; simp
  · simp [h]

/-! ## Tracking of a station frame in HOME (R128, R129) -/

/-- Two proposed values are judged each on its own; with them or by an earlier proposal the values are valid (R129). -/
theorem Stream.judge_both (t : Stream) (v w : SeqValue) : t.judge (some v) (some w) = { t with
    ourSeq := judged t.valuesValid v t.ourSeq, peerSeq := judged t.valuesValid w t.peerSeq, valuesValid := true } := by
  have hvalid : t.valuesValid || proposalTaken t.valuesValid v t.ourSeq || proposalTaken t.valuesValid w t.peerSeq := by
    cases h : t.valuesValid <;> simp [proposalTaken]
  rw [judged_eq, judged_eq]
  simp [Stream.judge, hvalid]

/-- A stream as a station frame leaves it (R128, R129). -/
def Stream.trackedOut (bytes : List Byte) (x : Stream) : Stream :=
  if x.cfg.tracking = true ∧ matchesFrame bytes x.cfg.outbound = true ∧ x.cfg.headerLen ≤ bytes.length then
    { x with
      ourSeq := judged x.valuesValid (seqField bytes x.cfg.seqOffset +
        BitVec.ofNat 32 (bytes.length - x.cfg.headerLen)) x.ourSeq
      peerSeq := judged x.valuesValid (seqField bytes x.cfg.ackOffset) x.peerSeq
      valuesValid := true }
  else x

/-- A record as a station frame leaves it. -/
def Record.trackedOut (bytes : List Byte) : Record → Record
  | .stream x => .stream (x.trackedOut bytes)
  | r => r

theorem Record.trackedOut_other {bytes : List Byte} {r : Record} (h : ∀ x, r ≠ .stream x) : r.trackedOut bytes = r := by
  cases r with
  | stream x => exact absurd rfl (h x)
  | _ => rfl

/-- A station frame's proposals to one slot. -/
theorem State.trackOutboundOne_eq (bytes : List Byte) (s : State) (i : SlotIx) :
    s.trackOutboundOne bytes i = s.setSlot i ((s.slot i).map (Record.trackedOut bytes)) := by
  have hkept : ∀ r, s.slot i = r → s = s.setSlot i r := fun r h => (s.setSlot_self i r h).symm
  unfold State.trackOutboundOne State.streamAt
  cases hs : s.slot i with
  | none => exact hkept none hs
  | some r =>
    cases r with
    | stream x =>
      simp only [Option.map_some, Record.trackedOut, Stream.trackedOut, Stream.judge_both]
      split
      · rfl
      · exact hkept _ hs
    | claim _ | responder _ | filter _ | exchange _ => exact hkept _ hs

/-- Tracking writes the slots alone. -/
theorem State.trackOutbound_eq (s : State) (bytes : List Byte) :
    s.trackOutbound bytes = s.setTable { s.table with slots := (s.trackOutbound bytes).table.slots } := by
  unfold State.trackOutbound
  exact foldl_slotIndices_eq (State.trackOutboundOne_eq bytes) s

theorem State.slot_trackOutbound (s : State) (bytes : List Byte) (i : SlotIx) :
    (s.trackOutbound bytes).slot i = (s.slot i).map (Record.trackedOut bytes) :=
  slot_foldl_rewriting (State.trackOutboundOne_eq bytes) s i

/-! ## Takeover (R124) -/

section Takeover
variable (bytes : List Byte)

/-- A station frame ends a live stream whose outbound descriptor it passes, with the takeover's own mark (R124, R130). -/
theorem State.takeoverOne_stream {s : State} {i : SlotIx} {x : Stream} (h : s.streamAt i = some x) :
    s.takeoverOne bytes i =
      if x.state ≠ .ended ∧ matchesFrame bytes x.cfg.outbound = true then s.endsStream i x 0x11 else s := by
  unfold State.takeoverOne
  rw [h]
  dsimp only
  split
  · next htakes =>
    unfold State.endStream State.putStream
    rw [streamMarks_of_state (b := x.endedForm) htakes.1.symm]
    rfl
  · rfl

theorem State.takeoverOne_other {s : State} {i : SlotIx} (h : s.streamAt i = none) : s.takeoverOne bytes i = s := by
  unfold State.takeoverOne; rw [h]

/-- A takeover does not look at the station path. -/
theorem State.takeoverOne_setStn (s : State) (i : SlotIx) (p : StationPath) :
    (s.setStn p).takeoverOne bytes i = (s.takeoverOne bytes i).setStn p := by
  cases h : s.streamAt i with
  | none => rw [State.takeoverOne_other bytes h, State.takeoverOne_other bytes (s := s.setStn p) h]
  | some x =>
    rw [State.takeoverOne_stream bytes h, State.takeoverOne_stream bytes (s := s.setStn p) h]
    split <;> rfl

theorem State.takeover_setStn (s : State) (p : StationPath) :
    (s.setStn p).takeover bytes = (s.takeover bytes).setStn p :=
  List.foldl_hom (State.setStn · p) fun u i => u.takeoverOne_setStn bytes i p

theorem State.takeover_stn (s : State) : (s.takeover bytes).stn = s.stn := by
  have h := congrArg State.stn (s.takeover_setStn bytes s.stn)
  rwa [State.setStn_self, State.setStn_stn] at h

end Takeover

/-! ## A station frame (R156) -/

section StationFrame
variable {s : State}

/-- A station frame starts in ACTIVE: it gets a place while the link is up and one of two is free (R156). -/
theorem exec_stationFrameStart (hcan : s.canTake = true) : exec .stationFrameStart s =
    .next (s.setStn { s.stn with arriving := s.stn.arriving ++
      [if s.tx.linkUp && decide (s.stn.used < 2) then .staged else .refused] }) := by
  obtain ⟨hrun, hactive⟩ := State.canTake_iff.1 hcan
  refine congrArg Host.Outcome.next ((if_pos (decide_eq_true hrun)).trans ?_)
  dsimp only
  rw [State.wake_of_active hactive]

/-- The frame that started first ends in ACTIVE: it is taken where it has a place and is good (R156). -/
theorem exec_stationFrameTaking {a : Arriving} {rest : List Arriving} (hcan : s.canTake = true)
    (harriving : s.stn.arriving = a :: rest) (bytes : List Byte) (fcs : Fcs) :
    exec (.stationFrameTaking bytes fcs) s =
      .next (if a = .staged ∧ Frame.good { bytes, fcs } = true
        then (s.setStn { s.stn with arriving := rest }).takeStationFrame { bytes, fcs }
        else s.setStn { s.stn with arriving := rest }) := by
  obtain ⟨hrun, hactive⟩ := State.canTake_iff.1 hcan
  refine congrArg Host.Outcome.next ((if_pos (decide_eq_true hrun)).trans ?_)
  dsimp only [State.stationFrameEnds]
  rw [harriving]
  exact if_congr Iff.rfl (if_pos hactive) rfl

/-- A station frame that custody's tests do not look at joins the station class (R156). -/
theorem State.takeStationFrame_untested (h : s.custody.state ∈ [.checking, .quiesce, .drain]) (f : Frame) :
    s.takeStationFrame f = s.setStn { s.stn with buffer := s.stn.buffer ++ [f] } := by
  unfold State.takeStationFrame State.stationTests
  simp only [List.mem_cons, List.not_mem_nil, or_false] at h
  rcases h with h | h | h <;> rw [h]

/-- In HOME it is tracked (R128, R156). -/
theorem State.takeStationFrame_home (h : s.custody.state = .home) (f : Frame) :
    s.takeStationFrame f = (s.setStn { s.stn with buffer := s.stn.buffer ++ [f] }).setTable
      { s.table with slots := (s.takeStationFrame f).table.slots } ∧
    ∀ i, (s.takeStationFrame f).slot i = (s.slot i).map (Record.trackedOut f.bytes) := by
  have htaken : s.takeStationFrame f = (s.trackOutbound f.bytes).setStn
      { (s.trackOutbound f.bytes).stn with buffer := (s.trackOutbound f.bytes).stn.buffer ++ [f] } := by
    unfold State.takeStationFrame State.stationTests; rw [h]
  have htracked := s.trackOutbound_eq f.bytes
  have hslot := s.slot_trackOutbound f.bytes
  rw [htaken]
  generalize s.trackOutbound f.bytes = u at htracked hslot ⊢
  exact ⟨by rw [htracked]; rfl, hslot⟩

/-- While the table is lent it ends the streams it takes over (R124, R156). -/
theorem State.takeStationFrame_lent (h : s.custody.state.lent = true) (f : Frame) :
    s.takeStationFrame f = (s.setStn { s.stn with buffer := s.stn.buffer ++ [f] }).takeover f.bytes := by
  have htests : s.stationTests f = s.takeover f.bytes := by
    unfold State.stationTests
    rcases (Custody.lent_iff _).1 h with h | h <;> rw [h]
  rw [State.takeover_setStn, State.takeStationFrame, htests]
  dsimp only
  rw [State.takeover_stn]

end StationFrame

end Sys2Proof.Machine

open Sys2Proof Sys2Proof.Machine

/-- Settles O56: a station frame's start and end, custody's test of it, and what STN_RDY and the end of a delivery do to the
station output and the held queue. -/
theorem theStationPathMovesItsFrames : Obligations.TheStationPathMovesItsFrames := by
  intro s hcan home fed
  have hfed : ∀ u : State, u.feedStation = fed u := fun u => by
    cases h : u.held.entries with
    | nil => simp only [fed, h, State.feedStation_empty h]
    | cons e rest => simp only [fed, h, State.feedStation_head h]
  refine ⟨?_, fun bytes fcs a rest harriving => ?_, fun hlow => ?_, fun hhigh => ?_, fun hidle => ?_, fun d hd => ?_⟩
  · rw [exec_stationFrameStart hcan]
    simp only [Bool.and_eq_true, decide_eq_true_eq]
    rfl
  · intro u good
    have hgood : Frame.good { bytes, fcs } = true ↔ good := Frame.good_iff _
    refine ⟨fun hgone => ?_, fun hstaged hwhole => ?_⟩
    · have hgone' : ¬ (a = .staged ∧ Frame.good { bytes, fcs } = true) := by
        rintro ⟨hstaged, hwhole⟩
        rcases hgone with hrefused | hbad
        · rw [hstaged] at hrefused; cases hrefused
        · exact hbad (hgood.1 hwhole)
      rw [exec_stationFrameTaking hcan harriving, if_neg hgone']
    · intro joined
      rw [exec_stationFrameTaking hcan harriving, if_pos ⟨hstaged, hgood.2 hwhole⟩]
      refine ⟨fun hcustody => ?_, fun hcustody => ?_, fun hcustody => ?_⟩
      · exact congrArg Host.Outcome.next (State.takeStationFrame_untested (s := u) hcustody _)
      · obtain ⟨hblocks, hslot⟩ := State.takeStationFrame_home (s := u) hcustody { bytes, fcs }
        refine ⟨_, rfl, hblocks, fun i => ⟨fun x hx => ?_, fun hother => ?_⟩⟩
        · exact (hslot i).trans (congrArg (Option.map (Record.trackedOut bytes)) hx)
        · refine (hslot i).trans ?_
          change (s.slot i).map (Record.trackedOut bytes) = s.slot i
          cases h : s.slot i with
          | none => rfl
          | some r => exact congrArg some (Record.trackedOut_other fun x hx => hother x (by rw [h, hx]))
      · refine congrArg Host.Outcome.next ((State.takeStationFrame_lent (s := u) hcustody _).trans ?_)
        refine congrArg (fun g => slotIndices.foldl g joined) (funext fun v => funext fun i => ?_)
        cases h : v.streamAt i with
        | none => exact State.takeoverOne_other bytes h
        | some x => exact State.takeoverOne_stream bytes h
  · rw [exec_stnRdyChange hcan (by rw [hlow]; decide), ← hfed]
    rfl
  · rw [exec_stnRdyChange hcan (by rw [hhigh]; decide)]
    rfl
  · rw [exec_deliveryEnd hcan, State.takeDeliveryEnd_idle hidle]
  · intro freed
    rw [exec_deliveryEnd hcan]
    have hfreed : s.nextPassing = freed := s.nextPassing_eq
    refine ⟨fun f hf => ?_, fun f hf hcustody => ?_, fun f e rest hf hcustody hheld => ?_⟩
    · rw [State.takeDeliveryEnd_passing (hd.trans (congrArg some hf)), hfed, hfreed]
    · rw [State.takeDeliveryEnd_heldHead (hd.trans (congrArg some hf)), if_neg hcustody, hfreed]
    · rw [State.takeDeliveryEnd_heldHead (hd.trans (congrArg some hf)), if_pos hcustody, hfreed, hheld, List.tail_cons]
      refine ⟨fun hrest => ?_, fun hrest => ?_⟩
      · rw [hrest]
        exact congrArg Host.Outcome.next (State.drainOn_empty rfl)
      · obtain ⟨e', rest', rfl⟩ := List.exists_cons_of_ne_nil hrest
        rw [← hfed]
        rfl

end

section
/-! SUPPORT. A pass over the slots in which each record may want an item placed at the tail of the own-traffic queue: what it
leaves of the queue, the records and the change list, and what one slot's part of it does (R88, R120, R133, R152, R174). -/

namespace Sys2Proof.Machine

/-- What a pass makes of each record. -/
structure SlotPass where
  /-- The item a record wants, where its slot has none in the queue. -/
  want : SlotIx → Record → Option OwnItem
  /-- The record after the pass; the two flags say that its wanted item was placed, or came too late. -/
  left : Bool → Bool → Record → Record
  /-- The marks the record's engine reports; no mark is no change. -/
  marks : Record → BitVec 8
  /-- What becomes of an item of the record's slot that stands in the queue. -/
  turn : Record → OwnItem → OwnItem
  want_slot : ∀ {i r item}, want i r = some item → item.slot = i
  turn_slot : ∀ r item, (turn r item).slot = item.slot

/-- The places free in the own-traffic queue (R152). -/
def State.placesLeft (s : State) : Nat := 16 - (s.tx.own.length + s.tx.keptPlaces)

namespace SlotPass
variable (p : SlotPass) (s : State)

/-- The item a slot wants placed. -/
def wanted (i : SlotIx) : Option OwnItem := if s.hasItem i then none else (s.slot i).bind (p.want i)

/-- The wanted item of a slot finds a place. -/
def placed (l : List SlotIx) (i : SlotIx) : Bool :=
  ((l.filterMap (p.wanted s)).take s.placesLeft).any fun item => decide (item.slot = i)

/-- The wanted item of a slot finds none. -/
def late (l : List SlotIx) (i : SlotIx) : Bool :=
  ((l.filterMap (p.wanted s)).drop s.placesLeft).any fun item => decide (item.slot = i)

/-- A queued item after a pass over some slots. -/
def turned (l : List SlotIx) (item : OwnItem) : OwnItem :=
  if item.slot ∈ l then (s.slot item.slot).elim item (p.turn · item) else item

/-- The own-traffic queue after a pass over some slots. -/
def own (l : List SlotIx) : List OwnItem :=
  s.tx.own.map (p.turned s l) ++ (l.filterMap (p.wanted s)).take s.placesLeft

/-- A slot's contents after a pass over some slots. -/
def slotAfter (l : List SlotIx) (i : SlotIx) : Option Record :=
  if i ∈ l then (s.slot i).map (p.left (p.placed s l i) (p.late s l i)) else s.slot i

/-- The change list once a slot has reported its marks. -/
def mark (changes : List ChangeRecord) (i : SlotIx) : List ChangeRecord :=
  (s.slot i).elim changes fun r => if p.marks r = 0 then changes else addChange changes i (p.marks r)

end SlotPass

/-- The own-traffic queue, the slots and the change list are replaced; nothing else changes. -/
def State.setTraffic (s : State) (own : List OwnItem) (slots : Vector (Option Record) 128) (changes : List ChangeRecord) :
    State :=
  { s with
    tx := { s.tx with own := own }, table := { s.table with slots := slots }, cond := { s.cond with changes := changes } }

/-- Two replacements are the last. -/
theorem State.setTraffic_setTraffic (s : State) (o o' : List OwnItem) (v v' : Vector (Option Record) 128)
    (c c' : List ChangeRecord) : (s.setTraffic o v c).setTraffic o' v' c' = s.setTraffic o' v' c' := rfl

theorem State.keptPlaces_setTraffic (s : State) (o : List OwnItem) (v : Vector (Option Record) 128)
    (c : List ChangeRecord) : (s.setTraffic o v c).tx.keptPlaces = s.tx.keptPlaces := rfl

/-- The state after a pass over some slots, each taken once. -/
def State.passed (s : State) (p : SlotPass) (l : List SlotIx) : State :=
  s.setTraffic (p.own s l) (Vector.ofFn (p.slotAfter s l)) (l.foldl (p.mark s) s.cond.changes)

section Passed
variable {p : SlotPass} {s : State} {l l' : List SlotIx} {i : SlotIx}

theorem State.slot_passed : (s.passed p l).slot i = p.slotAfter s l i := by
  simp [State.passed, State.setTraffic, State.slot, Vector.get_eq_getElem]

theorem State.tx_own_passed : (s.passed p l).tx.own = p.own s l := rfl

theorem State.hasItem_iff_mem : s.hasItem i = true ↔ i ∈ s.tx.own.map OwnItem.slot := by simp [State.hasItem]

namespace SlotPass

theorem slot_of_wanted {item : OwnItem} (h : p.wanted s i = some item) : item.slot = i := by
  unfold wanted at h
  split at h
  · cases h
  · obtain ⟨r, -, hr⟩ := Option.bind_eq_some_iff.1 h
    exact p.want_slot hr

/-- An item wanted by one of some slots is of one of them. -/
theorem slot_mem_of_wanted {item : OwnItem} (h : item ∈ l.filterMap (p.wanted s)) : item.slot ∈ l := by
  obtain ⟨i, hi, hitem⟩ := List.mem_filterMap.1 h
  rwa [slot_of_wanted hitem]

/-- No other slot wants an item of this slot. -/
theorem any_wanted_other (hi : i ∉ l) {items : List OwnItem} (h : ∀ item ∈ items, item ∈ l.filterMap (p.wanted s)) :
    (items.any fun item => decide (item.slot = i)) = false := by
  rw [List.any_eq_false]
  intro item hitem
  have hslot := slot_mem_of_wanted (h item hitem)
  simp only [decide_eq_true_eq]
  rintro rfl
  exact hi hslot

theorem turned_slot (item : OwnItem) : (p.turned s l item).slot = item.slot := by
  unfold turned
  split
  · cases s.slot item.slot with
    | none => rfl
    | some r => exact p.turn_slot r item
  · rfl

/-- Items join the queue and change, but none leaves it. -/
theorem own_slots : (p.own s l).map OwnItem.slot =
    s.tx.own.map OwnItem.slot ++ ((l.filterMap (p.wanted s)).take s.placesLeft).map OwnItem.slot := by
  simp [own, Function.comp_def, turned_slot]

/-- A pass over some slots does not concern another. -/
theorem hasItem_passed (hi : i ∉ l) : (s.passed p l).hasItem i = s.hasItem i := by
  have hplaced : i ∉ ((l.filterMap (p.wanted s)).take s.placesLeft).map OwnItem.slot := fun hmem => by
    obtain ⟨item, hitem, rfl⟩ := List.mem_map.1 hmem
    exact hi (slot_mem_of_wanted (List.mem_of_mem_take hitem))
  rw [Bool.eq_iff_iff, State.hasItem_iff_mem, State.hasItem_iff_mem, State.tx_own_passed, own_slots, List.mem_append,
    or_iff_left hplaced]

theorem slot_passed_other (hi : i ∉ l) : (s.passed p l).slot i = s.slot i := by
  rw [State.slot_passed, slotAfter, if_neg hi]

theorem wanted_passed (hi : i ∉ l) : p.wanted (s.passed p l) i = p.wanted s i := by
  unfold wanted; rw [hasItem_passed hi, slot_passed_other hi]

/-- What has been placed takes its places. -/
theorem placesLeft_passed : (s.passed p l).placesLeft = s.placesLeft - (l.filterMap (p.wanted s)).length := by
  have hlength : (s.passed p l).tx.own.length =
      s.tx.own.length + min s.placesLeft (l.filterMap (p.wanted s)).length := by
    rw [State.tx_own_passed, own, List.length_append, List.length_map, List.length_take]
  have hkept : (s.passed p l).tx.keptPlaces = s.tx.keptPlaces := State.keptPlaces_setTraffic ..
  unfold State.placesLeft at hlength ⊢
  omega

variable (hdisjoint : ∀ i ∈ l', i ∉ l)
include hdisjoint

theorem filterMap_wanted_passed : l'.filterMap (p.wanted (s.passed p l)) = l'.filterMap (p.wanted s) :=
  List.filterMap_congr fun i hi => wanted_passed (hdisjoint i hi)

theorem turned_turned (item : OwnItem) :
    p.turned (s.passed p l) l' (p.turned s l item) = p.turned s (l ++ l') item := by
  by_cases hi : item.slot ∈ l
  · have hi' : item.slot ∉ l' := fun h => hdisjoint _ h hi
    have hkept : p.turned s (l ++ l') item = p.turned s l item := by simp [turned, hi]
    rw [hkept]
    exact if_neg (by rwa [turned_slot])
  · have hkept : p.turned s l item = item := if_neg hi
    rw [hkept]
    simp [turned, hi, slot_passed_other hi]

/-- An item that the pass has placed is not of a slot still to come. -/
theorem turned_of_wanted {item : OwnItem} (h : item ∈ l.filterMap (p.wanted s)) (t : State) :
    p.turned t l' item = item := if_neg fun hi => hdisjoint _ hi (slot_mem_of_wanted h)

theorem own_append : p.own (s.passed p l) l' = p.own s (l ++ l') := by
  have hplaced : ((l.filterMap (p.wanted s)).take s.placesLeft).map (p.turned (s.passed p l) l') =
      (l.filterMap (p.wanted s)).take s.placesLeft :=
    (List.map_congr_left fun item hitem => turned_of_wanted hdisjoint (List.mem_of_mem_take hitem) _).trans (List.map_id _)
  have hqueued : (s.tx.own.map (p.turned s l)).map (p.turned (s.passed p l) l') = s.tx.own.map (p.turned s (l ++ l')) := by
    rw [List.map_map]
    exact List.map_congr_left fun item _ => turned_turned hdisjoint item
  rw [own, State.tx_own_passed, filterMap_wanted_passed hdisjoint, placesLeft_passed, own, List.map_append, hplaced,
    hqueued, own, List.filterMap_append, List.take_append, List.append_assoc]

/-- A slot's item is placed or late by the slots up to its own. -/
theorem placed_append_left (hi : i ∈ l) :
    p.placed s (l ++ l') i = p.placed s l i ∧ p.late s (l ++ l') i = p.late s l i := by
  have hi' : i ∉ l' := fun h => hdisjoint i h hi
  unfold placed late
  rw [List.filterMap_append, List.take_append, List.drop_append, List.any_append, List.any_append,
    any_wanted_other hi' fun item => List.mem_of_mem_take, any_wanted_other hi' fun item => List.mem_of_mem_drop,
    Bool.or_false, Bool.or_false]
  exact ⟨rfl, rfl⟩

theorem placed_append_right (hi : i ∈ l') :
    p.placed s (l ++ l') i = p.placed (s.passed p l) l' i ∧ p.late s (l ++ l') i = p.late (s.passed p l) l' i := by
  have hi' : i ∉ l := hdisjoint i hi
  unfold placed late
  rw [filterMap_wanted_passed hdisjoint, placesLeft_passed, List.filterMap_append, List.take_append, List.drop_append,
    List.any_append, List.any_append, any_wanted_other hi' fun item => List.mem_of_mem_take,
    any_wanted_other hi' fun item => List.mem_of_mem_drop, Bool.false_or, Bool.false_or]
  exact ⟨rfl, rfl⟩

theorem slotAfter_append : p.slotAfter (s.passed p l) l' = p.slotAfter s (l ++ l') := by
  funext i
  by_cases hi : i ∈ l
  · have hi' : i ∉ l' := fun h => hdisjoint i h hi
    obtain ⟨hplaced, hlate⟩ := placed_append_left (p := p) (s := s) hdisjoint hi
    rw [slotAfter, if_neg hi', State.slot_passed, slotAfter, if_pos hi, slotAfter, if_pos (List.mem_append_left _ hi),
      hplaced, hlate]
  · by_cases hi' : i ∈ l'
    · obtain ⟨hplaced, hlate⟩ := placed_append_right (p := p) (s := s) hdisjoint hi'
      rw [slotAfter, if_pos hi', slot_passed_other hi, slotAfter, if_pos (List.mem_append_right _ hi'), hplaced, hlate]
    · rw [slotAfter, if_neg hi', slot_passed_other hi, slotAfter, if_neg (by simp [hi, hi'])]

theorem changes_append :
    l'.foldl (p.mark (s.passed p l)) (s.passed p l).cond.changes = (l ++ l').foldl (p.mark s) s.cond.changes := by
  rw [List.foldl_append]
  refine List.foldl_ext _ _ _ fun changes i hi => ?_
  unfold mark
  rw [slot_passed_other (hdisjoint i hi)]

/-- A pass over some slots and then over others is one pass. -/
theorem passed_append : (s.passed p l).passed p l' = s.passed p (l ++ l') := by
  have hown := own_append (p := p) (s := s) hdisjoint
  have hslots := slotAfter_append (p := p) (s := s) hdisjoint
  have hchanges := changes_append (p := p) (s := s) hdisjoint
  rw [State.passed, hown, hslots, hchanges]
  exact State.setTraffic_setTraffic ..

end SlotPass

end Passed

/-! ## A whole pass -/

section Whole
variable {p : SlotPass} {s : State}

theorem SlotPass.passed_nil : s.passed p [] = s := by
  have hown : p.own s [] = s.tx.own := by
    have hkept : p.turned s [] = id := funext fun item => if_neg List.not_mem_nil
    simp [SlotPass.own, hkept]
  have hslots : Vector.ofFn (p.slotAfter s []) = s.table.slots := by
    apply Vector.ext
    intro k hk
    simp [SlotPass.slotAfter, State.slot, Vector.get_eq_getElem]
  rw [State.passed, hown, hslots]
  rfl

/-- Steps that are passes over one slot each make a pass over all of them. -/
theorem foldl_eq_passed {g : State → SlotIx → State} (hg : ∀ l i, g (s.passed p l) i = (s.passed p l).passed p [i])
    {l : List SlotIx} (hnodup : l.Nodup) : l.foldl g s = s.passed p l := by
  induction l using List.reverseRecOn with
  | nil => exact SlotPass.passed_nil.symm
  | append_singleton l i ih =>
    obtain ⟨hl, -, hdisjoint⟩ := List.nodup_append.1 hnodup
    have hlast : ∀ j ∈ [i], j ∉ l := fun j hj hjl => hdisjoint j hjl j hj rfl
    rw [List.foldl_append, List.foldl_cons, List.foldl_nil, ih hl, hg, SlotPass.passed_append hlast]

/-- A pass over all slots leaves in each what the pass makes of its record. -/
theorem State.slot_passed_slotIndices (i : SlotIx) : (s.passed p slotIndices).slot i =
    (s.slot i).map (p.left (p.placed s slotIndices i) (p.late s slotIndices i)) := by
  rw [State.slot_passed]
  exact if_pos (List.mem_finRange i)

/-- A pass over all slots turns each queued item. -/
theorem SlotPass.own_slotIndices : p.own s slotIndices =
    (s.tx.own.map fun item => (s.slot item.slot).elim item (p.turn · item)) ++
      (slotIndices.filterMap (p.wanted s)).take s.placesLeft := by
  have hturned : p.turned s slotIndices = fun item => (s.slot item.slot).elim item (p.turn · item) :=
    funext fun item => if_pos (List.mem_finRange _)
  rw [SlotPass.own, hturned]

end Whole

/-! ## One slot's part of a pass -/

section Single
variable {p : SlotPass} {s : State} {i : SlotIx} {r : Record}

theorem State.room_cases (s : State) (i : SlotIx) : s.hasItem i = true ∨ s.roomFor i ∨ s.noRoomFor i := by
  cases h : s.hasItem i with
  | true => exact .inl rfl
  | false =>
    have hfree := State.hasItem_eq_false_iff.1 h
    exact .inr ((Nat.lt_or_ge (s.tx.own.length + s.tx.keptPlaces) 16).imp (⟨hfree, ·⟩) (⟨hfree, ·⟩))

/-- One slot's part: its queued item turned or its wanted item placed, its record and its marks. -/
theorem SlotPass.passed_single (hr : s.slot i = some r) :
    s.passed p [i] = (s.rewrite i (p.left (p.placed s [i] i) (p.late s [i] i) r) (p.marks r)).setTx
      { s.tx with own := p.own s [i] } := by
  have hslots : Vector.ofFn (p.slotAfter s [i]) =
      s.table.slots.set i.val (some (p.left (p.placed s [i] i) (p.late s [i] i) r)) i.isLt := by
    apply Vector.ext
    intro k hk
    by_cases hik : i.val = k
    · subst hik; simp [SlotPass.slotAfter, hr]
    · have hne : (⟨k, hk⟩ : SlotIx) ≠ i := fun h => hik (by rw [← h])
      simp [SlotPass.slotAfter, hne, hik, State.slot, Vector.get_eq_getElem]
  have hchanges : [i].foldl (p.mark s) s.cond.changes =
      if p.marks r = 0 then s.cond.changes else addChange s.cond.changes i (p.marks r) := by
    simp [SlotPass.mark, hr]
  rw [State.passed, hslots, hchanges, State.rewrite]
  split <;> rfl

/-- An empty slot has no part. -/
theorem SlotPass.passed_empty (hr : s.slot i = none) : s.passed p [i] = s := by
  have hslots : p.slotAfter s [i] = p.slotAfter s [] := funext fun j => by
    by_cases hj : j = i
    · subst hj; simp [SlotPass.slotAfter, hr]
    · simp [SlotPass.slotAfter, hj]
  have hown : p.own s [i] = p.own s [] := by
    have hturned : p.turned s [i] = p.turned s [] := funext fun item => by
      by_cases hitem : item.slot = i
      · simp [SlotPass.turned, hitem, hr]
      · simp [SlotPass.turned, hitem]
    simp [SlotPass.own, hturned, SlotPass.wanted, hr]
  have hchanges : [i].foldl (p.mark s) s.cond.changes = s.cond.changes := by simp [SlotPass.mark, hr]
  conv_rhs => rw [← SlotPass.passed_nil (p := p) (s := s)]
  rw [State.passed, hslots, hown, hchanges]
  rfl

/-- Where a slot wants no item, its record and its queued item alone change. -/
theorem SlotPass.passed_unwanted (hr : s.slot i = some r) (hw : s.hasItem i = true ∨ p.want i r = none) :
    s.passed p [i] = (s.rewrite i (p.left false false r) (p.marks r)).setTx
      { s.tx with own := s.tx.own.map (p.turned s [i]) } := by
  have hnone : [i].filterMap (p.wanted s) = [] := by
    rcases hw with hw | hw <;> simp [SlotPass.wanted, hr, hw]
  rw [SlotPass.passed_single hr, SlotPass.placed, SlotPass.late, SlotPass.own, hnone]
  simp

/-- Items of other slots are not turned. -/
theorem SlotPass.map_turned_free (hfree : ∀ item ∈ s.tx.own, item.slot ≠ i) :
    s.tx.own.map (p.turned s [i]) = s.tx.own :=
  (List.map_congr_left fun item hitem => if_neg (by simp [hfree item hitem])).trans (List.map_id _)

/-- A wanted item is placed at the tail while there is room. -/
theorem SlotPass.passed_placed {item : OwnItem} (hr : s.slot i = some r) (hw : p.want i r = some item)
    (hroom : s.roomFor i) : s.passed p [i] = (s.rewrite i (p.left true false r) (p.marks r)).queued item := by
  obtain ⟨hfree, hroom⟩ := hroom
  have hsome : [i].filterMap (p.wanted s) = [item] := by
    simp [SlotPass.wanted, hr, hw, State.hasItem_eq_false hfree]
  have htake : [item].take s.placesLeft = [item] := List.take_of_length_le (by simp [State.placesLeft]; omega)
  have hdrop : [item].drop s.placesLeft = [] := List.drop_of_length_le (by simp [State.placesLeft]; omega)
  rw [SlotPass.passed_single hr, SlotPass.placed, SlotPass.late, SlotPass.own, hsome, htake, hdrop,
    SlotPass.map_turned_free hfree, State.queued, State.tx_rewrite]
  simp [p.want_slot hw]

/-- It waits where there is none. -/
theorem SlotPass.passed_late {item : OwnItem} (hr : s.slot i = some r) (hw : p.want i r = some item)
    (hroom : s.noRoomFor i) : s.passed p [i] = s.rewrite i (p.left false true r) (p.marks r) := by
  obtain ⟨hfree, hfull⟩ := hroom
  have hsome : [i].filterMap (p.wanted s) = [item] := by
    simp [SlotPass.wanted, hr, hw, State.hasItem_eq_false hfree]
  have hnone : s.placesLeft = 0 := by unfold State.placesLeft; omega
  have hkept : (s.rewrite i (p.left false true r) (p.marks r)).setTx s.tx =
      s.rewrite i (p.left false true r) (p.marks r) := by
    conv_lhs => rw [← State.tx_rewrite (s := s) (i := i) (p.left false true r) (p.marks r)]
    rfl
  rw [SlotPass.passed_single hr, SlotPass.placed, SlotPass.late, SlotPass.own, hsome, hnone, SlotPass.map_turned_free hfree]
  simpa [p.want_slot hw] using hkept

end Single

end Sys2Proof.Machine

end

section
/-! SUPPORT. A line link return and a due-item placement, slot by slot, as passes over the slots (R92, R126, R146, R152,
R160). -/

namespace Sys2Proof.Machine

/-! ## Due items (R152) -/

section Due
variable {s : State} {i : SlotIx} {r : Record}

theorem State.canPlace_iff : s.canPlace i = true ↔ s.roomFor i := by
  rw [State.canPlace, Bool.and_eq_true, Bool.not_eq_true', State.hasItem_eq_false_iff]
  exact and_congr_right' decide_eq_true_iff

theorem Record.dueAs_slot {item : OwnItem} (h : r.dueAs i = some item) : item.slot = i := by
  unfold Record.dueAs at h
  split at h
  · obtain ⟨p, -, rfl⟩ := Option.map_eq_some_iff.1 h; rfl
  · split at h <;> cases h; rfl
  · split at h <;> cases h; rfl
  · cases h
  · cases h

/-- A due item is placed at the tail while its slot may be given one (R152). -/
theorem State.placeDueOne_placed {item : OwnItem} (hr : s.slot i = some r) (hdue : r.dueAs i = some item)
    (hroom : s.roomFor i) : s.placeDueOne i = (s.setSlot i (some r.notDue)).queued item := by
  have hcan := State.canPlace_iff.2 hroom
  have hpush : (s.setSlot i (some r.notDue)).pushItem item = (s.setSlot i (some r.notDue)).queued item :=
    State.pushItem_queued (by rw [Record.dueAs_slot hdue]; exact hroom.1)
  rw [← hpush]
  unfold State.placeDueOne
  rw [hr]
  cases r with
  | claim c =>
    obtain ⟨p, hp, rfl⟩ := Option.map_eq_some_iff.1 hdue
    simp [State.placeClaimDue, hp, hcan, Record.notDue]
  | stream x =>
    cases hx : x.itemDue <;> simp [Record.dueAs, hx] at hdue
    simp [State.placeStreamDue, hx, hcan, Record.notDue, ← hdue]
  | exchange x =>
    cases hx : x.itemDue <;> simp [Record.dueAs, hx] at hdue
    simp [State.placeExchangeDue, hx, hcan, Record.notDue, ← hdue]
  | responder _ | filter _ => cases hdue

/-- Otherwise the slot stays as it is. -/
theorem State.placeDueOne_kept (h : ∀ r, s.slot i = some r → r.dueAs i = none ∨ ¬ s.roomFor i) :
    s.placeDueOne i = s := by
  unfold State.placeDueOne
  cases hr : s.slot i with
  | none => rfl
  | some r =>
    rcases h r hr with hnone | hfull
    · cases r with
      | claim c =>
        have hc : c.dueItem = none := Option.map_eq_none_iff.1 hnone
        simp [State.placeClaimDue, hc]
      | stream x =>
        cases hx : x.itemDue <;> simp [Record.dueAs, hx] at hnone
        simp [State.placeStreamDue, hx]
      | exchange x =>
        cases hx : x.itemDue <;> simp [Record.dueAs, hx] at hnone
        simp [State.placeExchangeDue, hx]
      | responder _ | filter _ => rfl
    · have hcan : s.canPlace i = false := Bool.eq_false_iff.2 (mt State.canPlace_iff.1 hfull)
      cases r with
      | claim c => cases hc : c.dueItem <;> simp [State.placeClaimDue, hc, hcan]
      | stream x => simp [State.placeStreamDue, hcan]
      | exchange x => simp [State.placeExchangeDue, hcan]
      | responder _ | filter _ => rfl

/-- A record rewritten by itself with no mark stays. -/
theorem State.rewrite_self (hr : s.slot i = some r) : s.rewrite i r 0 = s := s.setSlot_self i _ hr

/-- A queue whose items are not turned stays. -/
theorem State.setTx_turned_id {p : SlotPass} (hr : s.slot i = some r) (hturn : ∀ item, p.turn r item = item) (u : State)
    (hu : u.tx = s.tx) : u.setTx { s.tx with own := s.tx.own.map (p.turned s [i]) } = u := by
  have hturned : p.turned s [i] = id := funext fun item => by
    by_cases hitem : item.slot = i
    · simp [SlotPass.turned, hitem, hr, hturn]
    · simp [SlotPass.turned, hitem]
  rw [hturned, List.map_id, ← hu]
  rfl

/-- A slot's part of a pass that rewrites its record and then places the item this has due (R152). -/
theorem SlotPass.passed_due {p : SlotPass} {d : Record} (hr : s.slot i = some r) (hwant : p.want i r = d.dueAs i)
    (hleft : ∀ placed late, p.left placed late r = if placed then d.notDue else d)
    (hturn : ∀ item, p.turn r item = item) :
    s.passed p [i] = (s.rewrite i d (p.marks r)).placeDueOne i := by
  have htx := State.tx_rewrite (s := s) (i := i) d (p.marks r)
  have hslot : (s.rewrite i d (p.marks r)).slot i = some d := by rw [State.slot_rewrite, if_pos rfl]
  have hkept : (∀ e, some d = some e → e.dueAs i = none ∨ ¬ (s.rewrite i d (p.marks r)).roomFor i) →
      (s.rewrite i d (p.marks r)).placeDueOne i = s.rewrite i d (p.marks r) := fun h =>
    State.placeDueOne_kept fun e he => h e (hslot ▸ he)
  have hunwanted : s.hasItem i = true ∨ p.want i r = none → s.passed p [i] = s.rewrite i d (p.marks r) := fun h => by
    have hfalse : p.left false false r = d := hleft false false
    rw [passed_unwanted hr h, hfalse, State.setTx_turned_id hr hturn _ htx]
  cases hdue : d.dueAs i with
  | none => rw [hunwanted (.inr (hwant.trans hdue)), hkept fun e he => .inl (by cases he; exact hdue)]
  | some item =>
    rcases s.room_cases i with hqueued | hroom | hfull
    · obtain ⟨other, hother, hslot'⟩ := State.hasItem_iff.1 hqueued
      rw [hunwanted (.inl hqueued), hkept fun _ _ => .inr fun h => h.1 other (htx ▸ hother) hslot']
    · have hroom' : (s.rewrite i d (p.marks r)).roomFor i := by rw [State.roomFor, htx]; exact hroom
      rw [passed_placed hr (hwant.trans hdue) hroom, State.placeDueOne_placed hslot hdue hroom', State.rewrite_setSlot,
        hleft]
      rfl
    · have hnoroom : ¬ (s.rewrite i d (p.marks r)).roomFor i := fun h => absurd (htx ▸ h.2) (Nat.not_lt.2 hfull.2)
      rw [passed_late hr (hwant.trans hdue) hfull, hkept fun _ _ => .inr hnoroom, hleft]
      rfl

end Due

/-- The pass of a due-item placement (R152). -/
def duePass : SlotPass where
  want := Record.dueAs
  left placed _ r := if placed then r.notDue else r
  marks _ := 0
  turn _ item := item
  want_slot := Record.dueAs_slot
  turn_slot _ _ := rfl

theorem State.placeDueOne_eq (s : State) (i : SlotIx) : s.placeDueOne i = s.passed duePass [i] := by
  cases hr : s.slot i with
  | none => rw [SlotPass.passed_empty hr, State.placeDueOne_kept fun r h => by rw [hr] at h; cases h]
  | some r =>
    have hself : s.rewrite i r (duePass.marks r) = s := State.rewrite_self hr
    rw [SlotPass.passed_due hr rfl (fun _ _ => rfl) fun _ => rfl, hself]

/-! ## The line link's return (R92, R126, R146) -/

/-- A claim is probed again at the line link's return (R92). -/
abbrev Claim.Reprobes (c : Claim) : Prop :=
  c.reprobePending = true ∧ c.cfg.probeTemplate ≠ none ∧ 0 < c.cfg.probeCount

/-- The item a record wants at the line link's return. -/
def Record.returnWant (i : SlotIx) : Record → Option OwnItem
  | .claim c => if c.Reprobes then some (.claim i .probe) else c.dueItem.map (OwnItem.claim i)
  | .stream x =>
    if (x.state = .outstanding ∧ x.timer = some .retrySpacing) ∨ x.itemDue = true then some (.stream i) else none
  | .exchange x => if x.state = .awaiting ∨ x.itemDue = true then some (.exchange i) else none
  | .responder _ | .filter _ => none

/-- A record as the line link's return leaves it. -/
def Record.returned (now : Time) (placed late : Bool) : Record → Record
  | .claim c => .claim
    (if c.Reprobes then { c with
      state := .probing, probesRemaining := c.cfg.probeCount, timer := none, reprobePending := false
      dueItem := if late then some .probe else none }
    else if c.reprobePending = true then { c with
      state := .held, timer := none, reprobePending := false
      dueItem := if placed then none else c.dueItem }
    else { c with dueItem := if placed then none else c.dueItem })
  | .stream x => .stream
    (if x.state = .outstanding ∧ x.timer = some .retrySpacing then
      { x with timer := none, nextDue := now, itemDue := late }
    else { x with itemDue := x.itemDue && !placed })
  | .exchange x => .exchange
    (if x.state = .awaiting then { x with state := .queued, resend := true, timer := none, itemDue := late }
    else { x with itemDue := x.itemDue && !placed })
  | .responder r => .responder r
  | .filter f => .filter f

/-- The marks a record's engine reports at the line link's return (R96, R148). -/
def Record.returnMarks : Record → BitVec 8
  | .claim c =>
    if c.reprobePending = false then 0
    else if c.state = (if c.Reprobes then .probing else .held) then 0x04 else 0x01
  | .exchange x => if x.state = .awaiting then 0x01 else 0
  | .stream _ | .responder _ | .filter _ => 0

/-- A queued item of a reprobed claim becomes a probe (R92). -/
def Record.returnTurn : Record → OwnItem → OwnItem
  | .claim c, .claim i p => .claim i (if c.Reprobes then .probe else p)
  | _, item => item

theorem Record.returnWant_slot {i : SlotIx} {r : Record} {item : OwnItem} (h : r.returnWant i = some item) :
    item.slot = i := by
  cases r with
  | claim c =>
    dsimp only [Record.returnWant] at h
    split at h
    · cases h; rfl
    · obtain ⟨p, -, rfl⟩ := Option.map_eq_some_iff.1 h; rfl
  | stream x | exchange x => dsimp only [Record.returnWant] at h; split at h <;> cases h; rfl
  | responder _ | filter _ => cases h

theorem Record.returnTurn_slot (r : Record) (item : OwnItem) : (r.returnTurn item).slot = item.slot := by
  cases r <;> cases item <;> rfl

/-- The pass of the line link's return at a part time. -/
def returnPass (now : Time) : SlotPass where
  want := Record.returnWant
  left := Record.returned now
  marks := Record.returnMarks
  turn := Record.returnTurn
  want_slot := Record.returnWant_slot
  turn_slot := Record.returnTurn_slot

section Return
variable {s : State} {i : SlotIx}

theorem Claim.reprobes_iff (c : Claim) : c.Reprobes ↔ c.reprobePending = true ∧ c.probes = true := by
  simp [Claim.probes, Option.isSome_iff_ne_none]

/-- The marks of a claim whose reprobe pending flag a return clears (R96). -/
theorem claimMarks_returned {c d : Claim} (hpending : c.reprobePending = true) (hcleared : d.reprobePending = false) :
    claimMarks c d = if c.state = d.state then 0x04 else 0x01 := by
  by_cases hstate : c.state = d.state
  · simp [claimMarks, hstate, hpending, hcleared, markCounters]
  · rw [claimMarks_of_state (Ne.symm hstate), if_neg hstate]

/-- A claim whose reprobe is not pending has its due item placed (R152). -/
theorem State.returnClaim_steady {c : Claim} (hr : s.slot i = some (.claim c)) (h : c.reprobePending = false) (now : Time) :
    s.returnClaim i c = s.passed (returnPass now) [i] := by
  have hnot : ¬ c.Reprobes := fun hc => by rw [hc.1] at h; cases h
  have hmarks : (returnPass now).marks (.claim c) = 0 := if_pos h
  have hplace : s.returnClaim i c = s.placeDueOne i := by simp [State.returnClaim, h, State.placeDueOne, hr]
  rw [hplace, SlotPass.passed_due (d := .claim c) hr, hmarks, State.rewrite_self hr]
  · exact if_neg hnot
  · intro placed late
    refine (congrArg Record.claim ((if_neg hnot).trans (if_neg (by rw [h]; decide)))).trans ?_
    cases placed <;> rfl
  · intro item
    cases item <;> simp [returnPass, Record.returnTurn, hnot]

/-- A claim whose reprobe is pending and that is not probed is HELD again, and has its due item placed (R92, R152). -/
theorem State.returnClaim_held {c : Claim} (hr : s.slot i = some (.claim c)) (h : c.reprobePending = true)
    (hnot : ¬ c.Reprobes) (now : Time) : s.returnClaim i c = s.passed (returnPass now) [i] := by
  have hprobes : c.probes = false := Bool.eq_false_iff.2 fun hc => hnot (c.reprobes_iff.2 ⟨h, hc⟩)
  have hmarks : (returnPass now).marks (.claim c) =
      claimMarks c { c with state := .held, timer := none, reprobePending := false } := by
    rw [claimMarks_returned h rfl]
    refine (if_neg (by rw [h]; decide)).trans ?_
    rw [if_neg hnot]
  have hplace : s.returnClaim i c = (s.rewrite i (.claim { c with state := .held, timer := none, reprobePending := false })
      ((returnPass now).marks (.claim c))).placeDueOne i := by
    rw [hmarks, State.placeDueOne, State.slot_rewrite, if_pos rfl]
    simp [State.returnClaim, h, hprobes, State.putClaim_eq]
  rw [hplace, SlotPass.passed_due (d := .claim { c with state := .held, timer := none, reprobePending := false }) hr]
  · exact if_neg hnot
  · intro placed late
    refine (congrArg Record.claim ((if_neg hnot).trans (if_pos h))).trans ?_
    cases placed <;> rfl
  · intro item
    cases item <;> simp [returnPass, Record.returnTurn, hnot]

theorem State.hasItem_rewrite (r : Record) (m : BitVec 8) (k : SlotIx) : (s.rewrite i r m).hasItem k = s.hasItem k := by
  rw [State.hasItem, State.tx_rewrite]; rfl

/-- An item joins no queue that holds one of its slot (R152). -/
theorem State.pushItem_kept {item : OwnItem} (h : s.hasItem item.slot = true) : s.pushItem item = s := if_pos h

/-- A queued item of a reprobed claim becomes a probe where it stands (R92). -/
theorem turned_returnPass {c : Claim} (hr : s.slot i = some (.claim c)) (h : c.Reprobes) (now : Time) :
    (returnPass now).turned s [i] = asProbe i := funext fun item => by
  by_cases hitem : item.slot = i
  · have hturned : (returnPass now).turned s [i] item = Record.returnTurn (.claim c) item := by
      simp [SlotPass.turned, hitem, hr, returnPass]
    rw [hturned]
    cases item with
    | claim j p =>
      have hj : j = i := hitem
      simp [Record.returnTurn, asProbe, h, hj]
    | stream _ | exchange _ => rfl
  · have hturned : (returnPass now).turned s [i] item = item := if_neg (by simpa using hitem)
    rw [hturned]
    cases item with
    | claim j p => exact (if_neg hitem).symm
    | stream _ | exchange _ => rfl

/-- A claim as the line link's return has it probed again (R92). -/
def Claim.reprobed (c : Claim) : Claim :=
  { c with
    state := .probing, probesRemaining := c.cfg.probeCount, timer := none, reprobePending := false, dueItem := none }

/-- A claim that is probed again: an item of it in the queue becomes a probe, else its probe is placed or due (R92). -/
theorem State.returnClaim_probing {c : Claim} (hr : s.slot i = some (.claim c)) (h : c.Reprobes) (now : Time) :
    s.returnClaim i c = s.passed (returnPass now) [i] := by
  obtain ⟨hpending, hprobes⟩ := c.reprobes_iff.1 h
  have hleft : ∀ placed, (returnPass now).left placed false (.claim c) = .claim c.reprobed := fun placed =>
    congrArg Record.claim (if_pos h)
  have hleft_late : (returnPass now).left false true (.claim c) = .claim { c.reprobed with dueItem := some .probe } :=
    congrArg Record.claim (if_pos h)
  have hwant : (returnPass now).want i (.claim c) = some (.claim i .probe) := if_pos h
  have hmarks : claimMarks c c.reprobed = (returnPass now).marks (.claim c) := by
    rw [claimMarks_returned hpending rfl]
    refine Eq.symm ((if_neg (by rw [hpending]; decide)).trans ?_)
    rw [if_pos h]
    rfl
  generalize hm : (returnPass now).marks (.claim c) = m at hmarks
  have htx : (s.rewrite i (.claim c.reprobed) m).tx = s.tx := State.tx_rewrite _ _
  have hreturn : s.returnClaim i c = if s.hasItem i then
        (s.rewrite i (.claim c.reprobed) m).setTx { s.tx with own := s.tx.own.map (asProbe i) }
      else (s.rewrite i (.claim c.reprobed) m).wantClaimItem i c.reprobed .probe := by
    rw [← State.hasItem_rewrite (i := i) (.claim c.reprobed) m i, ← htx, ← hmarks, ← State.putClaim_eq]
    unfold State.returnClaim
    rw [if_pos hpending, if_pos hprobes]
    rfl
  rcases s.room_cases i with hqueued | hroom | hfull
  · rw [hreturn, if_pos hqueued, SlotPass.passed_unwanted hr (.inl hqueued), hleft, hm, turned_returnPass hr h]
  · rw [hreturn, State.hasItem_eq_false hroom.1, SlotPass.passed_placed hr hwant hroom, hleft, hm]
    exact State.wantClaimItem_queued (by rw [State.roomFor, htx]; exact hroom) rfl _
  · rw [hreturn, State.hasItem_eq_false hfull.1, SlotPass.passed_late hr hwant hfull, hleft_late, hm]
    exact (State.wantClaimItem_due (c := c.reprobed) (by rw [State.noRoomFor, htx]; exact hfull) rfl .probe).trans
      (s.rewrite_setSlot i _ _ m)

/-- A claim's part of the line link's return. -/
theorem State.returnClaim_eq {c : Claim} (hr : s.slot i = some (.claim c)) (now : Time) :
    s.returnClaim i c = s.passed (returnPass now) [i] := by
  by_cases h : c.Reprobes
  · exact State.returnClaim_probing hr h now
  · cases hpending : c.reprobePending with
    | false => exact State.returnClaim_steady hr hpending now
    | true => exact State.returnClaim_held hr hpending h now

/-- A stream that waits for its next probe has it placed now, or due (R126). -/
theorem State.returnStream_retry {x : Stream} (hr : s.slot i = some (.stream x)) (hup : s.tx.linkUp = true)
    (h : x.state = .outstanding ∧ x.timer = some .retrySpacing) :
    s.returnStream i x = s.passed (returnPass s.clk.partTime) [i] := by
  generalize hx' : ({ x with timer := none, nextDue := s.clk.partTime, itemDue := false } : Stream) = x'
  have hleft : ∀ placed, (returnPass s.clk.partTime).left placed false (.stream x) = .stream x' := fun placed => by
    rw [← hx']; exact congrArg Record.stream (if_pos h)
  have hleft_late : (returnPass s.clk.partTime).left false true (.stream x) = .stream { x' with itemDue := true } := by
    rw [← hx']; exact congrArg Record.stream (if_pos h)
  have hwant : (returnPass s.clk.partTime).want i (.stream x) = some (.stream i) := if_pos (.inl h)
  have hmarks : streamMarks x x' = (returnPass s.clk.partTime).marks (.stream x) := by
    rw [← hx']; simp [streamMarks, returnPass, Record.returnMarks]
  have hreturn : s.returnStream i x =
      (s.rewrite i (.stream x') ((returnPass s.clk.partTime).marks (.stream x))).placeStreamItem i x' := by
    rw [← hmarks, ← State.putStream_eq, ← hx']
    exact if_pos h
  rcases s.room_cases i with hqueued | hroom | hfull
  · rw [hreturn, State.placeStreamItem_rewrite, hup, hqueued, SlotPass.passed_unwanted hr (.inl hqueued), hleft,
      State.setTx_turned_id hr (fun _ => rfl) _ (State.tx_rewrite _ _)]
    exact State.pushItem_kept ((State.hasItem_rewrite _ _ i).trans hqueued)
  · rw [hreturn, State.placeStreamItem_queued hup hroom, SlotPass.passed_placed hr hwant hroom, hleft]
  · rw [hreturn, State.placeStreamItem_due (.inr hfull), SlotPass.passed_late hr hwant hfull, hleft_late]

/-- Any other stream has its due item placed (R126, R152). -/
theorem State.returnStream_other {x : Stream} (hr : s.slot i = some (.stream x))
    (h : ¬ (x.state = .outstanding ∧ x.timer = some .retrySpacing)) (now : Time) :
    s.returnStream i x = s.passed (returnPass now) [i] := by
  have hplace : s.returnStream i x = s.placeDueOne i := by
    rw [State.placeDueOne, hr]; exact if_neg h
  have hself : s.rewrite i (.stream x) ((returnPass now).marks (.stream x)) = s := State.rewrite_self hr
  rw [hplace, SlotPass.passed_due (d := .stream x) hr, hself]
  · exact if_congr (or_iff_right h) rfl rfl
  · intro placed late
    refine (congrArg Record.stream (if_neg h)).trans ?_
    cases placed <;> simp [Record.notDue]
  · exact fun _ => rfl

/-- An AWAITING exchange is QUEUED for a resend, its request placed or due (R146). -/
theorem State.returnExchange_awaiting {x : Exchange} (hr : s.slot i = some (.exchange x)) (hup : s.tx.linkUp = true)
    (h : x.state = .awaiting) (now : Time) : s.returnExchange i x = s.passed (returnPass now) [i] := by
  generalize hx' : ({ x with state := .queued, resend := true, timer := none, itemDue := false } : Exchange) = x'
  have hleft : ∀ placed, (returnPass now).left placed false (.exchange x) = .exchange x' := fun placed => by
    rw [← hx']; exact congrArg Record.exchange (if_pos h)
  have hleft_late : (returnPass now).left false true (.exchange x) = .exchange { x' with itemDue := true } := by
    rw [← hx']; exact congrArg Record.exchange (if_pos h)
  have hwant : (returnPass now).want i (.exchange x) = some (.exchange i) := if_pos (.inl h)
  have hmarks : (returnPass now).marks (.exchange x) = 0x01 := if_pos h
  have hreturn : s.returnExchange i x = (s.rewrite i (.exchange x') 0x01).placeExchangeItem i x' := by
    rw [← State.putExchange_moved (a := x) (b := x') (by rw [← hx', h]; exact nofun) (by rw [← hx']), ← hx']
    exact if_pos h
  obtain ⟨hqueue, hdue⟩ := State.placeExchangeItem_rewrite (s := s) (i := i) (x := x') (.exchange x') 0x01
  rcases s.room_cases i with hqueued | hroom | hfull
  · have hqueued' : (s.rewrite i (.exchange x') 0x01).hasItem i = true := (State.hasItem_rewrite _ _ i).trans hqueued
    have hup' : (s.rewrite i (.exchange x') 0x01).tx.linkUp = true := by rw [State.tx_rewrite]; exact hup
    rw [hreturn, SlotPass.passed_unwanted hr (.inl hqueued), hleft, hmarks,
      State.setTx_turned_id hr (fun _ => rfl) _ (State.tx_rewrite _ _), State.placeExchangeItem, hup', hqueued']
    exact State.pushItem_kept hqueued'
  · rw [hreturn, hqueue hup hroom, SlotPass.passed_placed hr hwant hroom, hleft, hmarks]
  · rw [hreturn, hdue (.inr hfull), SlotPass.passed_late hr hwant hfull, hleft_late, hmarks]

/-- Any other exchange has its due item placed (R146, R152). -/
theorem State.returnExchange_other {x : Exchange} (hr : s.slot i = some (.exchange x)) (h : x.state ≠ .awaiting)
    (now : Time) : s.returnExchange i x = s.passed (returnPass now) [i] := by
  have hplace : s.returnExchange i x = s.placeDueOne i := by
    rw [State.placeDueOne, hr]; exact if_neg h
  have hmarks : (returnPass now).marks (.exchange x) = 0 := if_neg h
  rw [hplace, SlotPass.passed_due (d := .exchange x) hr, hmarks, State.rewrite_self hr]
  · exact if_congr (or_iff_right h) rfl rfl
  · intro placed late
    refine (congrArg Record.exchange (if_neg h)).trans ?_
    cases placed <;> simp [Record.notDue]
  · exact fun _ => rfl

/-- A slot's part of the line link's return is its part of the pass. -/
theorem State.returnOne_eq (hup : s.tx.linkUp = true) (i : SlotIx) :
    s.returnOne i = s.passed (returnPass s.clk.partTime) [i] := by
  unfold State.returnOne
  cases hr : s.slot i with
  | none => exact (SlotPass.passed_empty hr).symm
  | some r =>
    cases r with
    | claim c => exact State.returnClaim_eq hr _
    | stream x =>
      by_cases h : x.state = .outstanding ∧ x.timer = some .retrySpacing
      · exact State.returnStream_retry hr hup h
      · exact State.returnStream_other hr h _
    | exchange x =>
      by_cases h : x.state = .awaiting
      · exact State.returnExchange_awaiting hr hup h _
      · exact State.returnExchange_other hr h _
    | responder _ | filter _ =>
      rw [SlotPass.passed_unwanted hr (.inr rfl), State.setTx_turned_id hr (fun _ => rfl) _ (State.tx_rewrite _ _)]
      exact (State.rewrite_self hr).symm

end Return

/-! ## What the pass of the return reads (R92, R96, R148) -/

/-- A claim's queued item turns into a probe where the claim in its slot is probed again. -/
theorem State.turn_claim (s : State) (i : SlotIx) (p : Purpose) :
    (s.slot i).elim (.claim i p) (Record.returnTurn · (.claim i p)) =
      OwnItem.claim i (if (s.claimAt i).any fun c => decide c.Reprobes then .probe else p) := by
  unfold State.claimAt
  split
  · next c h => simp [h, Record.returnTurn]
  · next h =>
    cases hr : s.slot i with
    | none => rfl
    | some r =>
      cases r with
      | claim c => exact absurd hr (h c)
      | _ => rfl

/-- Any other item stays. -/
theorem State.turn_other (s : State) {item : OwnItem} (h : ∀ i p, item ≠ .claim i p) :
    (s.slot item.slot).elim item (Record.returnTurn · item) = item := by
  have hstays : ∀ r : Record, r.returnTurn item = item := fun r => by
    cases item with
    | claim i p => exact absurd rfl (h i p)
    | _ => cases r <;> rfl
  cases s.slot item.slot with
  | none => rfl
  | some r => exact hstays r

/-- A claim is marked exactly where its reprobe was pending. -/
theorem addChange_returned_claim (c : Claim) (l : List ChangeRecord) (i : SlotIx) :
    (if (Record.claim c).returnMarks = 0 then l else addChange l i (Record.claim c).returnMarks) =
      if c.reprobePending = false then l
      else addChange l i (if c.state = (if c.Reprobes then .probing else .held) then 0x04 else 0x01) := by
  by_cases h : c.reprobePending = false
  · have hmarks : (Record.claim c).returnMarks = 0 := if_pos h
    rw [hmarks, if_pos rfl, if_pos h]
  · have hmarks : (Record.claim c).returnMarks =
        if c.state = (if c.Reprobes then .probing else .held) then 0x04 else 0x01 := if_neg h
    rw [hmarks, if_neg h]
    exact if_neg (by split_ifs <;> exact nofun)

/-- An exchange is marked exactly where it was AWAITING. -/
theorem addChange_returned_exchange (x : Exchange) (l : List ChangeRecord) (i : SlotIx) :
    (if (Record.exchange x).returnMarks = 0 then l else addChange l i (Record.exchange x).returnMarks) =
      if x.state = .awaiting then addChange l i 0x01 else l := by
  by_cases h : x.state = .awaiting
  · have hmarks : (Record.exchange x).returnMarks = 0x01 := if_pos h
    rw [hmarks, if_pos h]
    exact if_neg (by decide)
  · have hmarks : (Record.exchange x).returnMarks = 0 := if_neg h
    rw [hmarks, if_pos rfl, if_neg h]

/-! ## The takings (R152, R153, R160) -/

section Takings
variable {s : State}

/-- A pass leaves the clock and the link state. -/
theorem State.setTraffic_reads (o : List OwnItem) (v : Vector (Option Record) 128) (c : List ChangeRecord) :
    (s.setTraffic o v c).clk = s.clk ∧ (s.setTraffic o v c).tx.linkUp = s.tx.linkUp := ⟨rfl, rfl⟩

theorem State.passed_reads (p : SlotPass) (l : List SlotIx) :
    (s.passed p l).clk = s.clk ∧ (s.passed p l).tx.linkUp = s.tx.linkUp := State.setTraffic_reads ..

theorem State.canTake_passed (p : SlotPass) (l : List SlotIx) : (s.passed p l).canTake = s.canTake := by
  rw [State.canTake, (State.passed_reads p l).1]; rfl

theorem State.foldl_returnOne (hup : s.tx.linkUp = true) :
    slotIndices.foldl State.returnOne s = s.passed (returnPass s.clk.partTime) slotIndices := by
  refine foldl_eq_passed (fun l i => ?_) slotIndices_nodup
  obtain ⟨hclk, hlink⟩ := State.passed_reads (s := s) (returnPass s.clk.partTime) l
  rw [State.returnOne_eq (hlink.trans hup), hclk]

theorem State.foldl_placeDueOne : slotIndices.foldl State.placeDueOne s = s.passed duePass slotIndices :=
  foldl_eq_passed (fun l i => (s.passed duePass l).placeDueOne_eq i) slotIndices_nodup

/-- The arbiter's taking in ACTIVE (R153). -/
theorem exec_grant_arbitrate (hcan : s.canTake = true) : exec .grant s = .next s.arbitrate :=
  congrArg Host.Outcome.next (if_pos hcan)

/-- LINK's rise in ACTIVE, with the link state down (R160). -/
theorem exec_lineLinkReturn {risen : State} (hcan : s.canTake = true) (hlow : s.pins.link = false)
    (hdown : s.tx.linkUp = false)
    (hrisen : risen = (s.setPins { s.pins with link := true }).setTx { s.tx with linkUp := true }) :
    exec .lineLinkReturn s = .next (if s.custody.state.lent
      then (slotIndices.foldl State.returnOne risen).arbitrate else risen.arbitrate) := by
  obtain ⟨hrun, hactive⟩ := State.canTake_iff.1 hcan
  let high := s.setPins { s.pins with link := true }
  have htaken : exec .lineLinkReturn s = .next high.takeLinkReturn := by
    refine congrArg Host.Outcome.next ((if_pos (by rw [hlow]; rfl)).trans ((if_pos (decide_eq_true hrun)).trans ?_))
    dsimp only
    rw [State.wake_of_active (s := high) hactive]
    exact State.takeOrDefer_of_active (s := high) hactive _ _
  have hdown' : ¬ high.tx.linkUp = true := by rw [show high.tx.linkUp = s.tx.linkUp from rfl, hdown]; decide
  rw [htaken, State.takeLinkReturn, if_neg hdown', hrisen]
  dsimp only
  exact congrArg Host.Outcome.next (apply_ite State.arbitrate ..)

/-- A due-item placement while the engines run and the link is up (R152). -/
theorem exec_dueItemPlacement (hrun : s.enginesRun = true) :
    exec .dueItemPlacement s = .next (if s.tx.linkUp then s.passed duePass slotIndices else s) := by
  have hexec : exec .dueItemPlacement s =
      .next (if s.enginesRun && s.tx.linkUp then slotIndices.foldl State.placeDueOne s else s) := rfl
  rw [hexec, hrun, Bool.true_and, State.foldl_placeDueOne]

end Takings

end Sys2Proof.Machine

open Sys2Proof Sys2Proof.Machine

/-- Settles O55: the return and the placement are passes over the slots; the queue's items turned and placed, the records and
the marks are read off the pass. -/
theorem linkReturnAndPlacementQueueTheTraffic : Obligations.LinkReturnAndPlacementQueueTheTraffic := by
  intro s queuedAt room
  refine ⟨fun hcan hlow hdown => ?_, fun hrun => ?_⟩
  · intro risen
    have htaken := exec_lineLinkReturn (risen := risen) hcan hlow hdown rfl
    refine ⟨fun hheld => ?_, fun hlent => ?_⟩
    · rw [htaken, hheld]
      exact ⟨_, rfl, exec_grant_arbitrate (s := risen) hcan⟩
    · intro reprobes wanted placed late returned marked turned
      rw [htaken, hlent, if_pos rfl, State.foldl_returnOne (s := risen) rfl]
      have hclk : risen.clk.partTime = s.clk.partTime := rfl
      rw [hclk]
      generalize hp : returnPass s.clk.partTime = p
      have hwanted : slotIndices.filterMap (p.wanted risen) = wanted := by
        refine List.filterMap_congr fun i _ => ?_
        subst hp
        refine if_congr Iff.rfl rfl ?_
        change (s.slot i).bind _ = _
        cases s.slot i with
        | none => rfl
        | some r => cases r <;> rfl
      have hturned : (fun item : OwnItem => (risen.slot item.slot).elim item (p.turn · item)) = turned :=
        funext fun item => by
          subst hp
          cases item with
          | claim i purpose => exact s.turn_claim i purpose
          | stream _ | exchange _ => exact s.turn_other fun _ _ => nofun
      have hmarked : p.mark risen = marked := funext fun l => funext fun i => by
        subst hp
        change (s.slot i).elim l _ = _
        simp only [marked]
        cases s.slot i with
        | none => rfl
        | some r =>
          cases r with
          | claim c => exact addChange_returned_claim c l i
          | exchange x => exact addChange_returned_exchange x l i
          | _ => rfl
      have hroom : risen.placesLeft = room := rfl
      have hown : p.own risen slotIndices = s.tx.own.map turned ++ wanted.take room := by
        rw [SlotPass.own_slotIndices, hturned, hwanted, hroom]
      have hleft : ∀ i, p.left (p.placed risen slotIndices i) (p.late risen slotIndices i) = returned i := fun i => by
        funext r
        rw [SlotPass.placed, SlotPass.late, hwanted, hroom]
        subst hp
        cases r <;> rfl
      have hslot : ∀ i, (risen.passed p slotIndices).slot i = (s.slot i).map (returned i) := fun i => by
        rw [State.slot_passed_slotIndices, hleft]
        rfl
      have hpassed : risen.passed p slotIndices = risen.setTraffic (s.tx.own.map turned ++ wanted.take room)
          (risen.passed p slotIndices).table.slots (slotIndices.foldl marked s.cond.changes) := by
        rw [← hown, ← hmarked]; rfl
      have hcan' : (risen.passed p slotIndices).canTake = true := (State.canTake_passed p _).trans hcan
      exact ⟨_, _, rfl, exec_grant_arbitrate hcan', hpassed, hslot⟩
  · intro dueItems placed
    rw [exec_dueItemPlacement hrun]
    refine ⟨fun hdown => by rw [hdown]; rfl, fun hup => ?_⟩
    have hown : duePass.own s slotIndices = s.tx.own ++ dueItems.take room := by
      have hkept : (fun item : OwnItem => (s.slot item.slot).elim item (duePass.turn · item)) = id := funext fun item => by
        cases s.slot item.slot <;> rfl
      rw [SlotPass.own_slotIndices, hkept, List.map_id]
      rfl
    have hchanges : slotIndices.foldl (duePass.mark s) s.cond.changes = s.cond.changes :=
      List.foldl_fixed' (fun i => by unfold SlotPass.mark; cases s.slot i <;> rfl) _
    have hpassed : s.passed duePass slotIndices = s.setTraffic (s.tx.own ++ dueItems.take room)
        (s.passed duePass slotIndices).table.slots s.cond.changes := by
      conv_rhs => rw [← hown, ← hchanges]
      rfl
    have hplaced : ∀ i, duePass.placed s slotIndices i = placed i := fun _ => rfl
    refine ⟨s.passed duePass slotIndices, by rw [hup]; rfl, hpassed, fun i => ?_⟩
    rw [State.slot_passed_slotIndices, hplaced]
    cases placed i with
    | true => rfl
    | false => exact Option.map_id'

end

section
/-! SUPPORT. A line link drop by its steps: the carried frame's abort, the claims marked for reprobing, and what else is lost
(R65, R91, R96, R148, R158, R159). -/

namespace Sys2Proof.Machine

/-! ## An own-traffic frame's abort (R159) -/

/-- A granted item's record stands as the grant left it, and its slot has no other item queued or due (R159). -/
def State.Stands (s : State) (item : OwnItem) : Prop :=
  (∀ other ∈ s.tx.own, other.slot ≠ item.slot) ∧
    match item with
    | .claim i _ => ∃ c, s.claimAt i = some c ∧ c.state ≠ .lost ∧ c.dueItem = none
    | .stream i => ∃ x, s.streamAt i = some x ∧ x.state = .outstanding ∧ x.itemDue = false
    | .exchange i => ∃ x, s.exchangeAt i = some x ∧ x.state = .awaiting ∧ x.itemDue = false

/-- The carried frame's item goes back to the head of the queue (R159). -/
def State.Requeues (s : State) (item : OwnItem) : Prop :=
  (∃ f, s.tx.carried = some (.own item f)) ∧ s.Stands item

/-- A record whose request has not gone: an exchange is QUEUED again (R159). -/
def Record.unsent : Record → Record
  | .exchange x => .exchange { x with state := .queued }
  | r => r

section Requeue
variable {s : State} {item : OwnItem}

/-- A lent table's item may go back where its slot has no other queued (R159). -/
theorem State.may_requeue (hl : s.custody.state.lent = true) (hfree : ∀ other ∈ s.tx.own, other.slot ≠ item.slot) :
    ¬ (s.custody.state.lent = false ∨ s.hasItem item.slot = true) := by
  rw [hl, State.hasItem_eq_false hfree]; decide

/-- A claim's or stream's item that stands is queued at the head, and nothing else changes. -/
theorem State.requeueOwn_claim {i : SlotIx} {p : Purpose} (hl : s.custody.state.lent = true) (h : s.Stands (.claim i p)) :
    s.requeueOwn (.claim i p) = s.setTx { s.tx with own := .claim i p :: s.tx.own } := by
  obtain ⟨hfree, c, hc, hlost, hdue⟩ := h
  unfold State.requeueOwn
  rw [if_neg (State.may_requeue hl hfree)]
  dsimp only
  rw [hc]
  exact if_pos ⟨hlost, hdue⟩

theorem State.requeueOwn_stream {i : SlotIx} (hl : s.custody.state.lent = true) (h : s.Stands (.stream i)) :
    s.requeueOwn (.stream i) = s.setTx { s.tx with own := .stream i :: s.tx.own } := by
  obtain ⟨hfree, x, hx, hstands⟩ := h
  unfold State.requeueOwn
  rw [if_neg (State.may_requeue hl hfree)]
  dsimp only
  rw [hx]
  exact if_pos hstands

/-- An exchange whose item stands is QUEUED again, and marked for its state (R148). -/
theorem State.requeueOwn_exchange {i : SlotIx} {x : Exchange} (hl : s.custody.state.lent = true)
    (h : s.Stands (.exchange i)) (hx : s.exchangeAt i = some x) : s.requeueOwn (.exchange i) =
      (s.rewrite i (.exchange { x with state := .queued }) 0x01).setTx { s.tx with own := .exchange i :: s.tx.own } := by
  obtain ⟨hfree, y, hy, hawaiting, hdue⟩ := h
  cases hx.symm.trans hy
  have hput : s.putExchange i x { x with state := .queued } = s.rewrite i (.exchange { x with state := .queued }) 0x01 :=
    State.putExchange_moved (by rw [hawaiting]; exact nofun) rfl
  unfold State.requeueOwn
  rw [if_neg (State.may_requeue hl hfree)]
  dsimp only
  rw [hx]
  dsimp only
  rw [if_pos ⟨hawaiting, hdue⟩, hput, State.tx_rewrite]

/-- An item that does not stand, or that comes back outside a lending, is gone. -/
theorem State.requeueOwn_gone (h : s.custody.state.lent = false ∨ ¬ s.Stands item) : s.requeueOwn item = s := by
  unfold State.requeueOwn
  split
  · rfl
  · next hopen =>
    obtain ⟨hl, hnone⟩ := not_or.1 hopen
    have hfree : ∀ other ∈ s.tx.own, other.slot ≠ item.slot := State.hasItem_eq_false_iff.1 (Bool.eq_false_iff.2 hnone)
    have hgone : ¬ s.Stands item := h.resolve_left hl
    dsimp only
    cases item with
    | claim i p =>
      dsimp only
      split
      · next c hc => exact if_neg fun hstands => hgone ⟨hfree, c, hc, hstands⟩
      · rfl
    | stream i =>
      dsimp only
      split
      · next x hx => exact if_neg fun hstands => hgone ⟨hfree, x, hx, hstands⟩
      · rfl
    | exchange i =>
      dsimp only
      split
      · next x hx => exact if_neg fun hstands => hgone ⟨hfree, x, hx, hstands⟩
      · rfl

/-- What an item that stands leaves of the queue, the change list and the slots. -/
theorem State.requeueOwn_stands (hl : s.custody.state.lent = true) (h : s.Stands item) :
    (s.requeueOwn item).tx.own = item :: s.tx.own ∧
    (∀ i, item = .exchange i → (s.requeueOwn item).cond.changes = addChange s.cond.changes i 0x01) ∧
    ((∀ i, item ≠ .exchange i) → (s.requeueOwn item).cond.changes = s.cond.changes) ∧
    ∀ k, (s.requeueOwn item).slot k = if item = .exchange k then (s.slot k).map Record.unsent else s.slot k := by
  cases item with
  | claim i p =>
    rw [State.requeueOwn_claim hl h]
    exact ⟨rfl, fun _ => nofun, fun _ => rfl, fun _ => (if_neg nofun).symm⟩
  | stream i =>
    rw [State.requeueOwn_stream hl h]
    exact ⟨rfl, fun _ => nofun, fun _ => rfl, fun _ => (if_neg nofun).symm⟩
  | exchange i =>
    obtain ⟨-, x, hx, -⟩ := id h
    have hslot := (s.exchangeAt_eq_some i x).1 hx
    rw [State.requeueOwn_exchange hl h hx]
    refine ⟨rfl, fun j hj => by cases hj; rfl, fun hnot => absurd rfl (hnot i), fun k => ?_⟩
    rw [State.slot_setTx, State.slot_rewrite]
    by_cases hk : i = k
    · subst hk; simp [hslot, Record.unsent]
    · have hne : OwnItem.exchange i ≠ .exchange k := fun hik => hk (OwnItem.exchange.inj hik)
      rw [if_neg hk, if_neg hne]

/-- An abort's own part changes the queue, the slots and the change list alone. -/
theorem State.requeueOwn_blocks : s.requeueOwn item = s.setTraffic (s.requeueOwn item).tx.own
    (s.requeueOwn item).table.slots (s.requeueOwn item).cond.changes := by
  by_cases hgone : s.custody.state.lent = false ∨ ¬ s.Stands item
  · rw [State.requeueOwn_gone hgone]; rfl
  · obtain ⟨hl, h⟩ := not_or.1 hgone
    have hl' : s.custody.state.lent = true := Bool.not_eq_false _ ▸ hl
    have h' : s.Stands item := not_not.1 h
    cases item with
    | claim i p => rw [State.requeueOwn_claim hl' h']; rfl
    | stream i => rw [State.requeueOwn_stream hl' h']; rfl
    | exchange i =>
      obtain ⟨-, x, hx, -⟩ := id h'
      rw [State.requeueOwn_exchange hl' h' hx]
      rfl

end Requeue

/-! ## The carried frame's abort, by its class (R159) -/

/-- The answers among the carried frame. -/
def Transmitter.carriedAnswers (t : Transmitter) : Nat := match t.carried with | some (.answer _ _ _) => 1 | _ => 0

section Abort
variable {s : State}

/-- An abort leaves the transmitter idle and counts an answer; besides, it may change the queue, the slots and the change
list. -/
theorem State.abortCarried_blocks : s.abortCarried = ((s.setTx { s.tx with carried := none }).count
    (Counters.dropped s.tx.carriedAnswers)).setTraffic s.abortCarried.tx.own s.abortCarried.table.slots
      s.abortCarried.cond.changes := by
  unfold State.abortCarried Transmitter.carriedAnswers
  cases hc : s.tx.carried with
  | none =>
    have hidle : s.setTx { s.tx with carried := none } = s := by rw [← hc]; rfl
    dsimp only
    rw [hidle]; rfl
  | some c =>
    cases c with
    | station f => rfl
    | answer i o f => rfl
    | own item f =>
      dsimp only
      rw [State.requeueOwn_blocks]
      rfl

/-- An item that goes back does so at the head of the queue (R159). -/
theorem State.abortCarried_requeues {item : OwnItem} (hl : s.custody.state.lent = true) (h : s.Requeues item) :
    s.abortCarried.tx.own = item :: s.tx.own ∧
    (∀ i, item = .exchange i → s.abortCarried.cond.changes = addChange s.cond.changes i 0x01) ∧
    ((∀ i, item ≠ .exchange i) → s.abortCarried.cond.changes = s.cond.changes) ∧
    ∀ k, s.abortCarried.slot k = if item = .exchange k then (s.slot k).map Record.unsent else s.slot k := by
  obtain ⟨⟨f, hf⟩, hstands⟩ := h
  have haborted : s.abortCarried = (s.setTx { s.tx with carried := none }).requeueOwn item := by
    unfold State.abortCarried; rw [hf]
  rw [haborted]
  exact State.requeueOwn_stands (s := s.setTx { s.tx with carried := none }) hl hstands

/-- Where no item goes back the queue, the change list and the slots stay (R159). -/
theorem State.abortCarried_gone (h : s.custody.state.lent = false ∨ ∀ item, ¬ s.Requeues item) :
    s.abortCarried.tx.own = s.tx.own ∧ s.abortCarried.cond.changes = s.cond.changes ∧
      s.abortCarried.table = s.table := by
  unfold State.abortCarried
  cases hc : s.tx.carried with
  | none => exact ⟨rfl, rfl, rfl⟩
  | some c =>
    cases c with
    | station f => exact ⟨rfl, rfl, rfl⟩
    | answer i o f => exact ⟨rfl, rfl, rfl⟩
    | own item f =>
      have hgone : (s.setTx { s.tx with carried := none }).requeueOwn item = s.setTx { s.tx with carried := none } :=
        State.requeueOwn_gone (h.imp_right fun hnone hstands => hnone item ⟨⟨f, hc⟩, hstands⟩)
      dsimp only
      rw [hgone]
      exact ⟨rfl, rfl, rfl⟩

/-- The queue, the change list and the slots after an abort while the table is lent (R148, R159). -/
theorem State.abortCarried_lent (hl : s.custody.state.lent = true) :
    (∀ item, s.Requeues item → s.abortCarried.tx.own = item :: s.tx.own) ∧
    ((∀ item, ¬ s.Requeues item) → s.abortCarried.tx.own = s.tx.own) ∧
    (∀ i, s.Requeues (.exchange i) → s.abortCarried.cond.changes = addChange s.cond.changes i 0x01) ∧
    ((∀ i, ¬ s.Requeues (.exchange i)) → s.abortCarried.cond.changes = s.cond.changes) ∧
    ∀ i, (s.Requeues (.exchange i) → s.abortCarried.slot i = (s.slot i).map Record.unsent) ∧
      (¬ s.Requeues (.exchange i) → s.abortCarried.slot i = s.slot i) := by
  by_cases h : ∃ item, s.Requeues item
  · obtain ⟨item, hitem⟩ := h
    have hone : ∀ other, s.Requeues other → other = item := fun other ⟨⟨f, hf⟩, _⟩ => by
      obtain ⟨⟨g, hg⟩, -⟩ := hitem
      cases hf.symm.trans hg
      rfl
    have hexchange : ∀ i, s.Requeues (.exchange i) ↔ item = .exchange i :=
      fun i => ⟨fun hi => (hone _ hi).symm, fun hi => hi ▸ hitem⟩
    obtain ⟨hown, hmarked, hunmarked, hslot⟩ := State.abortCarried_requeues hl hitem
    refine ⟨fun other hother => hone other hother ▸ hown, fun hnone => absurd hitem (hnone item),
      fun i hi => hmarked i ((hexchange i).1 hi), fun hnone => hunmarked fun i hi => hnone i ((hexchange i).2 hi),
      fun i => ⟨fun hi => ?_, fun hi => ?_⟩⟩
    · rw [hslot, if_pos ((hexchange i).1 hi)]
    · rw [hslot, if_neg (mt (hexchange i).2 hi)]
  · have hnone := not_exists.1 h
    obtain ⟨hown, hchanges, htable⟩ := State.abortCarried_gone (.inr hnone)
    refine ⟨fun item hitem => absurd hitem (hnone item), fun _ => hown, fun i hi => absurd hi (hnone _), fun _ => hchanges,
      fun i => ⟨fun hi => absurd hi (hnone _), fun _ => ?_⟩⟩
    rw [State.slot, htable]; rfl

/-- No claim changes in an abort. -/
theorem State.claimAt_abortCarried (hl : s.custody.state.lent = true) (i : SlotIx) :
    s.abortCarried.claimAt i = s.claimAt i := by
  obtain ⟨-, -, -, -, hslot⟩ := State.abortCarried_lent hl
  obtain ⟨hback, hkept⟩ := hslot i
  unfold State.claimAt
  by_cases h : s.Requeues (.exchange i)
  · rw [hback h]
    cases s.slot i with
    | none => rfl
    | some r => cases r <;> rfl
  · rw [hkept h]

end Abort

/-! ## The claims marked for reprobing (R91, R96) -/

/-- A record as a line link drop leaves it (R91). -/
def Record.linkLost : Record → Record
  | .claim c => .claim (if c.state = .lost then c else { c with reprobePending := true })
  | r => r

/-- The marks a claim reports at a line link drop (R96). -/
def Record.linkLostMarks : Record → BitVec 8
  | .claim c => if decide (c.state ≠ .lost) && !c.reprobePending then 0x04 else 0
  | _ => 0

/-- The pass of a line link drop: no slot wants an item (R91). -/
def dropPass : SlotPass where
  want _ _ := none
  left _ _ := Record.linkLost
  marks := Record.linkLostMarks
  turn _ item := item
  want_slot h := nomatch h
  turn_slot _ _ := rfl

section Drop
variable (s : State)

theorem State.dropClaimOne_eq (i : SlotIx) : s.dropClaimOne i = s.passed dropPass [i] := by
  unfold State.dropClaimOne State.claimAt
  cases hr : s.slot i with
  | none => exact (SlotPass.passed_empty hr).symm
  | some r =>
    have hpassed : s.passed dropPass [i] = s.rewrite i r.linkLost r.linkLostMarks := by
      rw [SlotPass.passed_unwanted hr (.inr rfl), State.setTx_turned_id hr (fun _ => rfl) _ (State.tx_rewrite _ _)]
      rfl
    rw [hpassed]
    cases r with
    | claim c =>
      by_cases hlost : c.state = .lost
      · have hrecord : (Record.claim c).linkLost = .claim c := congrArg Record.claim (if_pos hlost)
        have hmarks : (Record.claim c).linkLostMarks = 0 := if_neg (by simp [hlost])
        rw [hrecord, hmarks, State.rewrite_self hr]
        exact if_pos hlost
      · have hrecord : (Record.claim c).linkLost = .claim { c with reprobePending := true } :=
          congrArg Record.claim (if_neg hlost)
        have hmarks : (Record.claim c).linkLostMarks = claimMarks c { c with reprobePending := true } := by
          cases hpending : c.reprobePending <;> simp [Record.linkLostMarks, claimMarks, hlost, hpending, markCounters]
        rw [hrecord, hmarks, ← State.putClaim_eq]
        exact if_neg hlost
    | responder _ | filter _ | stream _ | exchange _ => exact (State.rewrite_self hr).symm

theorem State.foldl_dropClaimOne : slotIndices.foldl State.dropClaimOne s = s.passed dropPass slotIndices :=
  foldl_eq_passed (fun l i => (s.passed dropPass l).dropClaimOne_eq i) slotIndices_nodup

/-- No item moves (R91). -/
theorem own_dropPass (l : List SlotIx) : dropPass.own s l = s.tx.own := by
  have hturned : dropPass.turned s l = id := funext fun item => by
    unfold SlotPass.turned
    split
    · cases s.slot item.slot <;> rfl
    · rfl
  have hwanted : dropPass.wanted s = fun _ => none := funext fun i => by
    unfold SlotPass.wanted
    split
    · rfl
    · cases s.slot i <;> rfl
  simp [SlotPass.own, hturned, hwanted]

/-- The claims newly marked join the change list in ascending slot index (R96, R174). -/
theorem changes_dropPass (l : List SlotIx) (changes : List ChangeRecord) : l.foldl (dropPass.mark s) changes =
    (l.filter fun i => (s.claimAt i).any fun c => decide (c.state ≠ .lost) && !c.reprobePending).foldl
      (fun changes i => addChange changes i 0x04) changes := by
  rw [List.foldl_filter]
  refine List.foldl_ext _ _ _ fun changes i _ => ?_
  unfold SlotPass.mark State.claimAt
  cases s.slot i with
  | none => rfl
  | some r =>
    cases r with
    | claim c =>
      change (if (Record.claim c).linkLostMarks = 0 then changes else addChange changes i (Record.claim c).linkLostMarks) =
        if decide (c.state ≠ .lost) && !c.reprobePending then addChange changes i 0x04 else changes
      by_cases h : (decide (c.state ≠ .lost) && !c.reprobePending) = true
      · have hmarks : (Record.claim c).linkLostMarks = 0x04 := if_pos h
        rw [hmarks, if_pos h]; rfl
      · have hmarks : (Record.claim c).linkLostMarks = 0 := if_neg h
        rw [hmarks, if_neg h]; rfl
    | responder _ | filter _ | stream _ | exchange _ => rfl

end Drop

/-! ## The drop (R158) -/

/-- What a line link drop changes besides the own-traffic queue, the records and the change list (R158). -/
def State.linkLost (s : State) : State :=
  { s with
    counters := { s.counters with
      answersDropped := bump32By s.counters.answersDropped (s.tx.carriedAnswers + s.tx.answers.length) }
    tx := { s.tx with linkUp := false, carried := none, answers := [] }
    stn := { s.stn with arriving := [], untaken := [], buffer := [] }
    cond := { s.cond with report := { s.cond.report with linkSteady := false } } }

/-- Counts of two groups of events are one count of both. -/
theorem bump32By_add (c : Count32) (m n : Nat) : bump32By (bump32By c m) n = bump32By c (m + n) := by
  induction m generalizing c with
  | zero => rw [Nat.zero_add]; rfl
  | succ m ih => rw [Nat.succ_add]; exact ih (bump32 c)

section Taken
variable {s : State}

/-- The frames on their way in are cut off as LINK falls, and the drop is taken in ACTIVE (R65, R158). -/
theorem exec_lineLinkDrop (hcan : s.canTake = true) (hlink : s.pins.link = true) :
    exec .lineLinkDrop s = .next (s.setPins { s.pins with link := false }).cutArriving.takeLinkDrop := by
  obtain ⟨hrun, hactive⟩ := State.canTake_iff.1 hcan
  let low := (s.setPins { s.pins with link := false }).cutArriving
  refine congrArg Host.Outcome.next ((if_pos hlink).trans ((if_pos (decide_eq_true hrun)).trans ?_))
  dsimp only
  rw [State.wake_of_active (s := low) hactive]
  exact State.takeOrDefer_of_active (s := low) hactive _ _

/-- A lending has no QUIESCE to end (R57). -/
theorem State.endQuiesce_of_lent (h : s.custody.state.lent = true) : s.endQuiesce = s :=
  if_neg fun hends => by rw [hends.1] at h; cases h

/-- The answers dropped and counted, and the station buffer emptied (R158). -/
def State.emptied (w : State) : State :=
  ((w.count (Counters.dropped w.tx.answers.length)).setTx { w.tx with answers := [] }).setStn
    { w.stn with arriving := [], untaken := [], buffer := [] }

/-- The link is steady no more (R176). -/
def State.unsteady (u : State) : State :=
  u.setCond { u.cond with report := { u.cond.report with linkSteady := false } }

theorem State.unsteady_setTraffic (o : List OwnItem) (v : Vector (Option Record) 128) (c : List ChangeRecord) :
    (s.setTraffic o v c).unsteady = s.unsteady.setTraffic o v c := rfl

theorem State.emptied_setTraffic (o : List OwnItem) (v : Vector (Option Record) 128) (c : List ChangeRecord) :
    (s.setTraffic o v c).emptied = s.emptied.setTraffic o v c := rfl

/-- What a drop loses besides, step by step (R158). -/
theorem State.linkLost_eq : s.linkLost = (((s.setTx { s.tx with linkUp := false }).setTx
    { s.tx with linkUp := false, carried := none }).count (Counters.dropped s.tx.carriedAnswers)).emptied.unsteady := by
  rw [State.linkLost, ← bump32By_add]
  simp only [State.emptied, State.unsteady, State.count, Counters.dropped, State.setTx, State.setStn, State.setCounters,
    State.setCond]

/-- The steps after the abort leave of the state what `linkLost` says, whatever becomes of the queue, the slots and the
change list. -/
theorem State.unsteady_eq_linkLost {w : State} (hw : w = (s.setTx { s.tx with linkUp := false }).abortCarried)
    (o : List OwnItem) (v : Vector (Option Record) 128) (c : List ChangeRecord) :
    (w.emptied.setTraffic o v c).unsteady = s.linkLost.setTraffic o v c := by
  rw [hw, State.abortCarried_blocks, State.emptied_setTraffic, State.setTraffic_setTraffic, State.unsteady_setTraffic,
    State.linkLost_eq]
  rfl

/-- A drop by its steps, with the carried frame's abort taken first (R158). -/
theorem State.takeLinkDrop_steps (hup : s.tx.linkUp = true) {w t : State}
    (hw : w = (s.setTx { s.tx with linkUp := false }).abortCarried)
    (ht : t = (if w.custody.state.lent then slotIndices.foldl State.dropClaimOne w.emptied else w.emptied).unsteady) :
    s.takeLinkDrop = (if t.custody.state.lent then t.raise .linkDown none else t).endQuiesce := by
  rw [ht, hw]
  exact if_pos hup

/-- While the table is lent: the carried item's abort, then the claims marked, then LINK_DOWN (R158). -/
theorem State.takeLinkDrop_lent (hup : s.tx.linkUp = true) (hl : s.custody.state.lent = true) {w : State}
    (hw : w = (s.setTx { s.tx with linkUp := false }).abortCarried) :
    ∃ u : State, s.takeLinkDrop =
        (s.linkLost.setTraffic u.tx.own u.table.slots u.cond.changes).raise .linkDown none ∧
      u.tx.own = w.tx.own ∧
      u.cond.changes = (slotIndices.filter fun i =>
        (w.claimAt i).any fun c => decide (c.state ≠ .lost) && !c.reprobePending).foldl
          (fun changes i => addChange changes i 0x04) w.cond.changes ∧
      ∀ i, u.slot i = (w.slot i).map Record.linkLost := by
  have hcustody : w.custody = s.custody := hw ▸ State.abortCarried_custody _
  have hmarked : (if w.custody.state.lent then slotIndices.foldl State.dropClaimOne w.emptied else w.emptied).unsteady =
      s.linkLost.setTraffic (dropPass.own w.emptied slotIndices)
        (w.emptied.passed dropPass slotIndices).table.slots
        (slotIndices.foldl (dropPass.mark w.emptied) w.emptied.cond.changes) := by
    rw [hcustody, hl, if_pos rfl, State.foldl_dropClaimOne]
    exact State.unsteady_eq_linkLost hw _ _ _
  have hdropped := State.takeLinkDrop_steps hup hw hmarked.symm
  have hl' : (s.linkLost.setTraffic (dropPass.own w.emptied slotIndices)
        (w.emptied.passed dropPass slotIndices).table.slots
        (slotIndices.foldl (dropPass.mark w.emptied) w.emptied.cond.changes)).custody.state.lent = true := hl
  have hraised := (State.raise_moves (.refl _) .linkDown none).lent hl'
  rw [if_pos hl'] at hdropped
  refine ⟨w.emptied.passed dropPass slotIndices, hdropped.trans ?_, own_dropPass w.emptied slotIndices,
    changes_dropPass w.emptied slotIndices w.cond.changes, fun i => State.slot_passed_slotIndices i⟩
  exact State.endQuiesce_of_lent hraised

/-- Outside a lending nothing of the part's own goes back to its queue, and QUIESCE ends (R57, R158). -/
theorem State.takeLinkDrop_not_lent (hup : s.tx.linkUp = true) (hl : s.custody.state.lent = false) :
    s.takeLinkDrop = s.linkLost.endQuiesce := by
  generalize hw : (s.setTx { s.tx with linkUp := false }).abortCarried = w
  have hcustody : w.custody = s.custody := hw ▸ State.abortCarried_custody _
  obtain ⟨hown, hchanges, htable⟩ := State.abortCarried_gone (s := s.setTx { s.tx with linkUp := false }) (.inl hl)
  rw [hw] at hown hchanges htable
  have hlost : (if w.custody.state.lent then slotIndices.foldl State.dropClaimOne w.emptied else w.emptied).unsteady =
      s.linkLost := by
    have hsteps := State.unsteady_eq_linkLost hw.symm w.tx.own w.table.slots w.cond.changes
    rw [hcustody, hl]
    refine Eq.trans hsteps ?_
    rw [hown, hchanges, htable]
    rfl
  have hl' : ¬ s.linkLost.custody.state.lent = true := by
    rw [show s.linkLost.custody = s.custody from rfl, hl]; decide
  rw [State.takeLinkDrop_steps hup hw.symm hlost.symm, if_neg hl']

end Taken

end Sys2Proof.Machine

open Sys2Proof Sys2Proof.Machine

/-- Settles O54: the abort of the carried frame gives the queue and the re-queued exchange, the pass over the claims their
marks, and the rest of the drop is the same in every custody state. -/
theorem lineLinkDropsByItsSteps : Obligations.LineLinkDropsByItsSteps := by
  intro s hcan hlink hup isAnswer cut dropped stands requeued
  let low := (s.setPins { s.pins with link := false }).cutArriving
  generalize hw : (low.setTx { low.tx with linkUp := false }).abortCarried = w
  have hexec : exec .lineLinkDrop s = .next low.takeLinkDrop := exec_lineLinkDrop hcan hlink
  have hdropped : ∀ u, low.linkLost.setTraffic u.tx.own u.table.slots u.cond.changes = dropped u := fun u => rfl
  have hkept : low.linkLost = dropped s := rfl
  rw [hexec]
  refine ⟨fun hl => ?_, fun hcustody => ?_, fun hcustody => ?_⟩
  · obtain ⟨u, htaken, hown, hchanges, hslot⟩ := State.takeLinkDrop_lent (s := low) hup hl hw.symm
    obtain ⟨hback, hkept, hmarked, hunmarked, hrecord⟩ :=
      State.abortCarried_lent (s := low.setTx { low.tx with linkUp := false }) hl
    have hclaims := State.claimAt_abortCarried (s := low.setTx { low.tx with linkUp := false }) hl
    rw [hw] at hback hkept hmarked hunmarked hrecord hclaims
    refine ⟨u, by rw [htaken, hdropped], fun item hitem => hown.trans (hback item hitem),
      fun hnone => hown.trans (hkept hnone), ⟨w.cond.changes, hmarked, hunmarked, ?_⟩, fun i => ?_⟩
    · rw [hchanges, funext hclaims]
      rfl
    · obtain ⟨hsent, hstays⟩ := hrecord i
      have hother : (∀ x, s.slot i ≠ some (.exchange x)) → u.slot i = (s.slot i).map Record.linkLost := fun hnot => by
        have hnone : ¬ requeued (.exchange i) := fun ⟨_, _, x, hx, _⟩ => hnot x ((s.exchangeAt_eq_some i x).1 hx)
        rw [hslot, hstays hnone]
        rfl
      refine ⟨fun c hc => ?_, fun x hx => ?_, fun hnoclaim hnoexchange => ?_⟩
      · have hclaim := (s.claimAt_eq_some i c).1 hc
        rw [State.claimAt_eq_some, hother (by rw [hclaim]; exact fun x => nofun), hclaim]
        rfl
      · have hexchange := (s.exchangeAt_eq_some i x).1 hx
        refine ⟨fun h => ?_, fun h => ?_⟩
        · rw [State.exchangeAt_eq_some, hslot, hsent h]
          change ((s.slot i).map Record.unsent).map Record.linkLost = _
          rw [hexchange]
          rfl
        · rw [State.exchangeAt_eq_some, hslot, hstays h]
          change (s.slot i).map Record.linkLost = _
          rw [hexchange]
          rfl
      · rw [hother fun x hx => by rw [(s.exchangeAt_eq_some i x).2 hx] at hnoexchange; cases hnoexchange]
        cases hr : s.slot i with
        | none => rfl
        | some r =>
          cases r with
          | claim c => rw [(s.claimAt_eq_some i c).2 hr] at hnoclaim; cases hnoclaim
          | _ => rfl
  · have hl : low.custody.state.lent = false := by
      change s.custody.state.lent = false
      rcases hcustody with h | h | h <;> rw [h] <;> rfl
    have hq : (dropped s).custody.state ≠ .quiesce := by
      change s.custody.state ≠ .quiesce
      rcases hcustody with h | h | h <;> rw [h] <;> exact nofun
    rw [State.takeLinkDrop_not_lent (s := low) hup hl, hkept]
    exact congrArg Host.Outcome.next (if_neg fun h => hq h.1)
  · have hl : low.custody.state.lent = false := by
      change s.custody.state.lent = false
      rw [hcustody]; rfl
    rw [State.takeLinkDrop_not_lent (s := low) hup hl, hkept]
    exact congrArg Host.Outcome.next (State.endQuiesce_ends hcustody rfl rfl)

end

section
/-! SUPPORT. A ready request of any kind, executed; what raising a condition changes, stage by stage; a change joining the
list (R166 to R169, R174). -/

namespace Sys2Proof.Machine

/-! ## A ready request, executed (R180, R181) -/

section Request
variable {s : State} {p : Port} {kind : RequestKind} {payload : List Byte}

theorem exec_requestOn (kind : RequestKind) (p : Port) (payload : List Byte) (s : State) :
    exec (requestOn kind p payload) s = .next (s.receive p kind payload) := by
  cases kind <;> rfl

/-- A ready request whose owner changes nothing is answered, and nothing else changes. -/
theorem exec_requestOn_kept {r : Response} (h : s.readyFor p kind) (hl : payload.length ≤ 1024)
    (hs : (s.working p).serve p kind payload = (s.working p, some r)) :
    exec (requestOn kind p payload) s = .next (s.answered p r) := by
  rw [exec_requestOn, State.receive_refused h hl hs]

/-- A ready request whose owner makes a change and answers at once. -/
theorem exec_requestOn_answered {s1 : State} {r : Response} (h : s.readyFor p kind) (hl : payload.length ≤ 1024)
    (hs : (s.working p).serve p kind payload = (s1, some r)) :
    exec (requestOn kind p payload) s = .next (s1.respond p r) := by
  rw [exec_requestOn, State.receive_answered h hl hs]

end Request

/-! ## The three stages of a condition (R166 to R169) -/

section Raise
variable (s : State) (on : Bool) (cls : ConditionClass) (slot : Option SlotIx)

/-- Retain under its flag: the cause list takes the cause or the further-cause count is raised, and the slot is marked
(R167). -/
theorem State.retainIf_eq : (if on then s.retainCondition cls slot else s) =
    s.setCond { s.cond with
      changes :=
        match slot with
        | some i => if on then addChange s.cond.changes i markState else s.cond.changes
        | none => s.cond.changes
      report := { s.cond.report with
        causes :=
          if on = true ∧ s.cond.report.causes.length < 8 then
            s.cond.report.causes ++ [{ cls, slot, time := s.clk.partTime }]
          else s.cond.report.causes
        further :=
          if on = true ∧ 8 ≤ s.cond.report.causes.length then bump32 s.cond.report.further
          else s.cond.report.further } } := by
  cases on with
  | false => cases slot <;> rfl
  | true =>
    by_cases hroom : s.cond.report.causes.length < 8
    · have hfull : ¬ 8 ≤ s.cond.report.causes.length := Nat.not_le.2 hroom
      cases slot <;> simp [State.retainCondition, Config.causePlaces, State.report, markState, hroom, hfull]
    · have hfull : 8 ≤ s.cond.report.causes.length := Nat.not_lt.1 hroom
      cases slot <;> simp [State.retainCondition, Config.causePlaces, State.report, markState, hroom, hfull]

/-- Rouse under its flag, where it finds PROXY (R51, R52, R168). -/
theorem State.rouseIf_eq : (if on then s.rouseFor cls slot else s) =
    (s.setCustody (if on && decide (s.custody.state = .proxy) then { s.custody with state := .roused, wake := true }
        else s.custody)).setCond { s.cond with
      report := { s.cond.report with
        roused := if on && decide (s.custody.state = .proxy) then true else s.cond.report.roused
        firstCause :=
          if on && decide (s.custody.state = .proxy) then some { cls, slot, time := s.clk.partTime }
          else s.cond.report.firstCause
        snapshot := if on && decide (s.custody.state = .proxy) then s.counters else s.cond.report.snapshot } } := by
  cases on with
  | false => rfl
  | true =>
    by_cases hproxy : s.custody.state = .proxy
    · simp [State.rouseFor, hproxy]
    · simp only [State.rouseFor, hproxy, decide_false, Bool.and_false, Bool.false_eq_true, if_false, if_true]
      rfl

/-- Notify under its flag (R169). -/
theorem State.notifyIf_eq : (if on then s.notifyOf cls else s) =
    s.setCond { s.cond with notices := if on then s.cond.notices ||| (1#12 <<< cls.code) else s.cond.notices } := by
  cases on <;> rfl

end Raise

/-! ## A change joins the list (R174) -/

theorem addChange_new {l : List ChangeRecord} {i : SlotIx} (h : ∀ c ∈ l, c.slot ≠ i) (marks : BitVec 8) :
    addChange l i marks = l ++ [{ slot := i, marks }] := by
  induction l with
  | nil => rfl
  | cons c rest ih =>
    obtain ⟨hc, hrest⟩ := List.forall_mem_cons.1 h
    simp [addChange, hc, ih hrest]

theorem addChange_present {before : List ChangeRecord} {i : SlotIx} (h : ∀ c ∈ before, c.slot ≠ i)
    (old marks : BitVec 8) (after : List ChangeRecord) :
    addChange (before ++ { slot := i, marks := old } :: after) i marks =
      before ++ { slot := i, marks := old ||| marks } :: after := by
  induction before with
  | nil => simp [addChange]
  | cons c rest ih =>
    obtain ⟨hc, hrest⟩ := List.forall_mem_cons.1 h
    simp [addChange, hc, ih hrest]

end Sys2Proof.Machine

open Sys2Proof Sys2Proof.Machine

/-- Settles O34: a condition is its three stages, each the record update of its own rule under its flag. -/
theorem conditionFollowsItsFlags : Obligations.ConditionFollowsItsFlags := by
  refine ⟨fun s cls slot => ?_, fun l i marks => ⟨fun h => addChange_new h marks, ?_⟩⟩
  · unfold State.raise flagAt
    dsimp only
    rw [State.retainIf_eq, State.rouseIf_eq, State.notifyIf_eq]
    rfl
  · rintro before old after rfl hbefore
    exact addChange_present hbefore old marks after

end

section
/-! SUPPORT. The pictures READ_STATUS, READ_REPORT and READ_CHANGES answer, in plain bytes, and the checks of the three
requests (R169, R175, R177, R178). -/

namespace Sys2Proof.Machine

section Pictures
variable {s : State} {p : Port} {payload : List Byte}

theorem beBytes_ofNat_toNat (b : Byte) : beBytes 1 b.toNat = [b] := by rw [beBytes_one, BitVec.ofNat_toNat, BitVec.setWidth_eq]

@[simp] theorem Counters.bytes_length (c : Counters) : c.bytes.length = 28 := by simp [Counters.bytes]

@[simp] theorem headCauseBytes_length (l : List HeldEntry) : (headCauseBytes l).length = 2 := by
  unfold headCauseBytes
  split
  · rfl
  · split <;> simp

/-- The status picture has 58 bytes (R178). -/
theorem State.statusBytes_length (s : State) : s.statusBytes.length = 58 := by simp [State.statusBytes, noticeBytes]

@[simp] theorem Cause.bytes_length (c : Cause) : c.bytes.length = 6 := by
  cases h : c.slot <;> simp [Cause.bytes, slotByte, linkBytes, h]

@[simp] theorem firstCauseBytes_length (c : Option Cause) : (firstCauseBytes c).length = 7 := by
  cases c <;> simp [firstCauseBytes]

/-- The wake report has 45 bytes and 6 for each cause (R177). -/
theorem State.reportBytes_length (s : State) : s.reportBytes.length = 45 + 6 * s.cond.report.causes.length := by
  simp [State.reportBytes, noticeBytes, List.length_flatMap]
  omega

/-- The lend count and the list count, which lead every READ_CHANGES answer (R175). -/
def State.changesLead (s : State) : List Byte :=
  beBytes 4 s.cond.lendCount.toNat ++ [BitVec.ofNat 8 s.cond.changes.length]

/-! ## A request received leaves the pictures -/

@[simp] theorem State.working_cond (s : State) (p : Port) : (s.working p).cond = s.cond := by simp [State.working]

theorem State.working_statusBytes (s : State) (p : Port) : (s.working p).statusBytes = s.statusBytes := by
  cases p <;> rfl

theorem State.working_reportBytes (s : State) (p : Port) : (s.working p).reportBytes = s.reportBytes := by
  cases p <;> rfl

theorem State.working_changesLead (s : State) (p : Port) : (s.working p).changesLead = s.changesLead := by
  cases p <;> rfl

/-- The notices cleared while a request waits for its answer. -/
theorem State.setCond_working_respond (s : State) (p : Port) (x : ConditionUnit) (r : Response) :
    ((s.working p).setCond x).respond p r = (s.setCond x).answered p r := by cases p <;> rfl

/-! ## The checks of the three requests -/

theorem State.serveReadStatus_picture :
    s.serveReadStatus p [] = (s, { result := .done, payload := s.statusBytes }) := by
  simp [State.serveReadStatus]

theorem State.serveReadStatus_malformed (h : payload ≠ []) : s.serveReadStatus p payload = (s, .bare .malformed) := by
  simp [State.serveReadStatus, h]

theorem State.serveReadReport_system :
    s.serveReadReport .system [] = (s, { result := .done, payload := s.reportBytes }) := by
  simp [State.serveReadReport]

theorem State.serveReadReport_platform : s.serveReadReport .platform [] =
    (s.setCond { s.cond with notices := 0 }, { result := .done, payload := s.reportBytes }) := by
  simp [State.serveReadReport]

theorem State.serveReadReport_malformed (h : payload ≠ []) : s.serveReadReport p payload = (s, .bare .malformed) := by
  simp [State.serveReadReport, h]

theorem State.serveReadChanges_record {position : Byte} {c : ChangeRecord} (h : position.toNat ≤ 127)
    (hc : s.cond.changes[position.toNat]? = some c) : s.serveReadChanges p [position] =
      (s, { result := .done
            payload := s.changesLead ++ [BitVec.ofNat 8 c.slot.val, c.marks] ++ slotImage c.slot (s.slot c.slot) }) := by
  simp only [State.serveReadChanges, gt_iff_lt, Nat.not_lt.2 h, if_false, hc, beBytes_ofNat_toNat, beBytes_one c.slot.val]
  simp [State.changesLead, beBytes_one]

theorem State.serveReadChanges_past {position : Byte} (h : position.toNat ≤ 127)
    (hc : s.cond.changes.length ≤ position.toNat) :
    s.serveReadChanges p [position] = (s, { result := .done, payload := s.changesLead }) := by
  simp only [State.serveReadChanges, gt_iff_lt, Nat.not_lt.2 h, if_false, List.getElem?_eq_none hc, beBytes_one]
  rfl

theorem State.serveReadChanges_outOfRange {position : Byte} (h : 127 < position.toNat) :
    s.serveReadChanges p [position] = (s, .bare .outOfRange) := by
  simp [State.serveReadChanges, h]

theorem State.serveReadChanges_malformed (h : payload.length ≠ 1) :
    s.serveReadChanges p payload = (s, .bare .malformed) := by
  unfold State.serveReadChanges
  split
  · exact absurd rfl h
  · rfl

end Pictures

end Sys2Proof.Machine

open Sys2Proof Sys2Proof.Machine

/-- Settles O35: the picture spelled out is the model's, field by field, and a ready request is answered with it. -/
theorem readStatusShowsThePicture : Obligations.ReadStatusShowsThePicture := by
  intro p s hready head n custody picture
  have hcustody : beBytes 1 s.custody.state.code = [custody] := by
    simp only [custody]
    cases s.custody.state <;> rfl
  have hhead : headCauseBytes s.held.entries = head := by
    rcases hentries : s.held.entries with _ | ⟨⟨f, _ | ⟨cls, i⟩⟩, rest⟩ <;>
      simp [head, headCauseBytes, beBytes_one, hentries]
  have hpicture : s.statusBytes = picture := by
    simp only [State.statusBytes, hcustody, hhead, beBytes_one, noticeBytes, State.attn, Counters.bytes, picture, n,
      List.flatMap_cons, List.flatMap_nil, List.append_assoc, List.cons_append, List.nil_append, List.append_nil]
  have told : ∀ {payload r}, payload.length ≤ 1024 → (s.working p).serveReadStatus p payload = (s.working p, r) →
      exec (.readStatus p payload) s = .next (s.answered p r) := fun hl hx =>
    exec_requestOn_kept (kind := .readStatus) hready hl (congrArg answered hx)
  refine ⟨hpicture ▸ s.statusBytes_length, told (Nat.zero_le _) ?_, fun payload hl hne => ?_⟩
  · rw [State.serveReadStatus_picture, State.working_statusBytes, hpicture]
  · exact told hl (State.serveReadStatus_malformed hne)

/-- Settles O36: the report spelled out is the model's, cause by cause, and each check of the two requests is one answer of
its owner. -/
theorem reportAndChangesAreRead : Obligations.ReportAndChangesAreRead := by
  intro p s r causeBytes report lead
  have hcause : Cause.bytes = causeBytes := funext fun c => by
    cases hc : c.slot <;> simp [Cause.bytes, slotByte, linkBytes, beBytes_one, causeBytes, hc]
  have hreport : s.reportBytes = report := by
    simp only [State.reportBytes, hcause, beBytes_one, noticeBytes, report, r]
    cases s.cond.report.firstCause with
    | none => simp [firstCauseBytes, beBytes, flagByte]
    | some c => simp [firstCauseBytes, hcause, flagByte]
  have changes : ∀ {payload x}, s.readyFor p .readChanges → payload.length ≤ 1024 →
      (s.working p).serveReadChanges p payload = (s.working p, x) →
      exec (.readChanges p payload) s = .next (s.answered p x) := fun hready hl hx =>
    exec_requestOn_kept (kind := .readChanges) hready hl (congrArg answered hx)
  refine ⟨hreport ▸ s.reportBytes_length, fun hready => ⟨?_, ?_, fun payload hl hne => ?_⟩, fun hready =>
    ⟨fun position hpos => ⟨fun c hc => ?_, fun hpast => ?_⟩, fun position hpos => ?_, fun payload hl hlen => ?_⟩⟩
  · rintro rfl
    have hserve := (s.working .platform).serveReadReport_platform
    rw [State.working_cond, State.working_reportBytes, hreport] at hserve
    exact (exec_requestOn_answered (kind := .readReport) hready (Nat.zero_le _) (congrArg answered hserve)).trans
      (congrArg Host.Outcome.next (s.setCond_working_respond .platform _ _))
  · rintro rfl
    have hserve := (s.working .system).serveReadReport_system
    rw [State.working_reportBytes, hreport] at hserve
    exact exec_requestOn_kept (kind := .readReport) hready (Nat.zero_le _) (congrArg answered hserve)
  · exact exec_requestOn_kept (kind := .readReport) hready hl (congrArg answered (State.serveReadReport_malformed hne))
  · have hserve := State.serveReadChanges_record (s := s.working p) (p := p) hpos (by rwa [State.working_cond])
    rw [State.working_slot, State.working_changesLead] at hserve
    exact changes hready (by simp) hserve
  · have hserve := State.serveReadChanges_past (s := s.working p) (p := p) hpos (by rwa [State.working_cond])
    rw [State.working_changesLead] at hserve
    exact changes hready (by simp) hserve
  · exact changes hready (by simp) (State.serveReadChanges_outOfRange hpos)
  · exact changes hready hl (State.serveReadChanges_malformed hlen)

end

section
/-! SUPPORT. The policy items by their codes, the checks of SET_POLICY and GET_POLICY in their order, and what a store and
a read of each item are (R165, R170 to R173). -/

namespace Sys2Proof.Machine

/-! ## Class codes and flag words (R165) -/

theorem ConditionClass.code_le (cls : ConditionClass) : cls.code ≤ 11 := by cases cls <;> decide

theorem ConditionClass.code_injective : Function.Injective ConditionClass.code :=
  Function.LeftInverse.injective (g := ConditionClass.ofNat) fun cls => by cases cls <;> rfl

theorem ConditionClass.toNat_code (cls : ConditionClass) : (BitVec.ofNat 8 cls.code).toNat = cls.code := by
  cases cls <;> rfl

/-- One flag written: it reads as written, every other flag as before. -/
theorem withFlag_getLsbD (flags : BitVec 12) (on : Bool) (cls other : ConditionClass) :
    (withFlag flags cls.code on).getLsbD other.code = if other = cls then on else flags.getLsbD other.code := by
  have hbit : (1#12 <<< cls.code).getLsbD other.code = decide (other = cls) := by
    rw [← BitVec.twoPow_eq, BitVec.getLsbD_twoPow, decide_eq_true (Nat.lt_succ_of_le cls.code_le), Bool.true_and]
    exact decide_eq_decide.2 (eq_comm.trans ConditionClass.code_injective.eq_iff)
  have hlt : decide (other.code < 12) = true := decide_eq_true (Nat.lt_succ_of_le other.code_le)
  unfold withFlag
  cases on with
  | false =>
    rw [if_neg Bool.false_ne_true, BitVec.getLsbD_and, BitVec.getLsbD_not, hbit, hlt]
    by_cases h : other = cls <;> simp [h]
  | true =>
    rw [if_pos rfl, BitVec.getLsbD_or, hbit]
    by_cases h : other = cls <;> simp [h]

/-! ## The items by their codes (R170) -/

/-- An item's code in R170's table. -/
def PolicyItem.code : PolicyItem → Nat
  | .retain => 1
  | .rouse => 2
  | .notify => 3
  | .stationAddress => 4
  | .conflictWatch => 5
  | .floodEnable => 6
  | .windowLength => 7
  | .highMark => 8
  | .lowMark => 9
  | .debounce => 10
  | .disposition => 11
  | .dozeEnable => 12

theorem policyItem_eq_some_iff {code : Byte} {item : PolicyItem} : policyItem code = some item ↔ code.toNat = item.code := by
  constructor
  · intro h
    unfold policyItem at h
    split at h <;> cases h <;> assumption
  · intro h
    unfold policyItem
    rw [h]
    cases item <;> rfl

theorem PolicyItem.code_bounds (item : PolicyItem) : 1 ≤ item.code ∧ item.code ≤ 12 := by cases item <;> decide

theorem policyItem_eq_none {code : Byte} (h : code.toNat = 0 ∨ 12 < code.toNat) : policyItem code = none :=
  Option.eq_none_iff_forall_ne_some.2 fun item hitem => by
    have hcode := policyItem_eq_some_iff.1 hitem
    have hbounds := item.code_bounds
    omega

theorem policyItem_of_bounds {code : Byte} (h1 : 1 ≤ code.toNat) (h12 : code.toNat ≤ 12) :
    ∃ item, policyItem code = some item := by
  unfold policyItem
  interval_cases code.toNat <;> exact ⟨_, rfl⟩

theorem PolicyItem.isFlag_iff (item : PolicyItem) : item.isFlag = true ↔ item.code ≤ 3 := by cases item <;> decide

theorem PolicyItem.width_of_flag (item : PolicyItem) (h : item.code ≤ 3) : item.width = 1 := by
  cases item <;> simp [PolicyItem.code, PolicyItem.width] at h ⊢

theorem PolicyItem.platformMay_iff (item : PolicyItem) : item.platformMay = true ↔ item.code = 2 ∨ item.code = 3 := by
  cases item <;> decide

/-- The values step 6 of R172 refuses. -/
theorem PolicyItem.refusesValue_iff (item : PolicyItem) (v : Nat) : item.refusesValue v = true ↔
    (item.code ∈ [1, 2, 3, 5, 6, 12] ∧ 1 < v) ∨ (item.code = 11 ∧ 2 < v) := by
  cases item <;> simp [PolicyItem.refusesValue, PolicyItem.code]

/-! ## Steps 1 to 3 of R172 -/

/-- A port may reach an item (R170). -/
def PolicyItem.mayReach (item : PolicyItem) (p : Port) : Prop := p = .system ∨ item.code = 2 ∨ item.code = 3

/-- An index byte an item takes: a class code for a condition flag, 0 for another item (R170). -/
def PolicyItem.takesIndex (item : PolicyItem) (index : Byte) : Prop :=
  (item.code ≤ 3 ∧ index.toNat ≤ 11) ∨ (3 < item.code ∧ index = 0)

section Address
variable {p : Port} {code index : Byte} {rest payload : List Byte} {item : PolicyItem}

theorem policyAddress_short (h : payload.length < 2) : policyAddress p payload = .error .malformed := by
  unfold policyAddress
  split
  · simp at h
  · rfl

theorem policyAddress_unknown (h : policyItem code = none) :
    policyAddress p (code :: index :: rest) = .error .malformed := by
  simp [policyAddress, h]

theorem policyAddress_notPermitted (h : policyItem code = some item) (hport : ¬ item.mayReach p) :
    policyAddress p (code :: index :: rest) = .error .notPermitted := by
  have hplatform : p = .platform := by cases p with
    | system => exact absurd (.inl rfl) hport
    | platform => rfl
  have hmay : item.platformMay = false := Bool.eq_false_iff.2 fun hmay => hport (.inr (item.platformMay_iff.1 hmay))
  simp [policyAddress, h, hplatform, hmay]

theorem PolicyItem.mayReach.permitted (hport : item.mayReach p) : ¬ (p = .platform ∧ item.platformMay = false) := by
  rintro ⟨rfl, hmay⟩
  rcases hport with hport | hport
  · cases hport
  · rw [item.platformMay_iff.2 hport] at hmay; cases hmay

theorem policyAddress_outOfRange (h : policyItem code = some item) (hport : item.mayReach p) (hflag : item.code ≤ 3)
    (hindex : 11 < index.toNat) : policyAddress p (code :: index :: rest) = .error .outOfRange := by
  simp [policyAddress, h, hport.permitted, item.isFlag_iff.2 hflag, hindex]

theorem policyAddress_indexed (h : policyItem code = some item) (hport : item.mayReach p) (hitem : 3 < item.code)
    (hindex : index ≠ 0) : policyAddress p (code :: index :: rest) = .error .malformed := by
  have hflag : item.isFlag = false := Bool.eq_false_iff.2 fun hflag => absurd (item.isFlag_iff.1 hflag) (by omega)
  simp only [policyAddress, h, if_neg hport.permitted, hflag, Bool.false_eq_true, if_false, if_pos hindex]

theorem policyAddress_ok (h : policyItem code = some item) (hport : item.mayReach p) (hindex : item.takesIndex index) :
    policyAddress p (code :: index :: rest) = .ok (item, index.toNat) := by
  simp only [policyAddress, h, if_neg hport.permitted]
  rcases hindex with ⟨hflag, hindex⟩ | ⟨hitem, rfl⟩
  · rw [if_pos (item.isFlag_iff.2 hflag), if_neg (Nat.not_lt.2 hindex)]
  · rw [if_neg (mt item.isFlag_iff.1 (Nat.not_le.2 hitem)), if_neg (not_not.2 rfl)]

end Address

/-! ## The two requests check by check (R172, R173) -/

section Policy
variable {s : State} {p : Port} {code index : Byte} {value rest payload : List Byte} {item : PolicyItem} {i : Nat}

theorem State.serveSetPolicy_error {e : Result} (h : policyAddress p payload = .error e) :
    s.serveSetPolicy p payload = (s, .bare e) := by
  simp [State.serveSetPolicy, h]

/-- Steps 4 to 6 of R172 and the store, of an item reached. -/
theorem State.serveSetPolicy_reached (h : policyAddress p (code :: index :: value) = .ok (item, i)) :
    s.serveSetPolicy p (code :: index :: value) =
      if value.length ≠ item.width then (s, .bare .malformed)
      else if 3 < item.code ∧ s.custody.state ≠ .home then (s, .bare .wrongState)
      else if item.refusesValue (natOfBytes value) then (s, .bare .malformed)
      else (s.storePolicy item i (natOfBytes value), .bare .done) := by
  have hlength : (code :: index :: value).length = 2 + value.length := by simp only [List.length_cons]; omega
  have hflag : item.isFlag = false ↔ 3 < item.code := by
    rw [← Bool.not_eq_true, item.isFlag_iff, Nat.not_le]
  simp only [State.serveSetPolicy, h, hlength, hflag, ne_eq, Nat.add_left_cancel_iff,
    List.drop_succ_cons, List.drop_zero]

theorem State.serveGetPolicy_error {e : Result} (h : policyAddress p payload = .error e) :
    s.serveGetPolicy p payload = (s, .bare e) := by
  simp [State.serveGetPolicy, h]

theorem State.serveGetPolicy_long (h : policyAddress p (code :: index :: rest) = .ok (item, i)) (hrest : rest ≠ []) :
    s.serveGetPolicy p (code :: index :: rest) = (s, .bare .malformed) := by
  simp [State.serveGetPolicy, h, hrest]

theorem State.serveGetPolicy_value (h : policyAddress p [code, index] = .ok (item, i)) :
    s.serveGetPolicy p [code, index] = (s, { result := .done, payload := s.policyValue item i }) := by
  simp [State.serveGetPolicy, h]

/-! ## The two requests of a ready port -/

/-- An item stored while a request waits for its answer. -/
theorem State.storePolicy_working_respond (s : State) (p : Port) (item : PolicyItem) (i v : Nat) (r : Response) :
    ((s.working p).storePolicy item i v).respond p r = (s.storePolicy item i v).answered p r := by
  cases p <;> cases item <;> rfl

/-- A SET_POLICY that meets no failing check stores its value (R172). -/
theorem exec_setPolicy_stored (hready : s.readyFor p .setPolicy) (hitem : policyItem code = some item)
    (hport : item.mayReach p) (hindex : item.takesIndex index) (hwidth : value.length = item.width)
    (hcustody : item.code ≤ 3 ∨ s.custody.state = .home) (hvalue : item.refusesValue (natOfBytes value) = false) :
    exec (.setPolicy p (code :: index :: value)) s =
      .next ((s.storePolicy item index.toNat (natOfBytes value)).answered p { result := .done, payload := [] }) := by
  have hl : (code :: index :: value).length ≤ 1024 := by
    have hsmall : item.width ≤ 6 := by cases item <;> decide
    simp only [List.length_cons]
    omega
  have hserve := State.serveSetPolicy_reached (s := s.working p) (policyAddress_ok (rest := value) hitem hport hindex)
  rw [if_neg (not_not.2 hwidth), (s.working_frame p).2.1,
    if_neg fun ⟨hcode, hne⟩ => hcustody.elim (Nat.not_le.2 hcode) hne, if_neg (by rw [hvalue]; decide)] at hserve
  exact (exec_requestOn_answered (kind := .setPolicy) hready hl (congrArg answered hserve)).trans
    (congrArg Host.Outcome.next (s.storePolicy_working_respond p item _ _ _))

/-- A condition flag is stored in every custody state, rouse and notify from either port (R172). -/
theorem exec_setPolicy_flag (hready : s.readyFor p .setPolicy) (hitem : policyItem code = some item)
    (hport : item.mayReach p) (hflag : item.code ≤ 3) (cls : ConditionClass) (on : Bool) :
    exec (.setPolicy p [code, BitVec.ofNat 8 cls.code, flagByte on]) s =
      .next ((s.storePolicy item cls.code on.toNat).answered p { result := .done, payload := [] }) := by
  have hnat : natOfBytes [flagByte on] = on.toNat := by cases on <;> rfl
  have hvalue : item.refusesValue on.toNat = false := Bool.eq_false_iff.2 fun h => by
    have hle := on.toNat_le
    rcases (item.refusesValue_iff _).1 h with ⟨-, hv⟩ | ⟨-, hv⟩ <;> omega
  have hstored := exec_setPolicy_stored (value := [flagByte on]) hready hitem hport
    (.inl ⟨hflag, cls.toNat_code.trans_le cls.code_le⟩) (item.width_of_flag hflag).symm (.inl hflag) (by rwa [hnat])
  rwa [cls.toNat_code, hnat] at hstored

/-- Another item is stored from the system port in HOME (R172). -/
theorem exec_setPolicy_item (hready : s.readyFor .system .setPolicy) (hhome : s.custody.state = .home)
    (hitem : policyItem code = some item) (hcode : 3 < item.code) {v : Nat} (hv : v < 256 ^ item.width)
    (hvalue : item.refusesValue v = false) :
    exec (.setPolicy .system ([code, 0] ++ beBytes item.width v)) s =
      .next ((s.storePolicy item 0 v).answered .system { result := .done, payload := [] }) := by
  have hstored := exec_setPolicy_stored (value := beBytes item.width v) hready hitem (.inl rfl) (.inr ⟨hcode, rfl⟩)
    (beBytes_length _ _) (.inr hhome) (by rwa [natOfBytes_beBytes _ _ hv])
  rwa [natOfBytes_beBytes _ _ hv] at hstored

/-- An item of one byte is stored from the system port in HOME (R172). -/
theorem exec_setPolicy_byte (hready : s.readyFor .system .setPolicy) (hhome : s.custody.state = .home)
    (hitem : policyItem code = some item) (hcode : 3 < item.code) (hwidth : item.width = 1) (v : Byte)
    (hvalue : item.refusesValue v.toNat = false) :
    exec (.setPolicy .system [code, 0, v]) s =
      .next ((s.storePolicy item 0 v.toNat).answered .system { result := .done, payload := [] }) := by
  have hset := exec_setPolicy_item hready hhome hitem hcode (by rw [hwidth]; exact v.isLt) hvalue
  rwa [hwidth, beBytes_ofNat_toNat] at hset

theorem State.working_policyValue (s : State) (p : Port) (item : PolicyItem) (i : Nat) :
    (s.working p).policyValue item i = s.policyValue item i := by
  cases p <;> cases item <;> rfl

theorem exec_getPolicy_kept {r : Response} (hready : s.readyFor p .getPolicy) (hl : payload.length ≤ 1024)
    (h : (s.working p).serveGetPolicy p payload = (s.working p, r)) :
    exec (.getPolicy p payload) s = .next (s.answered p r) :=
  exec_requestOn_kept (kind := .getPolicy) hready hl (congrArg answered h)

/-- GET_POLICY of an item a port may reach, in every custody state (R173). -/
theorem exec_getPolicy_value (hready : s.readyFor p .getPolicy) (hitem : policyItem code = some item)
    (hport : item.mayReach p) (hindex : item.takesIndex index) : exec (.getPolicy p [code, index]) s =
      .next (s.answered p { result := .done, payload := s.policyValue item index.toNat }) := by
  have hserve := State.serveGetPolicy_value (s := s.working p) (policyAddress_ok (rest := []) hitem hport hindex)
  rw [State.working_policyValue] at hserve
  exact exec_getPolicy_kept hready (by simp) hserve

/-- GET_POLICY of a condition flag (R173). -/
theorem exec_getPolicy_flag (hready : s.readyFor p .getPolicy) (hitem : policyItem code = some item)
    (hport : item.mayReach p) (hflag : item.code ≤ 3) (cls : ConditionClass) :
    exec (.getPolicy p [code, BitVec.ofNat 8 cls.code]) s =
      .next (s.answered p { result := .done, payload := s.policyValue item cls.code }) := by
  have hvalue := exec_getPolicy_value hready hitem hport (.inl ⟨hflag, cls.toNat_code.trans_le cls.code_le⟩)
  rwa [cls.toNat_code] at hvalue

end Policy

end Sys2Proof.Machine

open Sys2Proof Sys2Proof.Machine

/-- Settles O32: each check is one answer of the policy's owner, and a ready request is answered with it. -/
theorem setPolicyIsChecked : Obligations.SetPolicyIsChecked := by
  intro p payload s hl hready refused
  have checked : ∀ {e}, (s.working p).serveSetPolicy p payload = (s.working p, .bare e) → refused e := fun h =>
    exec_requestOn_kept (kind := .setPolicy) hready hl (congrArg answered h)
  have unreached : ∀ {e}, policyAddress p payload = .error e → refused e := fun h =>
    checked (State.serveSetPolicy_error h)
  refine ⟨fun h => unreached (policyAddress_short h), ?_⟩
  rintro code index value rfl
  refine ⟨fun h => unreached (policyAddress_unknown (policyItem_eq_none h)), fun item hitem => ?_⟩
  rw [policyItem_eq_some_iff.1 hitem]
  refine ⟨fun hplatform h2 h3 => unreached (policyAddress_notPermitted hitem ?_), fun hport =>
    ⟨fun hflag hindex => unreached (policyAddress_outOfRange hitem hport hflag hindex),
      fun hcode hindex => unreached (policyAddress_indexed hitem hport hcode hindex), fun hindex => ?_⟩⟩
  · rintro (hsystem | hcode | hcode)
    · cases hplatform.symm.trans hsystem
    · exact h2 hcode
    · exact h3 hcode
  · have hserve := State.serveSetPolicy_reached (s := s.working p) (policyAddress_ok (rest := value) hitem hport hindex)
    refine ⟨fun hwidth => checked (hserve.trans (if_pos hwidth)), fun hwidth => ?_⟩
    rw [if_neg (not_not.2 hwidth), (s.working_frame p).2.1] at hserve
    refine ⟨fun hcode hne => checked (hserve.trans (if_pos ⟨hcode, hne⟩)), fun hcustody => ?_⟩
    rw [if_neg fun ⟨hcode, hne⟩ => hcustody.elim (Nat.not_le.2 hcode) hne] at hserve
    have invalid : item.refusesValue (natOfBytes value) = true → refused .malformed := fun h =>
      checked (hserve.trans (if_pos h))
    exact ⟨fun hcode hv => invalid ((item.refusesValue_iff _).2 (.inl ⟨hcode, hv⟩)),
      fun hcode hv => invalid ((item.refusesValue_iff _).2 (.inr ⟨hcode, hv⟩))⟩

/-- Settles O33: the value of every item that is reached, and each check as one answer of the policy's owner. -/
theorem getPolicyReturnsTheItem : Obligations.GetPolicyReturnsTheItem := by
  intro p s hready gives refused
  have unreached : ∀ {request e}, request.length ≤ 1024 → policyAddress p request = .error e → refused request e :=
    fun hl h => exec_getPolicy_kept hready hl (State.serveGetPolicy_error h)
  refine ⟨fun cls => ⟨fun hp => ?_, ?_, ?_⟩, fun hp => ?_, fun request hshort => ?_, fun code index rest hrest => ?_⟩
  · exact exec_getPolicy_flag (item := .retain) hready rfl (.inl hp) (by decide) cls
  · exact exec_getPolicy_flag (item := .rouse) hready rfl (.inr (.inl rfl)) (by decide) cls
  · exact exec_getPolicy_flag (item := .notify) hready rfl (.inr (.inr rfl)) (by decide) cls
  · have value : ∀ {code item}, policyItem code = some item → 3 < item.code → gives [code, 0] (s.policyValue item 0) :=
      fun hitem hcode => exec_getPolicy_value hready hitem (.inl hp) (.inr ⟨hcode, rfl⟩)
    have hdisposition : s.policyValue .disposition 0 =
        [match s.policy.disposition with | .discard => 0 | .hold => 1 | .inspect => 2] := by
      change beBytes 1 s.policy.disposition.code = _
      cases s.policy.disposition <;> rfl
    exact ⟨value (item := .stationAddress) rfl (by decide), value (item := .conflictWatch) rfl (by decide),
      value (item := .floodEnable) rfl (by decide), value (item := .windowLength) rfl (by decide),
      value (item := .highMark) rfl (by decide), value (item := .lowMark) rfl (by decide),
      value (item := .debounce) rfl (by decide), hdisposition ▸ value (item := .disposition) rfl (by decide),
      value (item := .dozeEnable) rfl (by decide)⟩
  · exact unreached (by omega) (policyAddress_short hshort)
  · intro request mayAsk
    have hl : request.length ≤ 1024 := Nat.add_le_add_right hrest 2
    refine ⟨fun h => unreached hl (policyAddress_unknown (policyItem_eq_none h)), fun h1 h12 => ?_⟩
    obtain ⟨item, hitem⟩ := policyItem_of_bounds h1 h12
    have hcode := policyItem_eq_some_iff.1 hitem
    simp only [mayAsk, hcode]
    exact ⟨fun hport => unreached hl (policyAddress_notPermitted hitem hport),
      fun hport hflag hindex => unreached hl (policyAddress_outOfRange hitem hport hflag hindex),
      fun hport hother hindex => unreached hl (policyAddress_indexed hitem hport hother hindex),
      fun hport hindex hne => exec_getPolicy_kept hready hl
        (State.serveGetPolicy_long (policyAddress_ok hitem hport hindex) hne)⟩

/-- Settles O31: one flag of a flag word written, and the other items stored one by one with R17's form of their clamps. -/
theorem setPolicyStoresTheItem : Obligations.SetPolicyStoresTheItem := by
  unfold Obligations.SetPolicyStoresTheItem
  intro classes
  have hcodes : ∀ row ∈ classes, row.1.code = row.2 := by decide
  refine ⟨hcodes, fun cls => by cases cls <;> decide, fun s => ?_⟩
  intro done
  refine ⟨fun p on hready row hrow => ?_,
    fun hready hhome => ⟨fun a => ?_, fun on => ?_, fun v hv => ?_, fun v => ?_, fun d => ?_⟩⟩
  · intro stored
    have written : ∀ old, stored old (withFlag old row.1.code (decide (on.toNat = 1))) := fun old other hother => by
      have hon : decide (on.toNat = 1) = on := by cases on <;> rfl
      rw [← hcodes other hother, withFlag_getLsbD, hon]
    have set : ∀ {code item}, policyItem code = some item → item.mayReach p → item.code ≤ 3 →
        exec (.setPolicy p [code, BitVec.ofNat 8 row.2, flagByte on]) s =
          .next ((s.storePolicy item row.1.code on.toNat).answered p done) := fun hitem hport hflag =>
      hcodes row hrow ▸ exec_setPolicy_flag hready hitem hport hflag row.1 on
    exact ⟨fun hp => ⟨_, written _, set (item := .retain) rfl (.inl hp) (by decide)⟩,
      ⟨_, written _, set (item := .rouse) rfl (.inr (.inl rfl)) (by decide)⟩,
      ⟨_, written _, set (item := .notify) rfl (.inr (.inr rfl)) (by decide)⟩⟩
  · have hset := exec_setPolicy_item (code := 4) (item := .stationAddress) hready hhome rfl (by decide) a.isLt rfl
    rwa [State.storePolicy, BitVec.ofNat_toNat, BitVec.setWidth_eq] at hset
  · cases on <;> exact ⟨exec_setPolicy_byte (item := .conflictWatch) hready hhome rfl (by decide) rfl _ rfl,
      exec_setPolicy_byte (item := .floodEnable) hready hhome rfl (by decide) rfl _ rfl,
      exec_setPolicy_byte (item := .dozeEnable) hready hhome rfl (by decide) rfl _ rfl⟩
  · have hlow : min v 4095 = clamp 0 4095 v := ((clamp_eq (Nat.zero_le _) v).trans (Nat.zero_max _)).symm
    refine ⟨?_, ?_, ?_⟩
    · rw [← clamp_eq (by decide)]
      exact exec_setPolicy_item (item := .windowLength) hready hhome rfl (by decide) hv rfl
    · rw [← clamp_eq (by decide)]
      exact exec_setPolicy_item (item := .highMark) hready hhome rfl (by decide) hv rfl
    · rw [hlow]
      exact exec_setPolicy_item (item := .lowMark) hready hhome rfl (by decide) hv rfl
  · rw [← (clamp_eq (Nat.zero_le 3) v.toNat).trans (Nat.zero_max _)]
    exact exec_setPolicy_byte (item := .debounce) hready hhome rfl (by decide) rfl v rfl
  · cases d <;> exact exec_setPolicy_byte (item := .disposition) hready hhome rfl (by decide) rfl _ rfl

end

section
/-! SUPPORT. What comes in on a port meets its unit first: the note of a WORKING slot, the framing tests, doze and
warm-up, a profile load; and what a master reads of the slot (R180, R181, R184, R185). -/

namespace Sys2Proof.Machine

/-! ## A message comes in on a port (R180, R181) -/

section Incoming
variable {s : State} {p : Port} {kind : RequestKind} {payload message : List Byte}

theorem State.shiftHeldOut_eq (s : State) (p : Port) :
    s.shiftHeldOut p = s.setPort p { s.port p with out := s.outAfter p } := by cases p <;> rfl

@[simp] theorem State.setPort_clk (s : State) (p : Port) (u : PortUnit) : (s.setPort p u).clk = s.clk := by cases p <;> rfl

/-- What a master shifts out does not look at the clock. -/
theorem State.outAfter_setClk (s : State) (p : Port) (x : ClockUnit) : (s.setClk x).outAfter p = s.outAfter p := by
  cases p <;> rfl

theorem State.working_setClk (s : State) (p : Port) (x : ClockUnit) : (s.setClk x).working p = (s.working p).setClk x := by
  cases p <;> rfl

theorem State.port_setClk (s : State) (p : Port) (x : ClockUnit) : (s.setClk x).port p = s.port p := by
  cases p <;> rfl

/-- A transaction shifts the held message out and leaves the slot. -/
theorem State.port_shiftHeldOut (s : State) (p : Port) :
    (s.shiftHeldOut p).port p = { s.port p with out := s.outAfter p } := by
  rw [State.shiftHeldOut_eq, State.port_setPort, if_pos rfl]

theorem State.inProgress_shiftHeldOut_iff : (s.shiftHeldOut p).inProgress p = true ↔ (s.port p).slot = .working := by
  rw [State.inProgress, State.port_shiftHeldOut, decide_eq_true_iff]

/-- A WORKING slot's note is set by what comes in, and nothing else changes (R181). -/
theorem State.noteBusy_shiftHeldOut (hw : (s.port p).slot = .working) :
    (s.shiftHeldOut p).noteBusy p = s.setPort p { slot := .working, note := true, out := s.outAfter p } := by
  rw [State.noteBusy, State.port_shiftHeldOut, State.shiftHeldOut_eq, State.setPort_setPort, ← hw]

/-- What the framing tests refuse meets a WORKING slot (R181). -/
theorem State.receiveMalformed_busy (hw : (s.port p).slot = .working) : (s.shiftHeldOut p).receiveMalformed p =
    s.setPort p { slot := .working, note := true, out := s.outAfter p } :=
  (if_pos (State.inProgress_shiftHeldOut_iff.2 hw)).trans (State.noteBusy_shiftHeldOut hw)

/-- A waking event does not meet the ports (R184). -/
theorem State.wake_setPort (s : State) (p : Port) (u : PortUnit) : (s.setPort p u).wake = s.wake.setPort p u := by
  unfold State.wake
  rw [State.setPort_clk]
  split
  · cases p <;> rfl
  · rfl

/-- A waking event meets the clock alone (R184). -/
theorem State.setClk_wake (s : State) (x : ClockUnit) : s.wake.setClk x = s.setClk x := by
  unfold State.wake; split <;> rfl

theorem State.wake_of_doze (h : s.clk.state = .doze) :
    s.wake = s.setClk { s.clk with state := .warmUp, quietTicks := 0, wakeDue := none } := if_pos h

theorem State.wake_awake (h : s.clk.state ≠ .doze) : s.wake = s := if_neg h

/-- What the framing tests refuse is answered where no earlier request is in progress, and wakes a dozing part (R180,
R184). -/
theorem State.receiveMalformed_free (hw : (s.port p).slot ≠ .working) : (s.shiftHeldOut p).receiveMalformed p =
    s.wake.answered p { result := .malformed, payload := [] } := by
  have hout : s.wake.outAfter p = s.outAfter p := by
    unfold State.wake
    split
    · exact s.outAfter_setClk p _
    · rfl
  rw [State.receiveMalformed, if_neg (mt State.inProgress_shiftHeldOut_iff.1 hw), State.shiftHeldOut_eq, State.wake_setPort,
    State.respond, State.setPort_setPort, State.port_setPort, if_pos rfl, State.answered, hout]
  rfl

/-- A message the framing tests refuse, received while the part runs (R180). -/
theorem exec_unknownRequest_malformed (hrun : s.clk.power = .running) (hm : frameMessage p message = .malformed) :
    exec (.unknownRequest p message) s = .next ((s.shiftHeldOut p).receiveMalformed p) := by
  refine congrArg Host.Outcome.next ?_
  rw [State.receiveMessage, hm]
  exact if_pos (decide_eq_true hrun)

/-- A message that frames a request acts as its command (R180). -/
theorem exec_unknownRequest_request (hm : frameMessage p message = .request kind payload) (s : State) :
    exec (.unknownRequest p message) s = exec (requestOn kind p payload) s := by
  rw [exec_requestOn]
  refine congrArg Host.Outcome.next ?_
  rw [State.receiveMessage, hm]

/-! ## A request comes in on a port (R181, R184, R185) -/

/-- A request of any length meets a WORKING slot (R181). -/
theorem State.receive_busy (hrun : s.clk.power = .running) (hw : (s.port p).slot = .working) :
    s.receive p kind payload = s.setPort p { slot := .working, note := true, out := s.outAfter p } := by
  refine (if_pos (decide_eq_true hrun)).trans ?_
  by_cases hlong : Config.maxPayload < payload.length
  · exact (if_pos hlong).trans (State.receiveMalformed_busy hw)
  · exact (if_neg hlong).trans
      ((if_pos (State.inProgress_shiftHeldOut_iff.2 hw)).trans (State.noteBusy_shiftHeldOut hw))

/-- A request that no earlier one stands before makes its slot WORKING and its part wake; it is taken now or waits (R184). -/
theorem State.receive_free (hrun : s.clk.power = .running) (hw : (s.port p).slot ≠ .working)
    (hl : payload.length ≤ 1024) : s.receive p kind payload =
      (s.working p).wake.takeOrDefer (.request p kind payload) fun s => s.takeRequest p kind payload := by
  have hwork : (s.shiftHeldOut p).setPort p { (s.shiftHeldOut p).port p with slot := .working } = s.working p := by
    rw [State.port_shiftHeldOut, State.shiftHeldOut_eq, State.setPort_setPort]; rfl
  refine (if_pos (decide_eq_true hrun)).trans ((if_neg (Nat.not_lt.2 hl)).trans ?_)
  rw [State.receiveFramed, if_neg (mt State.inProgress_shiftHeldOut_iff.1 hw), hwork]

@[simp] theorem State.working_clk (s : State) (p : Port) : (s.working p).clk = s.clk := s.setPort_clk p _

/-- A request in ACTIVE is taken at once (R181). -/
theorem State.receive_active (hrun : s.clk.power = .running) (hactive : s.clk.state = .active)
    (hw : (s.port p).slot ≠ .working) (hl : payload.length ≤ 1024) :
    s.receive p kind payload = (s.working p).takeRequest p kind payload := by
  have hactive' : (s.working p).clk.state = .active := by rw [State.working_clk, hactive]
  rw [State.receive_free hrun hw hl, State.wake_of_active hactive', State.takeOrDefer_of_active hactive']

/-- After a waking event in DOZE or warm-up the main clock does not yet run (R184). -/
theorem State.wake_not_active (h : s.clk.state ≠ .active) : s.wake.clk.state ≠ .active := by
  rw [s.wake_warmUp_iff.2 h]; decide

theorem State.takeOrDefer_of_not_active (h : s.clk.state ≠ .active) (w : Waiting) (take : State → State) :
    s.takeOrDefer w take = s.defer w := if_neg h

/-- A request in DOZE or warm-up waits, its slot WORKING (R184). -/
theorem State.receive_waits (hrun : s.clk.power = .running) (hidle : s.clk.state ≠ .active)
    (hw : (s.port p).slot ≠ .working) (hl : payload.length ≤ 1024) :
    s.receive p kind payload = (s.working p).wake.defer (.request p kind payload) := by
  rw [State.receive_free hrun hw hl,
    State.takeOrDefer_of_not_active (State.wake_not_active (by rw [State.working_clk]; exact hidle))]

/-- A profile load turns a request outside R185's list away. -/
theorem State.takeRequest_loading (hload : s.store.load.isSome = true) (hkind : handledDuringLoad kind = false) :
    s.takeRequest p kind payload = s.respond p (.bare .busy) := if_pos ⟨hload, hkind⟩

/-- The requests a profile load does not turn away are those R185 lists. -/
theorem handledDuringLoad_eq_false (h : kind ∉ [.getSlot, .poolRead, .getPolicy, .readStatus, .readChanges, .readReport,
    .takeSample, .releaseSample, .storeRead]) : handledDuringLoad kind = false := by
  revert h; cases kind <;> decide

end Incoming

/-! ## The end of warm-up (R184) -/

section WarmUp
variable {s : State}

/-- Warm-up ends while the part runs: ACTIVE, and what waited is taken in its order. -/
theorem exec_warmUpEnd (hrun : s.clk.power = .running) (hwarm : s.clk.state = .warmUp) : exec .warmUpEnd s =
    .next (s.clk.waiting.foldl State.takeWaiting
      (s.setClk { s.clk with state := .active, quietTicks := 0, waiting := [] })) :=
  congrArg Host.Outcome.next (if_pos (by rw [hrun, hwarm]; rfl))

/-- What waited alone is taken by the part as it is once ACTIVE. -/
theorem exec_warmUpEnd_defer {w : Waiting} (hrun : s.clk.power = .running) (hwarm : s.clk.state = .warmUp)
    (halone : s.clk.waiting = []) : exec .warmUpEnd (s.defer w) =
      .next ((s.setClk { s.clk with state := .active, quietTicks := 0, waiting := [] }).takeWaiting w) := by
  rw [exec_warmUpEnd (s := s.defer w) hrun hwarm]
  simp only [State.defer, State.setClk_clk, halone, List.nil_append, List.foldl_cons, List.foldl_nil, State.setClk_setClk]

/-- A waking event changes neither the supply nor what waits. -/
theorem State.wake_clk (s : State) : s.wake.clk.power = s.clk.power ∧ s.wake.clk.waiting = s.clk.waiting := by
  unfold State.wake; split <;> exact ⟨rfl, rfl⟩

end WarmUp

/-! ## The framing tests (R180) -/

section Framing
variable {p : Port} {code hi lo : Byte} {body rest : List Byte} {kind : RequestKind}

theorem not_poll (h : p = .platform ∨ code ≠ 0) : ¬ (p = .system ∧ code = 0) := by
  rintro ⟨rfl, h0⟩
  exact h.elim nofun (absurd h0)

/-- A message too short for its header is refused. -/
theorem frameMessage_short (h : p = .platform ∨ code ≠ 0) (hshort : rest.length < 2) :
    frameMessage p (code :: rest) = .malformed := by
  refine (if_neg (not_poll h)).trans ?_
  match rest, hshort with
  | [], _ => rfl
  | [_], _ => rfl

/-- The tests of a message with a whole header, in their order. -/
theorem frameMessage_whole (h : p = .platform ∨ code ≠ 0) : frameMessage p (code :: hi :: lo :: body) =
    if 1024 < hi.toNat * 256 + lo.toNat then .malformed
    else if body.length < hi.toNat * 256 + lo.toNat then .malformed
    else if p = .platform ∧ hi.toNat * 256 + lo.toNat < body.length then .malformed
    else (requestOfCode code).elim .malformed fun kind => .request kind (body.take (hi.toNat * 256 + lo.toNat)) := by
  rw [frameMessage, if_neg (not_poll h)]
  cases requestOfCode code <;> rfl

/-- The codes of R180's table are 0x01 … 0x13. -/
theorem requestOfCode_eq_none (h : code.toNat = 0 ∨ 0x13 < code.toNat) : requestOfCode code = none := by
  unfold requestOfCode
  split
  case h_20 => rfl
  all_goals omega

theorem frameMessage_refused (h : p = .platform ∨ code ≠ 0)
    (hbad : 1024 < hi.toNat * 256 + lo.toNat ∨ body.length < hi.toNat * 256 + lo.toNat ∨
      (p = .platform ∧ hi.toNat * 256 + lo.toNat < body.length) ∨ code.toNat = 0 ∨ 0x13 < code.toNat) :
    frameMessage p (code :: hi :: lo :: body) = .malformed := by
  rw [frameMessage_whole h]
  split
  · rfl
  split
  · rfl
  split
  · rfl
  next hlong hshort hextra =>
    rw [requestOfCode_eq_none ((hbad.resolve_left hlong).resolve_left hshort |>.resolve_left hextra)]
    rfl

/-- A message of a known code whose declared length fits its bytes is a request. -/
theorem frameMessage_request (hcode : requestOfCode code = some kind) (hdeclared : hi.toNat * 256 + lo.toNat ≤ 1024)
    (hbody : hi.toNat * 256 + lo.toNat ≤ body.length) (hplat : p = .platform → body.length = hi.toNat * 256 + lo.toNat) :
    frameMessage p (code :: hi :: lo :: body) = .request kind (body.take (hi.toNat * 256 + lo.toNat)) := by
  have hne : code ≠ 0 := by rintro rfl; cases hcode
  have hexact : ¬ (p = .platform ∧ hi.toNat * 256 + lo.toNat < body.length) := fun ⟨hp, hlt⟩ =>
    absurd hlt (Nat.not_lt.2 (hplat hp).le)
  rw [frameMessage_whole (.inr hne), if_neg (Nat.not_lt.2 hdeclared), if_neg (Nat.not_lt.2 hbody), if_neg hexact, hcode]
  rfl

end Framing

/-! ## What a master reads (R180, R181) -/

section Reads
variable {s : State}

theorem exec_responseRead (hrun : s.clk.power = .running) (p : Port) (n : Nat) :
    exec (.responseRead p n) s = .next (s.setPort p ((s.port p).readBy n)) :=
  congrArg Host.Outcome.next (if_pos (decide_eq_true hrun))

theorem exec_poll (hrun : s.clk.power = .running) (n : Nat) : exec (.poll n) s =
    .next (s.setPort .system { s.ports.sys with out := shiftOut n s.ports.sys.view }) :=
  congrArg Host.Outcome.next (if_pos (decide_eq_true hrun))

variable {u : PortUnit}

theorem PortUnit.view_ready {r : Response} (h : u.slot = .ready r) : u.view = r.message := by
  unfold PortUnit.view; rw [h]

theorem PortUnit.view_working (h : u.slot = .working) : u.view = [if u.note then 0x03 else 0x02, 0, 0] := by
  unfold PortUnit.view; rw [h]; cases u.note <;> rfl

theorem PortUnit.view_empty (h : u.slot = .empty) : u.view = [0x02, 0, 0] := by
  unfold PortUnit.view; rw [h]; rfl

/-- A read of a READY slot leaves it (R181). -/
theorem PortUnit.readBy_ready {r : Response} (h : u.slot = .ready r) (n : Nat) :
    u.readBy n = { u with out := shiftOut n u.view } := by
  unfold PortUnit.readBy; rw [h]

/-- A read of a slot that is not READY clears the note (R181). -/
theorem PortUnit.readBy_other (h : ∀ r, u.slot ≠ .ready r) (n : Nat) :
    u.readBy n = { slot := u.slot, note := false, out := shiftOut n u.view } := by
  unfold PortUnit.readBy
  split
  · next r hr => exact absurd hr (h r)
  all_goals rfl

end Reads

end Sys2Proof.Machine

open Sys2Proof Sys2Proof.Machine

/-- Settles O2: the note alone in WORKING; otherwise the slot is WORKING and the request is taken at once in ACTIVE, where
a load turns it away, and waits in DOZE and warm-up, whose end takes it with its slot WORKING as ACTIVE would have. -/
theorem requestsMeetThePortUnit : Obligations.RequestsMeetThePortUnit := by
  intro kind p payload s hrun
  simp only [exec_requestOn]
  refine ⟨fun hw => congrArg Host.Outcome.next (State.receive_busy hrun hw), fun hw hl => ?_⟩
  refine ⟨fun hactive hload hkind => ?_, fun hdoze => ?_, fun hwarm => ?_, fun hidle halone => ?_⟩
  · rw [State.receive_active hrun hactive hw hl,
      State.takeRequest_loading (by rw [(s.working_frame p).1]; exact hload) (handledDuringLoad_eq_false hkind),
      State.working_respond]
    rfl
  · rw [State.receive_waits hrun (by rw [hdoze]; decide) hw hl, State.wake_of_doze (by rw [State.working_clk, hdoze]),
      State.working_clk]
    rfl
  · rw [State.receive_waits hrun (by rw [hwarm]; decide) hw hl,
      State.wake_awake (by rw [State.working_clk, hwarm]; decide), State.defer, State.working_clk]
  · let woken := (s.working p).wake
    have hwarm : woken.clk.state = .warmUp := (s.working p).wake_warmUp_iff.2 (by rw [State.working_clk]; exact hidle)
    obtain ⟨hpower, hwaiting⟩ := (s.working p).wake_clk
    rw [State.working_clk] at hpower hwaiting
    refine ⟨_, congrArg Host.Outcome.next (State.receive_waits hrun hidle hw hl), ?_⟩
    rw [exec_warmUpEnd_defer (hpower.trans hrun) hwarm (hwaiting.trans halone)]
    have htaken := State.receive_active (kind := kind)
      (s := s.setClk { woken.clk with state := .active, quietTicks := 0, waiting := [] })
      (hpower.trans hrun) rfl (by rw [State.port_setClk]; exact hw) hl
    rw [State.working_setClk, ← State.setClk_wake (s.working p)] at htaken
    exact congrArg Host.Outcome.next htaken.symm

/-- Settles O3: each framing test in its order, and a request message as the command of its code. -/
theorem framingTestsSortMessages : Obligations.FramingTestsSortMessages := by
  unfold Obligations.FramingTestsSortMessages
  intro codes
  have hcodes : ∀ row ∈ codes, requestOfCode row.1 = some row.2 := by decide
  refine ⟨fun p code rest => frameMessage_short, fun p code hi lo body => frameMessage_refused,
    fun row hrow p hi lo body hdeclared hbody hplat => ?_, fun _ => rfl⟩
  have hframed := frameMessage_request (hcodes row hrow) hdeclared hbody hplat
  exact ⟨hframed, exec_unknownRequest_request hframed⟩

/-- Settles O4: a refused message meets a WORKING slot or is answered, after the waking of a dozing part. -/
theorem malformedMessageIsAnswered : Obligations.MalformedMessageIsAnswered := by
  intro p message s hrun hm
  rw [exec_unknownRequest_malformed hrun hm]
  refine ⟨fun hw => congrArg Host.Outcome.next (State.receiveMalformed_busy hw), fun hw hawake => ?_, fun hw hdoze => ?_⟩
  · rw [State.receiveMalformed_free hw, State.wake_awake hawake]
  · rw [State.receiveMalformed_free hw, State.wake_of_doze hdoze]

/-- Settles O5: the view of the slot in each of its states, which a read and a POLL shift out. -/
theorem slotReadsFollowTheTable : Obligations.SlotReadsFollowTheTable := by
  unfold Obligations.SlotReadsFollowTheTable
  intro codes
  have hcodes : ∀ row ∈ codes, row.1.code = row.2 := by decide
  refine ⟨fun r => by cases r <;> decide, fun p n s hrun => ?_⟩
  intro shifted polled
  have hpolled : ∀ {message}, (s.port p).view = message → p = .system → polled message := by
    rintro message rfl rfl
    exact exec_poll hrun n
  have unready : ∀ {message}, (∀ r, (s.port p).slot ≠ .ready r) → (s.port p).view = message →
      exec (.responseRead p n) s =
        .next (s.setPort p { slot := (s.port p).slot, note := false, out := shifted message }) := by
    rintro message hslot rfl
    rw [exec_responseRead hrun, PortUnit.readBy_other hslot]
    rfl
  refine ⟨fun row hrow payload hready => ?_, fun hworking => ?_, fun hempty => ?_⟩
  · have hview : (s.port p).view = row.2 :: (beBytes 2 payload.length ++ payload) := by
      rw [PortUnit.view_ready hready, Response.message, hcodes row hrow]
    refine ⟨?_, hpolled hview⟩
    rw [exec_responseRead hrun, PortUnit.readBy_ready hready, hview]
    rfl
  · have hview := PortUnit.view_working hworking
    have hread := unready (by rw [hworking]; exact nofun) hview
    rw [hworking] at hread
    exact ⟨hread, hpolled hview⟩
  · have hview := PortUnit.view_empty hempty
    have hread := unready (by rw [hempty]; exact nofun) hview
    rw [hempty] at hread
    exact ⟨hread, hpolled hview⟩

end

section
/-! SUPPORT. The profile store: its requests check by check, and what a finished and an interrupted operation leave of
its bytes (R186, R187). -/

namespace Sys2Proof.Machine

/-! ## The checks of the three requests (R186) -/

section Checks
variable {s : State} {p : Port} {payload data : List Byte} {page : Byte}

theorem State.serveStoreRead_malformed (h : payload.length ≠ 1) :
    s.serveStoreRead p payload = (s, .bare .malformed) := by
  unfold State.serveStoreRead
  split
  · exact absurd rfl h
  · rfl

theorem State.serveStoreRead_page : s.serveStoreRead p [page] =
    if 7 < page.toNat then (s, .bare .outOfRange)
    else if s.store.op.isSome then (s, .bare .busy)
    else (s, { result := .done, payload := (List.range 256).map fun k => s.storeByte (256 * page.toNat + k) }) := rfl

theorem State.serveStoreErase_platform : s.serveStoreErase .platform payload = (s, some (.bare .notPermitted)) := rfl

theorem State.serveStoreErase_malformed (h : payload.length ≠ 1) :
    s.serveStoreErase .system payload = (s, some (.bare .malformed)) := by
  refine (if_neg nofun).trans ?_
  split
  · exact absurd rfl h
  · rfl

theorem State.serveStoreErase_page : s.serveStoreErase .system [page] =
    if 7 < page.toNat then (s, some (.bare .outOfRange))
    else if page.toNat < 2 then (s, some (.bare .locked))
    else if s.store.op.isSome then (s, some (.bare .busy))
    else (s.setStore { s.store with op := some (.erase page.toNat) }, none) := rfl

theorem State.serveStoreProgram_platform : s.serveStoreProgram .platform payload = (s, some (.bare .notPermitted)) := rfl

theorem State.serveStoreProgram_malformed (h : payload.length ≠ 257) :
    s.serveStoreProgram .system payload = (s, some (.bare .malformed)) := by
  refine (if_neg nofun).trans ?_
  split
  · next page data => exact if_pos fun hdata => h (congrArg (· + 1) hdata)
  · rfl

/-- Every byte of a page reads 0xFF (R186). -/
def State.pageErased (s : State) (page : Nat) : Prop := ∀ k < 256, s.storeByte (256 * page + k) = 0xFF

theorem State.pageBytes_any_iff (s : State) (page : Nat) :
    (s.pageBytes page).any (fun b => decide (b ≠ 0xFF)) = true ↔ ¬ s.pageErased page := by
  simp [State.pageBytes, State.pageErased, memReadAll, pageBase, State.storeByte]

theorem State.serveStoreProgram_notErased (hdata : data.length = 256) (h7 : page.toNat ≤ 7) (h2 : 2 ≤ page.toNat)
    (he : ¬ s.pageErased page.toNat) : s.serveStoreProgram .system (page :: data) = (s, some (.bare .wrongState)) :=
  (if_neg nofun).trans ((if_neg (not_not.2 hdata)).trans ((if_neg (Nat.not_lt.2 h7)).trans
    ((if_neg (Nat.not_lt.2 h2)).trans (if_pos ((s.pageBytes_any_iff _).2 he)))))

theorem State.serveStoreProgram_outOfRange (hdata : data.length = 256) (h7 : 7 < page.toNat) :
    s.serveStoreProgram .system (page :: data) = (s, some (.bare .outOfRange)) :=
  (if_neg nofun).trans ((if_neg (not_not.2 hdata)).trans (if_pos h7))

theorem State.serveStoreProgram_locked (hdata : data.length = 256) (h2 : page.toNat < 2) :
    s.serveStoreProgram .system (page :: data) = (s, some (.bare .locked)) :=
  (if_neg nofun).trans ((if_neg (not_not.2 hdata)).trans ((if_neg (by omega)).trans (if_pos h2)))

theorem State.serveStoreProgram_erased (hdata : data.length = 256) (h7 : page.toNat ≤ 7) (h2 : 2 ≤ page.toNat)
    (he : s.pageErased page.toNat) : s.serveStoreProgram .system (page :: data) =
      if s.store.op.isSome then (s, some (.bare .busy))
      else (s.setStore { s.store with op := some (.program page.toNat data) }, none) :=
  (if_neg nofun).trans ((if_neg (not_not.2 hdata)).trans ((if_neg (Nat.not_lt.2 h7)).trans
    ((if_neg (Nat.not_lt.2 h2)).trans (if_neg fun hany => (s.pageBytes_any_iff _).1 hany he))))

/-- A request received leaves the store's bytes. -/
theorem State.working_storeByte (s : State) (p : Port) (a : Nat) : (s.working p).storeByte a = s.storeByte a := by
  rw [State.storeByte, (s.working_frame p).1]; rfl

theorem State.working_pageErased (s : State) (p : Port) (page : Nat) :
    (s.working p).pageErased page ↔ s.pageErased page := by
  simp only [State.pageErased, State.working_storeByte]

/-- A ready request that makes the store busy is not yet answered (R186). -/
theorem exec_requestOn_started {kind : RequestKind} {op : StoreOp} (h : s.readyFor p kind) (hl : payload.length ≤ 1024)
    (hs : (s.working p).serve p kind payload =
      ((s.working p).setStore { (s.working p).store with op := some op }, none)) :
    exec (requestOn kind p payload) s = .next ((s.working p).setStore { s.store with op := some op }) := by
  rw [exec_requestOn, State.receive_unanswered h hl hs, (s.working_frame p).1]

end Checks

/-! ## What an operation leaves of the store (R186, R187) -/

section Leaves
variable {s : State} {page : Nat} {bytes data : List Byte}

/-- In a memory the store comes to hold, each byte of a page is as wanted, and every other byte is as it was. -/
def LeavesPage (s : State) (cells : List Host.Cell) (page : Nat) (ok : Nat → Byte → Prop) : Prop :=
  (∀ k < 256, ok k (memRead storeBlank cells (256 * page + k))) ∧
    ∀ a, (a < 256 * page ∨ 256 * page + 256 ≤ a) → memRead storeBlank cells a = s.storeByte a

/-- A page written whole reads as the bytes written, and every other byte of the store as before. -/
theorem leavesPage_write {ok : Nat → Byte → Prop} (hwf : memWf storeBlank s.store.cells = true)
    (hlen : bytes.length = 256) (hok : ∀ k < 256, ok k (bytes.getD k 0xFF)) :
    LeavesPage s (memWriteAll storeBlank s.store.cells (pageBase page) bytes) page ok := by
  refine ⟨fun k hk => ?_, fun a ha => ?_⟩
  · rw [memRead_memWriteAll _ _ _ _ _ hwf, if_pos (by unfold pageBase; omega), pageBase, Nat.add_sub_cancel_left]
    exact hok k hk
  · rw [memRead_memWriteAll _ _ _ _ _ hwf, if_neg (by unfold pageBase; omega)]
    rfl

theorem erasedPage_getD (k : Nat) : erasedPage.getD k 0xFF = 0xFF := by
  rw [erasedPage, List.getD_eq_getElem?_getD, List.getElem?_replicate]
  split <;> rfl

/-- Inside a page of data it does not matter what stands for a missing byte. -/
theorem getD_blank (hdata : data.length = 256) {k : Nat} (hk : k < 256) : data.getD k 0xFF = data.getD k 0 := by
  rw [List.getD_eq_getElem _ _ (by omega), List.getD_eq_getElem _ _ (by omega)]

/-- An interrupted program leaves bytes 0 and 1 at 0xFF and each other byte new or 0xFF (R187). -/
theorem tornPage_getD (draw : Nat) (hdata : data.length = 256) {k : Nat} (hk : k < 256) :
    (k < 2 → (tornPage draw data).getD k 0xFF = 0xFF) ∧
      ((tornPage draw data).getD k 0xFF = 0xFF ∨ (tornPage draw data).getD k 0xFF = data.getD k 0) := by
  match k, hk with
  | 0, _ => exact ⟨fun _ => rfl, .inl rfl⟩
  | 1, _ => exact ⟨fun _ => rfl, .inl rfl⟩
  | k + 2, hk =>
    have hbyte : (tornPage draw data).getD (k + 2) 0xFF =
        if Config.tornByteWritten draw (k + 2) then data.getD (k + 2) 0xFF else 0xFF := by
      simp [tornPage, List.getD_eq_getElem?_getD, show k < 254 by omega]
    rw [hbyte, getD_blank hdata hk]
    refine ⟨fun h => by omega, ?_⟩
    split
    · exact .inr rfl
    · exact .inl rfl

theorem State.interruptStore_erase (h : s.store.op = some (.erase page)) :
    s.interruptStore.store.cells = memWriteAll storeBlank s.store.cells (pageBase page) erasedPage := by
  simp only [State.interruptStore, h, State.setStore_store, State.writePage]

theorem State.interruptStore_program (h : s.store.op = some (.program page data)) :
    s.interruptStore.store.cells = memWriteAll storeBlank s.store.cells (pageBase page) (tornPage s.draws data) := by
  simp only [State.interruptStore, h, State.setStore_store, State.setDraws_store, State.writePage]

/-- Each held reset and a loss of supply interrupts the store and leaves its bytes as the interruption does (R185, R187). -/
theorem exec_interrupting {c : Instr} (hc : c ∈ [Instr.powerOn, .rstN, .powerLoss])
    (hsupply : c = .rstN → s.clk.power ≠ .off) :
    ∃ t, exec c s = .next t ∧ t.store.op = none ∧ t.store.cells = s.interruptStore.store.cells := by
  simp only [List.mem_cons, List.not_mem_nil, or_false] at hc
  rcases hc with rfl | rfl | rfl
  · exact ⟨_, rfl, rfl, rfl⟩
  · exact ⟨s.holdReset, congrArg Host.Outcome.next (if_pos (decide_eq_true (hsupply rfl))), rfl, rfl⟩
  · exact ⟨_, rfl, rfl, rfl⟩

/-- What an operation's end leaves: the page written, the store idle, and the request answered DONE (R186). -/
def State.storeFinished (s : State) (cells : List Host.Cell) : State :=
  (s.setStore { s.store with cells := cells, op := none }).setPort .system
    { s.ports.sys with slot := .ready { result := .done, payload := [] }, note := false }

theorem State.writePage_storeIdle (s : State) (page : Nat) (bytes : List Byte) : (s.writePage page bytes).storeIdle =
    s.storeFinished (memWriteAll storeBlank s.store.cells (pageBase page) bytes) := rfl

theorem exec_storeEraseDone (hcan : s.canTake = true) (h : s.store.op = some (.erase page)) :
    exec .storeEraseDone s =
      .next (s.storeFinished (memWriteAll storeBlank s.store.cells (pageBase page) erasedPage)) := by
  refine congrArg Host.Outcome.next ((if_pos hcan).trans ?_)
  dsimp only
  rw [h]
  exact s.writePage_storeIdle page _

theorem exec_storeProgramDone (hcan : s.canTake = true) (h : s.store.op = some (.program page data)) :
    exec .storeProgramDone s =
      .next (s.storeFinished (memWriteAll storeBlank s.store.cells (pageBase page) data)) := by
  refine congrArg Host.Outcome.next ((if_pos hcan).trans ?_)
  dsimp only
  rw [h]
  exact s.writePage_storeIdle page _

/-- A page whose first byte reads 0xFF holds no validity word (R188). -/
theorem State.profileValid_of_blank (h : s.storeByte 512 = 0xFF) : s.profileValid = false := by
  rw [State.profileValid, h]; rfl

end Leaves

end Sys2Proof.Machine

open Sys2Proof Sys2Proof.Machine

/-- Settles O38: each check of a request is one answer of the store, and what passes them makes the store busy. -/
theorem storeRequestsAreChecked : Obligations.StoreRequestsAreChecked := by
  intro p payload s hl
  have hop : ∀ q, (s.working q).store.op = s.store.op := fun q => by rw [(s.working_frame q).1]
  refine ⟨fun hready => ?_, fun hready => ?_, fun hready => ?_⟩
  · have kept : ∀ {r}, (s.working p).serveStoreRead p payload = (s.working p, r) →
        exec (.storeRead p payload) s = .next (s.answered p r) := fun h =>
      exec_requestOn_kept (kind := .storeRead) hready hl (congrArg answered h)
    refine ⟨fun hlen => kept (State.serveStoreRead_malformed hlen), ?_⟩
    rintro page rfl
    have hserve := State.serveStoreRead_page (s := s.working p) (p := p) (page := page)
    refine ⟨fun h7 => kept (hserve.trans (if_pos h7)), fun h7 hbusy => ?_, fun h7 hidle => ?_⟩
    · exact kept (hserve.trans ((if_neg (Nat.not_lt.2 h7)).trans
        (if_pos (Option.isSome_iff_ne_none.2 (by rwa [hop])))))
    · rw [if_neg (Nat.not_lt.2 h7), hop, hidle] at hserve
      simp only [State.working_storeByte] at hserve
      exact kept hserve
  · have kept : ∀ {r}, (s.working p).serveStoreErase p payload = (s.working p, some r) →
        exec (.storeErase p payload) s = .next (s.answered p r) := fun h =>
      exec_requestOn_kept (kind := .storeErase) hready hl h
    refine ⟨?_, ?_, ?_⟩
    · rintro rfl
      exact kept State.serveStoreErase_platform
    · rintro rfl hlen
      exact kept (State.serveStoreErase_malformed hlen)
    · rintro rfl page rfl
      have hserve := State.serveStoreErase_page (s := s.working .system) (page := page)
      refine ⟨fun h7 => kept (hserve.trans (if_pos h7)), fun h2 => ?_, fun h2 h7 hbusy => ?_, fun h2 h7 hidle => ?_⟩
      · exact kept (hserve.trans ((if_neg (by omega)).trans (if_pos h2)))
      · exact kept (hserve.trans ((if_neg (Nat.not_lt.2 h7)).trans ((if_neg (Nat.not_lt.2 h2)).trans
          (if_pos (Option.isSome_iff_ne_none.2 (by rwa [hop]))))))
      · exact exec_requestOn_started (kind := .storeErase) hready hl (hserve.trans ((if_neg (Nat.not_lt.2 h7)).trans
          ((if_neg (Nat.not_lt.2 h2)).trans (if_neg (by rw [hop, hidle]; decide)))))
  · have kept : ∀ {r}, (s.working p).serveStoreProgram p payload = (s.working p, some r) →
        exec (.storeProgram p payload) s = .next (s.answered p r) := fun h =>
      exec_requestOn_kept (kind := .storeProgram) hready hl h
    refine ⟨?_, ?_, ?_⟩
    · rintro rfl
      exact kept State.serveStoreProgram_platform
    · rintro rfl hlen
      exact kept (State.serveStoreProgram_malformed hlen)
    · rintro rfl page data rfl hdata erased
      have herased : (s.working .system).pageErased page.toNat ↔ erased := s.working_pageErased .system page.toNat
      refine ⟨fun h7 => kept (State.serveStoreProgram_outOfRange hdata h7),
        fun h2 => kept (State.serveStoreProgram_locked hdata h2),
        fun h2 h7 hnot => kept (State.serveStoreProgram_notErased hdata h7 h2 (mt herased.1 hnot)),
        fun h2 h7 he hbusy => ?_, fun h2 h7 he hidle => ?_⟩
      · exact kept ((State.serveStoreProgram_erased hdata h7 h2 (herased.2 he)).trans
          (if_pos (Option.isSome_iff_ne_none.2 (by rwa [hop]))))
      · exact exec_requestOn_started (kind := .storeProgram) hready hl
          ((State.serveStoreProgram_erased hdata h7 h2 (herased.2 he)).trans (if_neg (by rw [hop, hidle]; decide)))

/-- Settles O39: the page each operation writes at its end, and the page an interruption writes, byte by byte. -/
theorem storeOperationsLeaveTheirPage : Obligations.StoreOperationsLeaveTheirPage := by
  intro s hwf finished leaves
  refine ⟨fun page ho => ?_, fun page data ho hdata => ?_⟩
  · have herased : LeavesPage s (memWriteAll storeBlank s.store.cells (pageBase page) erasedPage) page
        fun _ b => b = 0xFF :=
      leavesPage_write hwf erasedPage_length fun k _ => erasedPage_getD k
    refine ⟨fun hcan => ⟨_, exec_storeEraseDone hcan ho, herased⟩, fun c hc hsupply => ?_⟩
    obtain ⟨t, hexec, hop, hcells⟩ := exec_interrupting hc hsupply
    exact ⟨t, hexec, hop, by rwa [hcells, State.interruptStore_erase ho]⟩
  · have hnew : LeavesPage s (memWriteAll storeBlank s.store.cells (pageBase page) data) page
        fun k b => b = data.getD k 0 :=
      leavesPage_write hwf hdata fun k hk => getD_blank hdata hk
    refine ⟨fun hcan => ⟨_, exec_storeProgramDone hcan ho, hnew⟩, fun c hc hsupply => ?_⟩
    obtain ⟨t, hexec, hop, hcells⟩ := exec_interrupting hc hsupply
    rw [State.interruptStore_program ho] at hcells
    have htorn : LeavesPage s t.store.cells page fun k b => (k < 2 → b = 0xFF) ∧ (b = 0xFF ∨ b = data.getD k 0) :=
      hcells ▸ leavesPage_write hwf (tornPage_length s.draws data) fun k hk => tornPage_getD s.draws hdata hk
    refine ⟨t, hexec, hop, htorn, ?_⟩
    rintro rfl
    obtain ⟨hpage, -⟩ := htorn
    exact State.profileValid_of_blank ((hpage 0 (by decide)).1 (by decide))

end

section
/-! SUPPORT. The profile load: one record of its stream, and its request from the system port (R188, R189). -/

namespace Sys2Proof.Machine

/-! ## The bytes of a record (R188) -/

section Stream
variable {s : State} {l : ProfileLoad}

/-- A byte of the profile stream. -/
def State.streamByte (s : State) (k : Nat) : Byte := s.storeByte (514 + k)

/-- The number a record's two length bytes give, most significant first. -/
def State.recordLength (s : State) (place : Nat) : Nat :=
  256 * (s.streamByte (place + 1)).toNat + (s.streamByte (place + 2)).toNat

/-- A record's body. -/
def State.recordBody (s : State) (place : Nat) : List Byte :=
  (List.range (s.recordLength place)).map fun k => s.streamByte (place + 3 + k)

theorem State.streamBytesAt_type (s : State) (place : Nat) : (s.streamBytesAt place 1).headD 0xFF = s.streamByte place := rfl

theorem State.streamBytesAt_length (s : State) (place : Nat) :
    natOfBytes (s.streamBytesAt (place + 1) 2) = s.recordLength place := by
  have hbytes : natOfBytes (s.streamBytesAt (place + 1) 2) =
      (0 * 256 + (s.streamByte (place + 1)).toNat) * 256 + (s.streamByte (place + 2)).toNat := rfl
  rw [hbytes, State.recordLength]
  omega

theorem State.streamBytesAt_body (s : State) (place : Nat) :
    s.streamBytesAt (place + 3) (s.recordLength place) = s.recordBody place := by
  simp only [State.streamBytesAt, memReadAll, State.recordBody, State.streamByte, State.storeByte, streamBase, Nat.add_assoc]

/-! ## One record (R189) -/

theorem State.loadRecord_blank (h : s.streamByte l.position = 0xFF) : s.loadRecord l = s.endLoad false l.answers := by
  unfold State.loadRecord
  rw [State.streamBytesAt_type]
  exact if_pos h

/-- A record in the stream: it must fit, be of a known type, and be answered DONE. -/
theorem State.loadRecord_record (h : s.streamByte l.position ≠ 0xFF) : s.loadRecord l =
    if 1534 < l.position + 3 then s.endLoad true l.answers
    else if 1534 < l.position + 3 + s.recordLength l.position then s.endLoad true l.answers
    else (s.serveRecord (s.streamByte l.position) (s.recordBody l.position)).elim (s.endLoad true l.answers) fun x =>
      if x.2.result ≠ .done then s.endLoad true l.answers
      else if l.position + 3 + s.recordLength l.position = 1534 then x.1.endLoad false l.answers
      else x.1.setStore { x.1.store with
        load := some { l with position := l.position + 3 + s.recordLength l.position } } := by
  unfold State.loadRecord
  rw [State.streamBytesAt_type]
  refine (if_neg h).trans ?_
  simp only [State.streamBytesAt_length, State.streamBytesAt_body]
  cases s.serveRecord (s.streamByte l.position) (s.recordBody l.position) <;> rfl

theorem State.serveRecord_unknown {type : Byte} (h : 3 < type.toNat ∨ type.toNat = 0) (body : List Byte) :
    s.serveRecord type body = none := by
  unfold State.serveRecord
  split
  case h_4 => rfl
  all_goals omega

/-- A record that does not fit or is of no known type ends the load with the fault flag. -/
theorem State.loadRecord_faulty (h : s.streamByte l.position ≠ 0xFF)
    (hbad : 1534 < l.position + 3 ∨ 1534 < l.position + 3 + s.recordLength l.position ∨
      3 < (s.streamByte l.position).toNat ∨ (s.streamByte l.position).toNat = 0) :
    s.loadRecord l = s.endLoad true l.answers := by
  rw [State.loadRecord_record h]
  split
  · rfl
  split
  · rfl
  next hheader hbody =>
    rw [State.serveRecord_unknown ((hbad.resolve_left hheader).resolve_left hbody)]
    rfl

/-- A record that fits and that its owner answers. -/
theorem State.loadRecord_served {x : State × Response} (h : s.streamByte l.position ≠ 0xFF)
    (hfits : l.position + 3 + s.recordLength l.position ≤ 1534)
    (hserve : s.serveRecord (s.streamByte l.position) (s.recordBody l.position) = some x) :
    s.loadRecord l =
      if x.2.result ≠ .done then s.endLoad true l.answers
      else if l.position + 3 + s.recordLength l.position = 1534 then x.1.endLoad false l.answers
      else x.1.setStore { x.1.store with
        load := some { l with position := l.position + 3 + s.recordLength l.position } } := by
  rw [State.loadRecord_record h, if_neg (by omega), if_neg (by omega), hserve]
  rfl

theorem exec_profileRecord (hcan : s.canTake = true) (hload : s.store.load = some l) :
    exec .profileRecord s = .next (s.loadRecord l) := by
  refine congrArg Host.Outcome.next ((if_pos hcan).trans ?_)
  dsimp only
  rw [hload]

end Stream

/-! ## A record's request from the system port (R189) -/

section Request
variable {s : State} {p : Port} {body : List Byte}

/-- What the requests of a profile can write, taken over from another state: the table, the pool and the policy. -/
def State.configured (s u : State) : State := { s with table := u.table, pool := u.pool, policy := u.policy }

/-- PUT_SLOT looks at neither the store nor the ports, and writes neither. -/
theorem State.servePutSlot_configured (s : State) (x : StoreUnit) (y : Ports) : s.servePutSlot p body =
    (((s.setStore x).setPorts y).servePutSlot p body).map s.configured id := by
  unfold State.servePutSlot
  cases readImage body <;> simp only [apply_ite (Prod.map s.configured id)] <;> rfl

/-- POOL_WRITE looks at neither the store nor the ports, and writes neither. -/
theorem State.servePoolWrite_configured (s : State) (x : StoreUnit) (y : Ports) : s.servePoolWrite p body =
    (((s.setStore x).setPorts y).servePoolWrite p body).map s.configured id := by
  simp only [State.servePoolWrite, apply_ite (Prod.map s.configured id)]
  rfl

/-- SET_POLICY looks at neither the store nor the ports, and writes neither. -/
theorem State.serveSetPolicy_configured (s : State) (x : StoreUnit) (y : Ports) : s.serveSetPolicy p body =
    (((s.setStore x).setPorts y).serveSetPolicy p body).map s.configured id := by
  unfold State.serveSetPolicy
  cases policyAddress p body with
  | error e => rfl
  | ok address =>
    simp only [apply_ite (Prod.map s.configured id)]
    cases address.1 <;> rfl

/-- The request kinds of the record types (R188). -/
def IsRecord (type : Byte) (kind : RequestKind) : Prop :=
  (type.toNat = 1 ∧ kind = .putSlot) ∨ (type.toNat = 2 ∧ kind = .poolWrite) ∨ (type.toNat = 3 ∧ kind = .setPolicy)

/-- A record's owner is its request's owner, who answers alike whatever the store and the ports hold. -/
theorem State.serveRecord_as_request {type : Byte} {kind : RequestKind} (h : IsRecord type kind) (s : State)
    (x : StoreUnit) (y : Ports) (body : List Byte) : ∃ z,
      ((s.setStore x).setPorts y).serve .system kind body = Machine.answered z ∧
        s.serveRecord type body = some (z.map s.configured id) := by
  rcases h with ⟨htype, rfl⟩ | ⟨htype, rfl⟩ | ⟨htype, rfl⟩
  · exact ⟨_, rfl, by rw [State.serveRecord, htype, ← s.servePutSlot_configured]; rfl⟩
  · exact ⟨_, rfl, by rw [State.serveRecord, htype, ← s.servePoolWrite_configured]; rfl⟩
  · exact ⟨_, rfl, by rw [State.serveRecord, htype, ← s.serveSetPolicy_configured]; rfl⟩

/-- The state from which a record's request is spoken of: no load, the system port free. -/
def State.unloaded (s : State) : State := (s.setStore { s.store with load := none }).setPort .system PortUnit.reset

theorem State.unloaded_readyFor (hcan : s.canTake = true) (kind : RequestKind) : s.unloaded.readyFor .system kind := by
  obtain ⟨hrun, hactive⟩ := State.canTake_iff.1 hcan
  exact ⟨hrun, hactive, nofun, .inl rfl⟩

end Request

end Sys2Proof.Machine

open Sys2Proof Sys2Proof.Machine

/-- Settles O40: the record's bytes, the ends of the load, and a record served as its request from the system port. -/
theorem profileRecordIsPerformed : Obligations.ProfileRecordIsPerformed := by
  intro s l hcan hload _ byteAt len next ended
  rw [exec_profileRecord hcan hload]
  have hended : ∀ (u : State) (fault : Bool), u.store = s.store → u.ports = s.ports →
      u.endLoad fault l.answers = ended u fault := fun u fault hstore hports => by
    simp only [ended, State.endLoad, State.respond, State.port, State.setStore_ports, hstore, hports, Response.bare]
  refine ⟨fun hblank => ?_, fun hrecord => ⟨fun hbad => ?_, fun hfits hlen kind hkind => ?_⟩⟩
  · rw [State.loadRecord_blank hblank, hended s false rfl rfl]
  · rw [State.loadRecord_faulty hrecord hbad, hended s true rfl rfl]
  · obtain ⟨⟨t, r⟩, hserve, hrecorded⟩ := State.serveRecord_as_request hkind s { s.store with load := none }
      (s.unloaded.working .system).ports (s.recordBody l.position)
    have hexec := exec_requestOn_answered (payload := s.recordBody l.position) (s.unloaded_readyFor hcan kind)
      (by rw [State.recordBody, List.length_map, List.length_range]; exact hlen) hserve
    have hloaded := State.loadRecord_served hrecord hfits hrecorded
    refine ⟨_, r, hexec, rfl, fun hrefused => ?_, fun hdone hend => ?_, fun hdone hgoes => ?_⟩
    · rw [hloaded]
      exact congrArg Host.Outcome.next ((if_pos hrefused).trans (hended s true rfl rfl))
    · rw [hloaded]
      exact congrArg Host.Outcome.next ((if_neg (not_not.2 hdone)).trans
        ((if_pos hend).trans (hended (s.configured t) false rfl rfl)))
    · rw [hloaded]
      exact congrArg Host.Outcome.next ((if_neg (not_not.2 hdone)).trans (if_neg hgoes))

end

section
/-! SUPPORT. The clock unit: the quiet test, the earliest due time, the tick in each clock state; and the events that come
while the main clock does not run, each of which waits for the end of warm-up and is taken there (R182 to R184). -/

namespace Sys2Proof.Machine

/-! ## Quiet ticks (R183) -/

section Quiet
variable {s : State}

theorem Record.itemIsDue_eq_false_iff (r : Record) (i : SlotIx) : r.itemIsDue = false ↔ r.dueAs i = none := by
  cases r <;> simp [Record.itemIsDue, Record.dueAs]

theorem State.anyItemDue_eq_false_iff : s.anyItemDue = false ↔ ∀ i r, s.slot i = some r → r.dueAs i = none := by
  rw [State.anyItemDue, List.any_eq_false]
  refine ⟨fun h i r hr => ?_, fun h i _ => ?_⟩
  · have hi := h i (List.mem_finRange i)
    rw [hr] at hi
    exact (r.itemIsDue_eq_false_iff i).1 (Bool.not_eq_true _ ▸ hi)
  · cases hr : s.slot i with
    | none => exact Bool.false_ne_true
    | some r => exact ne_true_of_eq_false ((r.itemIsDue_eq_false_iff i).2 (h i r hr))

theorem State.inProgress_eq_false_iff {p : Port} : s.inProgress p = false ↔ (s.port p).slot ≠ .working :=
  decide_eq_false_iff_not

/-- The conditions of a quiet tick, one by one (R183). -/
theorem State.quiet_iff : s.quiet = true ↔
    s.policy.dozeEnable = true ∧ s.custody.state = .proxy ∧ s.tx.linkUp = true ∧ s.tx.answers = [] ∧ s.tx.own = [] ∧
      (∀ i r, s.slot i = some r → r.dueAs i = none) ∧ s.tx.carried = none ∧ s.ports.sys.slot ≠ .working ∧
      s.ports.plat.slot ≠ .working ∧ s.rx.staged = [] := by
  rw [← State.anyItemDue_eq_false_iff]
  simp only [State.quiet, State.inProgress_eq_false_iff, Bool.and_eq_true, Bool.not_eq_true', decide_eq_true_iff,
    Option.isNone_iff_eq_none, and_assoc]
  exact Iff.rfl

end Quiet

/-! ## The wake due time (R183, R184) -/

section Due
variable {s : State}

/-- A timer runs to a due time: the flood window, or a record's (R183). -/
def State.RunsTo (s : State) (due : Time) : Prop :=
  s.guard.windowEnd = some due ∨ ∃ i r, s.slot i = some r ∧ r.timerDue = some due

theorem State.mem_runningDues_iff {due : Time} : due ∈ s.runningDues ↔ s.RunsTo due := by
  simp [State.runningDues, State.RunsTo, slotIndices, Option.bind_eq_some_iff, or_comm]

/-- The earliest of a list of due times, as part time comes to them (R183). -/
theorem earliestDue_spec (now : Time) (l : List Time) :
    (earliestDue now l = none → l = []) ∧
      ∀ w, earliestDue now l = some w → w ∈ l ∧ ∀ d ∈ l, (w - now).toNat ≤ (d - now).toNat := by
  induction l with
  | nil => exact ⟨fun _ => rfl, nofun⟩
  | cons d rest ih =>
    obtain ⟨hnone, hsome⟩ := ih
    unfold earliestDue
    cases he : earliestDue now rest with
    | none => simp [hnone he]
    | some e =>
      obtain ⟨hmem, hmin⟩ := hsome e he
      dsimp only
      split
      · next hle =>
        refine ⟨nofun, fun w hw => ?_⟩
        cases hw
        exact ⟨List.mem_cons_self, List.forall_mem_cons.2 ⟨le_rfl, fun x hx => hle.trans (hmin x hx)⟩⟩
      · next hlt =>
        refine ⟨nofun, fun w hw => ?_⟩
        cases hw
        exact ⟨List.mem_cons_of_mem _ hmem, List.forall_mem_cons.2 ⟨(Nat.lt_of_not_le hlt).le, hmin⟩⟩

/-- The wake due time a part enters DOZE with at a part time: no timer runs, or it is the earliest of those that do (R183). -/
theorem State.earliestDue_wakes (s : State) (now : Time) :
    (earliestDue now s.runningDues = none → ∀ due, ¬ s.RunsTo due) ∧
      ∀ w, earliestDue now s.runningDues = some w →
        s.RunsTo w ∧ ∀ due, s.RunsTo due → (w - now).toNat ≤ (due - now).toNat := by
  obtain ⟨hnone, hsome⟩ := earliestDue_spec now s.runningDues
  simp only [← State.mem_runningDues_iff]
  exact ⟨fun h due => by rw [hnone h]; exact List.not_mem_nil, hsome⟩

theorem State.wakeCome_iff : s.wakeCome = true ↔ ∃ w, s.clk.wakeDue = some w ∧ s.came w := by
  unfold State.wakeCome
  cases s.clk.wakeDue with
  | none => simp
  | some w =>
    refine decide_eq_true_iff.trans ⟨fun h => ⟨w, rfl, h⟩, ?_⟩
    rintro ⟨w, ⟨⟩, h⟩
    exact h

end Due

/-! ## A tick (R182 to R184) -/

section Tick
variable {s : State}

/-- Part time raised by 1 (R182). -/
def State.ticked (s : State) : State := s.setClk { s.clk with partTime := s.clk.partTime + 1 }

theorem exec_tick (hrun : s.clk.power = .running) : exec .tick s = .next s.takeTick :=
  congrArg Host.Outcome.next (if_pos (decide_eq_true hrun))

theorem State.takeTick_active (h : s.clk.state = .active) : s.takeTick = s.ticked.quietTest := by
  unfold State.takeTick
  dsimp only
  split
  · rfl
  · next hdoze => cases h.symm.trans hdoze
  · next hwarm => cases h.symm.trans hwarm

theorem State.takeTick_doze (h : s.clk.state = .doze) :
    s.takeTick = if s.ticked.wakeCome then s.ticked.wake else s.ticked := by
  unfold State.takeTick
  dsimp only
  split
  · next hactive => cases h.symm.trans hactive
  · rfl
  · next hwarm => cases h.symm.trans hwarm

theorem State.takeTick_warmUp (h : s.clk.state = .warmUp) : s.takeTick = s.ticked := by
  unfold State.takeTick
  dsimp only
  split
  · next hactive => cases h.symm.trans hactive
  · next hdoze => cases h.symm.trans hdoze
  · rfl

theorem State.quietTest_loud (h : ¬ s.quiet = true) : s.quietTest = s.setClk { s.clk with quietTicks := 0 } := if_neg h

theorem State.quietTest_counts (h : s.quiet = true) (hcount : s.clk.quietTicks < 3) :
    s.quietTest = s.setClk { s.clk with quietTicks := s.clk.quietTicks + 1 } :=
  (if_pos h).trans (if_neg (Nat.not_le.2 (Nat.succ_lt_succ hcount)))

theorem State.quietTest_dozes (h : s.quiet = true) (hcount : 3 ≤ s.clk.quietTicks) : s.quietTest = s.enterDoze :=
  (if_pos h).trans (if_pos (Nat.succ_le_succ hcount))

/-- With the count at 4 the entry into DOZE leaves the count (R183). -/
theorem State.enterDoze_counted (h : s.clk.quietTicks = 4) : s.enterDoze =
    s.setClk { s.clk with state := .doze, wakeDue := earliestDue s.clk.partTime s.runningDues } := by
  rw [State.enterDoze, show Config.quietTicks = s.clk.quietTicks from h.symm]

theorem exec_dozeEntry (hcan : s.canTake = true) (h : s.clk.quietTicks = 4) : exec .dozeEntry s = .next s.enterDoze :=
  congrArg Host.Outcome.next (if_pos (by rw [hcan, h]; rfl))

theorem exec_warmUpStart {cause : WakeCause} (hrun : s.clk.power = .running)
    (hcause : cause ≠ .wakeDue ∨ s.wakeCome = true) : exec (.warmUpStart cause) s = .next s.wake := by
  refine congrArg Host.Outcome.next (if_pos ?_)
  rw [decide_eq_true hrun, Bool.true_and]
  cases cause with
  | wakeDue => exact hcause.resolve_left (absurd rfl)
  | _ => rfl

end Tick

/-! ## Events while the main clock does not run (R184) -/

section Waits
variable {s : State}

theorem State.setPins_wake (s : State) (x : Pins) : (s.setPins x).wake = s.wake.setPins x := by
  unfold State.wake
  rw [State.setPins_clk]
  split <;> rfl

/-- The frames cut off as LINK falls free their places and are counted (R65). -/
theorem State.cutArriving_eq (s : State) : s.cutArriving = (s.setRx { s.rx with arriving := [] }).setCounters
    { s.counters with
      framesBad := bump32By s.counters.framesBad (s.rx.arriving.filter fun a => decide (a = .staged)).length } := rfl

/-- The frames cut off as LINK falls meet the reception alone, the waking the clock alone. -/
theorem State.cutArriving_wake (s : State) : s.cutArriving.wake = s.wake.cutArriving := by
  unfold State.wake
  rw [show s.cutArriving.clk = s.clk from rfl]
  split <;> rfl

/-- LINK's fall while the main clock does not run: it cuts off the frames on their way in, and its drop waits (R65, R184). -/
theorem exec_lineLinkDrop_waits (hrun : s.clk.power = .running) (hidle : s.clk.state ≠ .active)
    (hlink : s.pins.link = true) : exec .lineLinkDrop s =
      .next ((s.wake.setPins { s.pins with link := false }).cutArriving.defer .linkDrop) := by
  rw [← State.setPins_wake, ← State.cutArriving_wake]
  exact congrArg Host.Outcome.next ((if_pos hlink).trans ((if_pos (decide_eq_true hrun)).trans
    (State.takeOrDefer_of_not_active (State.wake_not_active (by exact hidle)) _ _)))

/-- LINK's rise, whose return is taken now or waits (R160, R184). -/
theorem exec_lineLinkReturn_rising (hrun : s.clk.power = .running) (hlink : s.pins.link = false) :
    exec .lineLinkReturn s =
      .next ((s.wake.setPins { s.pins with link := true }).takeOrDefer .linkReturn State.takeLinkReturn) := by
  rw [← State.setPins_wake]
  exact congrArg Host.Outcome.next ((if_pos (by rw [hlink]; rfl)).trans (if_pos (decide_eq_true hrun)))

theorem exec_lineLinkReturn_waits (hrun : s.clk.power = .running) (hidle : s.clk.state ≠ .active)
    (hlink : s.pins.link = false) :
    exec .lineLinkReturn s = .next ((s.wake.setPins { s.pins with link := true }).defer .linkReturn) := by
  rw [exec_lineLinkReturn_rising hrun hlink,
    State.takeOrDefer_of_not_active (s := s.wake.setPins { s.pins with link := true }) (State.wake_not_active hidle)]

theorem exec_stnRdyChange_waits {high : Bool} (hrun : s.clk.power = .running) (hidle : s.clk.state ≠ .active)
    (h : s.pins.stnRdy ≠ high) :
    exec (.stnRdyChange high) s = .next ((s.setPins { s.pins with stnRdy := high }).defer (.stnRdy high)) :=
  congrArg Host.Outcome.next ((if_pos (decide_eq_true h)).trans ((if_pos (decide_eq_true hrun)).trans
    (State.takeOrDefer_of_not_active (by exact hidle) _ _)))

theorem exec_deliveryEnd_waits (hrun : s.clk.power = .running) (hidle : s.clk.state ≠ .active) :
    exec .deliveryEnd s = .next (s.defer .deliveryEnd) :=
  congrArg Host.Outcome.next ((if_pos (decide_eq_true hrun)).trans (State.takeOrDefer_of_not_active hidle _ _))

/-- A station frame starts: it wakes a dozing part, and gets a place while the link is up and one of two is free (R156,
R184). -/
theorem exec_stationFrameStart_any (hrun : s.clk.power = .running) : exec .stationFrameStart s =
    .next (s.wake.setStn { s.stn with arriving := s.stn.arriving ++
      [if s.tx.linkUp && decide (s.stn.used < 2) then .staged else .refused] }) := by
  have hblocks : s.wake.stn = s.stn ∧ s.wake.tx = s.tx := by unfold State.wake; split <;> exact ⟨rfl, rfl⟩
  refine congrArg Host.Outcome.next ((if_pos (decide_eq_true hrun)).trans ?_)
  dsimp only
  rw [hblocks.1, hblocks.2]

/-- A station frame with no place, or a bad one, is gone at its end in every clock state (R156). -/
theorem exec_stationFrameTaking_gone {bytes : List Byte} {fcs : Fcs} {a : Arriving} {rest : List Arriving}
    (hrun : s.clk.power = .running) (h : s.stn.arriving = a :: rest)
    (hgone : ¬ (a = .staged ∧ Frame.good { bytes, fcs } = true)) :
    exec (.stationFrameTaking bytes fcs) s = .next (s.setStn { s.stn with arriving := rest }) := by
  refine congrArg Host.Outcome.next ((if_pos (decide_eq_true hrun)).trans ?_)
  dsimp only [State.stationFrameEnds]
  rw [h]
  exact if_neg hgone

/-- A good station frame that ends while the main clock does not run keeps its place until its taking (R184). -/
theorem exec_stationFrameTaking_waits {bytes : List Byte} {fcs : Fcs} {rest : List Arriving}
    (hrun : s.clk.power = .running) (hidle : s.clk.state ≠ .active) (h : s.stn.arriving = .staged :: rest)
    (hgood : Frame.good { bytes, fcs } = true) : exec (.stationFrameTaking bytes fcs) s =
      .next ((s.setStn { s.stn with arriving := rest, untaken := s.stn.untaken ++ [{ bytes, fcs }] }).defer
        .stationFrame) := by
  refine congrArg Host.Outcome.next ((if_pos (decide_eq_true hrun)).trans ?_)
  dsimp only [State.stationFrameEnds]
  rw [h]
  exact (if_pos ⟨rfl, hgood⟩).trans (if_neg hidle)

theorem State.takeUntaken_head {f : Frame} {rest : List Frame} (h : s.stn.untaken = f :: rest) :
    s.takeUntaken = (s.setStn { s.stn with untaken := rest }).takeStationFrame f := by
  unfold State.takeUntaken; rw [h]

end Waits

/-! ## What waited alone, at the end of warm-up (R184) -/

section WarmUpEnd
variable {s : State}

/-- The part ACTIVE again, with nothing waiting (R184). -/
def State.warmedUp (s : State) : State := s.setClk { s.clk with state := .active, quietTicks := 0, waiting := [] }

theorem State.canTake_warmedUp (hrun : s.clk.power = .running) : s.warmedUp.canTake = true :=
  State.canTake_iff.2 ⟨hrun, rfl⟩

theorem State.warmedUp_of_nothing (h : s.clk.waiting = []) :
    s.warmedUp = s.setClk { s.clk with state := .active, quietTicks := 0 } := by
  rw [State.warmedUp, ← h]

theorem exec_warmUpEnd_nothing (hrun : s.clk.power = .running) (hwarm : s.clk.state = .warmUp)
    (h : s.clk.waiting = []) : exec .warmUpEnd s = .next s.warmedUp := by
  rw [exec_warmUpEnd hrun hwarm, h]
  rfl

/-- A command while the part warms up and then the end of warm-up come to the command once ACTIVE (R184). -/
def TakenAfterWarmUp (s : State) (c : Instr) : Prop := ∃ a, exec c s = .next a ∧ exec .warmUpEnd a = exec c s.warmedUp

/-- What is over at once, in warm-up as in ACTIVE. -/
theorem takenAfterWarmUp_of_kept {c : Instr} {t : State} (hrun : s.clk.power = .running) (hwarm : s.clk.state = .warmUp)
    (halone : s.clk.waiting = []) (htwarm : t.clk = s.clk) (hwaits : exec c s = .next t)
    (htaken : exec c s.warmedUp = .next t.warmedUp) : TakenAfterWarmUp s c := by
  refine ⟨t, hwaits, ?_⟩
  rw [exec_warmUpEnd_nothing (by rw [htwarm, hrun]) (by rw [htwarm, hwarm]) (by rw [htwarm, halone]), htaken]

/-- What waits alone and is taken by the same rule at once in ACTIVE. -/
theorem takenAfterWarmUp_of_deferred {c : Instr} {w : Waiting} {t : State} (hrun : s.clk.power = .running)
    (hwarm : s.clk.state = .warmUp) (halone : s.clk.waiting = []) (htwarm : t.clk = s.clk)
    (hwaits : exec c s = .next (t.defer w)) (htaken : exec c s.warmedUp = .next (t.warmedUp.takeWaiting w)) :
    TakenAfterWarmUp s c := by
  refine ⟨_, hwaits, ?_⟩
  rw [exec_warmUpEnd_defer (by rw [htwarm, hrun]) (by rw [htwarm, hwarm]) (by rw [htwarm, halone]), htaken]
  rfl

end WarmUpEnd

section Events
variable {s : State}

theorem exec_lineLinkDrop_low (h : s.pins.link = false) : exec .lineLinkDrop s = .next s :=
  congrArg Host.Outcome.next (if_neg (ne_true_of_eq_false h))

theorem exec_lineLinkReturn_high (h : s.pins.link = true) : exec .lineLinkReturn s = .next s :=
  congrArg Host.Outcome.next (if_neg (by rw [h]; decide))

theorem exec_stnRdyChange_same {high : Bool} (h : s.pins.stnRdy = high) : exec (.stnRdyChange high) s = .next s :=
  congrArg Host.Outcome.next (if_neg fun hne => absurd h (of_decide_eq_true hne))

theorem exec_stationFrameTaking_none (hrun : s.clk.power = .running) (h : s.stn.arriving = []) (bytes : List Byte)
    (fcs : Fcs) : exec (.stationFrameTaking bytes fcs) s = .next s := by
  refine congrArg Host.Outcome.next ((if_pos (decide_eq_true hrun)).trans ?_)
  dsimp only [State.stationFrameEnds]
  rw [h]

variable (hrun : s.clk.power = .running) (hwarm : s.clk.state = .warmUp) (halone : s.clk.waiting = [])
include hrun hwarm halone

theorem lineLinkDrop_takenAfterWarmUp : TakenAfterWarmUp s .lineLinkDrop := by
  cases hlink : s.pins.link with
  | false =>
    exact takenAfterWarmUp_of_kept hrun hwarm halone rfl (exec_lineLinkDrop_low hlink)
      (exec_lineLinkDrop_low (s := s.warmedUp) hlink)
  | true =>
    refine takenAfterWarmUp_of_deferred hrun hwarm halone (w := .linkDrop)
      (t := (s.setPins { s.pins with link := false }).cutArriving) rfl ?_
      (exec_lineLinkDrop (s := s.warmedUp) (State.canTake_warmedUp hrun) hlink)
    rw [exec_lineLinkDrop_waits hrun (by rw [hwarm]; decide) hlink, State.wake_awake (by rw [hwarm]; decide)]

theorem lineLinkReturn_takenAfterWarmUp : TakenAfterWarmUp s .lineLinkReturn := by
  cases hlink : s.pins.link with
  | true =>
    exact takenAfterWarmUp_of_kept hrun hwarm halone rfl (exec_lineLinkReturn_high hlink)
      (exec_lineLinkReturn_high (s := s.warmedUp) hlink)
  | false =>
    refine takenAfterWarmUp_of_deferred hrun hwarm halone (w := .linkReturn)
      (t := s.setPins { s.pins with link := true }) rfl ?_
      (exec_lineLinkReturn_rising (s := s.warmedUp) hrun hlink)
    rw [exec_lineLinkReturn_waits hrun (by rw [hwarm]; decide) hlink, State.wake_awake (by rw [hwarm]; decide)]

theorem stnRdyChange_takenAfterWarmUp (high : Bool) : TakenAfterWarmUp s (.stnRdyChange high) := by
  by_cases hsame : s.pins.stnRdy = high
  · exact takenAfterWarmUp_of_kept hrun hwarm halone rfl (exec_stnRdyChange_same hsame)
      (exec_stnRdyChange_same (s := s.warmedUp) hsame)
  · exact takenAfterWarmUp_of_deferred hrun hwarm halone (t := s.setPins { s.pins with stnRdy := high }) rfl
      (exec_stnRdyChange_waits hrun (by rw [hwarm]; decide) hsame)
      (exec_stnRdyChange (s := s.warmedUp) (State.canTake_warmedUp hrun) hsame)

theorem deliveryEnd_takenAfterWarmUp : TakenAfterWarmUp s .deliveryEnd :=
  takenAfterWarmUp_of_deferred hrun hwarm halone rfl (exec_deliveryEnd_waits hrun (by rw [hwarm]; decide))
    (exec_deliveryEnd (s := s.warmedUp) (State.canTake_warmedUp hrun))

theorem stationFrameTaking_takenAfterWarmUp (huntaken : s.stn.untaken = []) (bytes : List Byte) (fcs : Fcs) :
    TakenAfterWarmUp s (.stationFrameTaking bytes fcs) := by
  cases harriving : s.stn.arriving with
  | nil =>
    exact takenAfterWarmUp_of_kept hrun hwarm halone rfl (exec_stationFrameTaking_none hrun harriving bytes fcs)
      (exec_stationFrameTaking_none (s := s.warmedUp) hrun harriving bytes fcs)
  | cons a rest =>
    by_cases htaken : a = .staged ∧ Frame.good { bytes, fcs } = true
    · obtain ⟨rfl, hgood⟩ := htaken
      refine takenAfterWarmUp_of_deferred hrun hwarm halone
        (t := s.setStn { s.stn with arriving := rest, untaken := s.stn.untaken ++ [{ bytes, fcs }] }) rfl
        (exec_stationFrameTaking_waits hrun (by rw [hwarm]; decide) harriving hgood) ?_
      rw [exec_stationFrameTaking (s := s.warmedUp) (State.canTake_warmedUp hrun) harriving, if_pos ⟨rfl, hgood⟩,
        State.takeWaiting, State.takeUntaken_head (rest := []) (by rw [huntaken]; rfl)]
      refine congrArg (fun p => Host.Outcome.next ((s.warmedUp.setStn p).takeStationFrame { bytes, fcs })) ?_
      rw [← huntaken]
      rfl
    · exact takenAfterWarmUp_of_kept hrun hwarm halone (t := s.setStn { s.stn with arriving := rest }) rfl
        (exec_stationFrameTaking_gone hrun harriving htaken)
        (exec_stationFrameTaking_gone (s := s.warmedUp) hrun harriving htaken)

end Events

end Sys2Proof.Machine

open Sys2Proof Sys2Proof.Machine

/-- Settles O52: the tick in each clock state, and each event while the main clock does not run, at its coming and at the
end of warm-up. -/
theorem theClockFollowsItsTicks : Obligations.TheClockFollowsItsTicks := by
  intro s hrun now quiet running wakes
  rw [exec_tick hrun]
  refine ⟨fun hactive => ?_, fun hwarm => ?_, fun hdoze => ?_, fun hidle => ?_,
    fun hwarm halone huntaken c hc => ?_⟩
  · have hcan : s.canTake = true := State.canTake_iff.2 ⟨hrun, hactive⟩
    rw [State.takeTick_active hactive]
    refine ⟨fun hloud => ?_, fun hquiet hcount => ?_, fun hquiet hcount => ?_, fun hcount => ?_⟩
    · exact congrArg Host.Outcome.next (State.quietTest_loud (mt s.quiet_iff.1 hloud))
    · exact congrArg Host.Outcome.next (State.quietTest_counts (s := s.ticked) (s.quiet_iff.2 hquiet) hcount)
    · exact ⟨_, s.earliestDue_wakes now,
        congrArg Host.Outcome.next (State.quietTest_dozes (s := s.ticked) (s.quiet_iff.2 hquiet) hcount)⟩
    · refine ⟨_, s.earliestDue_wakes s.clk.partTime, ?_⟩
      rw [exec_dozeEntry hcan hcount, State.enterDoze_counted hcount]
  · refine ⟨congrArg Host.Outcome.next (State.takeTick_warmUp hwarm), fun halone => ?_⟩
    rw [exec_warmUpEnd_nothing hrun hwarm halone, State.warmedUp_of_nothing halone]
  · intro warming
    rw [State.takeTick_doze hdoze]
    refine ⟨fun w hw hcame => ?_, fun hnot => ?_, fun cause hcause => ?_⟩
    · have hcome : s.ticked.wakeCome = true := State.wakeCome_iff.2 ⟨w, hw, hcame⟩
      exact congrArg Host.Outcome.next ((if_pos hcome).trans (State.wake_of_doze (s := s.ticked) hdoze))
    · refine congrArg Host.Outcome.next (if_neg fun hcome => ?_)
      obtain ⟨w, hw, hcame⟩ := State.wakeCome_iff.1 hcome
      have hdue : s.clk.wakeDue = some w := hw
      rcases hnot with hnone | ⟨v, hv, hfar⟩
      · cases hdue.symm.trans hnone
      · cases hdue.symm.trans hv
        exact Nat.not_lt.2 hfar hcame
    · rw [exec_warmUpStart hrun (hcause.imp_right State.wakeCome_iff.2), State.wake_of_doze hdoze]
  · intro woken waits onTheWay
    refine ⟨fun hlink => ?_, fun hlink => exec_lineLinkReturn_waits hrun hidle hlink,
      ?_, fun bytes fcs a rest harriving => ⟨fun hgone => ?_, fun hstaged hframe => ?_⟩,
      fun high hchange => exec_stnRdyChange_waits hrun hidle hchange, exec_deliveryEnd_waits hrun hidle⟩
    · rw [exec_lineLinkDrop_waits hrun hidle hlink, State.cutArriving_eq, State.setPins_rx, State.setPins_counters,
        State.wake_rx, State.wake_counters]
      rfl
    · rw [exec_stationFrameStart_any hrun]
      simp only [Bool.and_eq_true, decide_eq_true_iff]
      rfl
    · refine exec_stationFrameTaking_gone hrun harriving ?_
      rintro ⟨rfl, h⟩
      exact hgone.elim nofun (absurd ((Frame.good_iff _).1 h))
    · subst hstaged
      exact exec_stationFrameTaking_waits hrun hidle harriving ((Frame.good_iff _).2 hframe)
  · rcases hc with rfl | rfl | ⟨bytes, fcs, rfl⟩ | ⟨high, rfl⟩ | rfl
    · exact lineLinkDrop_takenAfterWarmUp hrun hwarm halone
    · exact lineLinkReturn_takenAfterWarmUp hrun hwarm halone
    · exact stationFrameTaking_takenAfterWarmUp hrun hwarm halone huntaken bytes fcs
    · exact stnRdyChange_takenAfterWarmUp hrun hwarm halone high
    · exact deliveryEnd_takenAfterWarmUp hrun hwarm halone

end

section
/-! SUPPORT. A step: the queue of waiting commands, empty or not (section 11.1, log entry 8). -/

namespace Sys2Proof.Machine

/-- The front command leaves the queue before it runs: `exec` is given the state that waits for the rest only. -/
theorem step_of_pending_cons {s : State} {c : Instr} {rest : List Instr} (h : s.pending = c :: rest) :
    step s = exec c { s with pending := rest } := by
  rw [step, h]

theorem step_of_pending_nil {s : State} (h : s.pending = []) : step s = .next s := by
  rw [step, h]

end Sys2Proof.Machine

open Sys2Proof Sys2Proof.Machine

/-- Settles O1: the two cases of the queue, one equation of `step` each. -/
theorem stepRunsFrontCommand : Obligations.StepRunsFrontCommand :=
  ⟨fun _ _ _ hfront => step_of_pending_cons hfront, fun _ hidle => step_of_pending_nil hidle⟩

end
